-- ==== Sys2Proof/Word.lean ====
section
/-! DEFINITION. The word types (00_scope.md R9): a word is 32 bits, a halfword 16, a byte 8. -/

namespace Sys2Proof

/-- A word, 32 bits (R9). -/
abbrev Word := BitVec 32
/-- A halfword, 16 bits (R9). -/
abbrev Half := BitVec 16
/-- A byte, 8 bits (R9). -/
abbrev Byte := BitVec 8
/-- A general register number of an ARM instruction field, r0 to r15 (10_state.md R23, R25). -/
abbrev RegNum := BitVec 4
/-- A low register number of a Thumb instruction field, r0 to r7 (10_state.md R31, R32). -/
abbrev LowReg := BitVec 3

end Sys2Proof
end

