-- ==== Sys2Proof/Config.lean ====
section
/-! DEFINITION. What the spec leaves open and what the implementation fixes: the free values (00_scope.md R10 `any`, 93), the
parameters with no default (R8), and the fixed identification values (R7). Nothing in Lean can evaluate an opaque constant. -/

namespace Sys2Proof

/-- The free values: `Config.any k` is the k-th value drawn (log 3). -/
opaque Config.any : Nat → BitVec 32

/-- The values an HRESETn event leaves in the registers the spec calls unspecified after reset (70 R745 `reset_regs`). -/
opaque Config.resetReg : Nat → BitVec 32

/-- What a banked register reads as in the instruction after a user-bank LDM (70 R757), by draw and physical index. -/
opaque Config.bankedRead : Nat → Nat → BitVec 32

/-- The domain number that a RAM1 domain field which is not one-hot selects (10 R74 gives one-hot values only). -/
opaque Config.domainOfField : BitVec 16 → BitVec 4

/-- The AP value that a RAM1 AP field which is not one-hot selects (10 R74 gives one-hot values only). -/
opaque Config.apOfField : BitVec 4 → BitVec 2

/-- The tag bits a SIZE_C value outside the five of 10 R74 makes the CAM compare, as a mask of MVA[31:10]. -/
opaque Config.sizeCMask : BitVec 4 → BitVec 22

/-- The address bits a SIZE_R2 value outside the five of 10 R74 takes from the PA tag, as a mask of PA[31:10]. -/
opaque Config.sizeR2Mask : BitVec 4 → BitVec 22

/-- Whether a TLB entry whose SIZE_C is outside the five of 10 R74 reports faults as a section (else as a page). -/
opaque Config.sizeCSection : BitVec 4 → Bool

/-- `tlb_ram2_layout` (46 R595): the RAM2 test word of a PA tag and a SIZE_R2 value. -/
opaque Config.ram2Pack : BitVec 22 → BitVec 4 → BitVec 32

/-- `tlb_ram2_layout` (46 R595): the PA tag of a RAM2 test word. -/
opaque Config.ram2Tag : BitVec 32 → BitVec 22

/-- `tlb_ram2_layout` (46 R595): the SIZE_R2 field of a RAM2 test word. -/
opaque Config.ram2Size : BitVec 32 → BitVec 4

/-- Whether an external read that is neither locked nor part of a line fetch or a table walk is driven as an INCR burst rather than
SINGLE (20 R149 does not say when; log 40), by draw and place in the step. -/
opaque Config.incrBurst : Nat → Nat → Bool

/-- The value a processor reads from the CP15 ID register (10 R49). -/
def Config.idRegister : Word := 0x41807204#32

/-- The JTAG device identification code (61 R710). -/
def Config.idCode : Word := 0x7F1F0F0F#32

end Sys2Proof
end

