-- ==== Sys2Proof/Syntax.lean ====
section
/-! DEFINITION. Abstract syntax: one constructor per row of spec/opcode_table.json (30_encoding.md). Fields that the spec
marks SBZ or SBO and fields it says are ignored are not kept (92_eei_decisions.md D16, 40 R308). -/

namespace Sys2Proof

/-- The condition field, 30_encoding.md R233, R234. -/
inductive Cond where
  | eq | ne | cs | cc | mi | pl | vs | vc | hi | ls | ge | lt | gt | le | al | nv
  deriving DecidableEq, Repr

/-- The shift type field, 30_encoding.md R242. -/
inductive ShiftType where
  | lsl | lsr | asr | ror
  deriving DecidableEq, Repr

/-- The instructions. Names: `Imm`, `Shift`, `RegShift` are formats A1, A2, A3; `Pre` is P = 1, `Post` is P = 0, W = 0;
`t` in front names a Thumb row. `s` is the S bit, `p u w` the P, U, W bits, `r` the R bit. -/
inductive Instr where
  /-- `AND`, A1, `cccc0010000Snnnnddddrrrriiiiiiii`, R310. -/
  | andImm (cond : Cond) (s : Bool) (rn : RegNum) (rd : RegNum) (rot : BitVec 4) (imm8 : BitVec 8)
  /-- `AND`, A2, `cccc0000000Snnnnddddaaaaatt0mmmm`, R310. -/
  | andShift (cond : Cond) (s : Bool) (rn : RegNum) (rd : RegNum) (amount : BitVec 5) (shift : ShiftType) (rm : RegNum)
  /-- `AND`, A3, `cccc0000000Snnnnddddssss0tt1mmmm`, R310. -/
  | andRegShift (cond : Cond) (s : Bool) (rn : RegNum) (rd : RegNum) (rs : RegNum) (shift : ShiftType) (rm : RegNum)
  /-- `EOR`, A1, `cccc0010001Snnnnddddrrrriiiiiiii`, R311. -/
  | eorImm (cond : Cond) (s : Bool) (rn : RegNum) (rd : RegNum) (rot : BitVec 4) (imm8 : BitVec 8)
  /-- `EOR`, A2, `cccc0000001Snnnnddddaaaaatt0mmmm`, R311. -/
  | eorShift (cond : Cond) (s : Bool) (rn : RegNum) (rd : RegNum) (amount : BitVec 5) (shift : ShiftType) (rm : RegNum)
  /-- `EOR`, A3, `cccc0000001Snnnnddddssss0tt1mmmm`, R311. -/
  | eorRegShift (cond : Cond) (s : Bool) (rn : RegNum) (rd : RegNum) (rs : RegNum) (shift : ShiftType) (rm : RegNum)
  /-- `SUB`, A1, `cccc0010010Snnnnddddrrrriiiiiiii`, R312. -/
  | subImm (cond : Cond) (s : Bool) (rn : RegNum) (rd : RegNum) (rot : BitVec 4) (imm8 : BitVec 8)
  /-- `SUB`, A2, `cccc0000010Snnnnddddaaaaatt0mmmm`, R312. -/
  | subShift (cond : Cond) (s : Bool) (rn : RegNum) (rd : RegNum) (amount : BitVec 5) (shift : ShiftType) (rm : RegNum)
  /-- `SUB`, A3, `cccc0000010Snnnnddddssss0tt1mmmm`, R312. -/
  | subRegShift (cond : Cond) (s : Bool) (rn : RegNum) (rd : RegNum) (rs : RegNum) (shift : ShiftType) (rm : RegNum)
  /-- `RSB`, A1, `cccc0010011Snnnnddddrrrriiiiiiii`, R313. -/
  | rsbImm (cond : Cond) (s : Bool) (rn : RegNum) (rd : RegNum) (rot : BitVec 4) (imm8 : BitVec 8)
  /-- `RSB`, A2, `cccc0000011Snnnnddddaaaaatt0mmmm`, R313. -/
  | rsbShift (cond : Cond) (s : Bool) (rn : RegNum) (rd : RegNum) (amount : BitVec 5) (shift : ShiftType) (rm : RegNum)
  /-- `RSB`, A3, `cccc0000011Snnnnddddssss0tt1mmmm`, R313. -/
  | rsbRegShift (cond : Cond) (s : Bool) (rn : RegNum) (rd : RegNum) (rs : RegNum) (shift : ShiftType) (rm : RegNum)
  /-- `ADD`, A1, `cccc0010100Snnnnddddrrrriiiiiiii`, R314. -/
  | addImm (cond : Cond) (s : Bool) (rn : RegNum) (rd : RegNum) (rot : BitVec 4) (imm8 : BitVec 8)
  /-- `ADD`, A2, `cccc0000100Snnnnddddaaaaatt0mmmm`, R314. -/
  | addShift (cond : Cond) (s : Bool) (rn : RegNum) (rd : RegNum) (amount : BitVec 5) (shift : ShiftType) (rm : RegNum)
  /-- `ADD`, A3, `cccc0000100Snnnnddddssss0tt1mmmm`, R314. -/
  | addRegShift (cond : Cond) (s : Bool) (rn : RegNum) (rd : RegNum) (rs : RegNum) (shift : ShiftType) (rm : RegNum)
  /-- `ADC`, A1, `cccc0010101Snnnnddddrrrriiiiiiii`, R315. -/
  | adcImm (cond : Cond) (s : Bool) (rn : RegNum) (rd : RegNum) (rot : BitVec 4) (imm8 : BitVec 8)
  /-- `ADC`, A2, `cccc0000101Snnnnddddaaaaatt0mmmm`, R315. -/
  | adcShift (cond : Cond) (s : Bool) (rn : RegNum) (rd : RegNum) (amount : BitVec 5) (shift : ShiftType) (rm : RegNum)
  /-- `ADC`, A3, `cccc0000101Snnnnddddssss0tt1mmmm`, R315. -/
  | adcRegShift (cond : Cond) (s : Bool) (rn : RegNum) (rd : RegNum) (rs : RegNum) (shift : ShiftType) (rm : RegNum)
  /-- `SBC`, A1, `cccc0010110Snnnnddddrrrriiiiiiii`, R316. -/
  | sbcImm (cond : Cond) (s : Bool) (rn : RegNum) (rd : RegNum) (rot : BitVec 4) (imm8 : BitVec 8)
  /-- `SBC`, A2, `cccc0000110Snnnnddddaaaaatt0mmmm`, R316. -/
  | sbcShift (cond : Cond) (s : Bool) (rn : RegNum) (rd : RegNum) (amount : BitVec 5) (shift : ShiftType) (rm : RegNum)
  /-- `SBC`, A3, `cccc0000110Snnnnddddssss0tt1mmmm`, R316. -/
  | sbcRegShift (cond : Cond) (s : Bool) (rn : RegNum) (rd : RegNum) (rs : RegNum) (shift : ShiftType) (rm : RegNum)
  /-- `RSC`, A1, `cccc0010111Snnnnddddrrrriiiiiiii`, R317. -/
  | rscImm (cond : Cond) (s : Bool) (rn : RegNum) (rd : RegNum) (rot : BitVec 4) (imm8 : BitVec 8)
  /-- `RSC`, A2, `cccc0000111Snnnnddddaaaaatt0mmmm`, R317. -/
  | rscShift (cond : Cond) (s : Bool) (rn : RegNum) (rd : RegNum) (amount : BitVec 5) (shift : ShiftType) (rm : RegNum)
  /-- `RSC`, A3, `cccc0000111Snnnnddddssss0tt1mmmm`, R317. -/
  | rscRegShift (cond : Cond) (s : Bool) (rn : RegNum) (rd : RegNum) (rs : RegNum) (shift : ShiftType) (rm : RegNum)
  /-- `TST`, A1, `cccc00110001nnnnddddrrrriiiiiiii`, R318. -/
  | tstImm (cond : Cond) (rn : RegNum) (rot : BitVec 4) (imm8 : BitVec 8)
  /-- `TST`, A2, `cccc00010001nnnnddddaaaaatt0mmmm`, R318. -/
  | tstShift (cond : Cond) (rn : RegNum) (amount : BitVec 5) (shift : ShiftType) (rm : RegNum)
  /-- `TST`, A3, `cccc00010001nnnnddddssss0tt1mmmm`, R318. -/
  | tstRegShift (cond : Cond) (rn : RegNum) (rs : RegNum) (shift : ShiftType) (rm : RegNum)
  /-- `TEQ`, A1, `cccc00110011nnnnddddrrrriiiiiiii`, R319. -/
  | teqImm (cond : Cond) (rn : RegNum) (rot : BitVec 4) (imm8 : BitVec 8)
  /-- `TEQ`, A2, `cccc00010011nnnnddddaaaaatt0mmmm`, R319. -/
  | teqShift (cond : Cond) (rn : RegNum) (amount : BitVec 5) (shift : ShiftType) (rm : RegNum)
  /-- `TEQ`, A3, `cccc00010011nnnnddddssss0tt1mmmm`, R319. -/
  | teqRegShift (cond : Cond) (rn : RegNum) (rs : RegNum) (shift : ShiftType) (rm : RegNum)
  /-- `CMP`, A1, `cccc00110101nnnnddddrrrriiiiiiii`, R320. -/
  | cmpImm (cond : Cond) (rn : RegNum) (rot : BitVec 4) (imm8 : BitVec 8)
  /-- `CMP`, A2, `cccc00010101nnnnddddaaaaatt0mmmm`, R320. -/
  | cmpShift (cond : Cond) (rn : RegNum) (amount : BitVec 5) (shift : ShiftType) (rm : RegNum)
  /-- `CMP`, A3, `cccc00010101nnnnddddssss0tt1mmmm`, R320. -/
  | cmpRegShift (cond : Cond) (rn : RegNum) (rs : RegNum) (shift : ShiftType) (rm : RegNum)
  /-- `CMN`, A1, `cccc00110111nnnnddddrrrriiiiiiii`, R321. -/
  | cmnImm (cond : Cond) (rn : RegNum) (rot : BitVec 4) (imm8 : BitVec 8)
  /-- `CMN`, A2, `cccc00010111nnnnddddaaaaatt0mmmm`, R321. -/
  | cmnShift (cond : Cond) (rn : RegNum) (amount : BitVec 5) (shift : ShiftType) (rm : RegNum)
  /-- `CMN`, A3, `cccc00010111nnnnddddssss0tt1mmmm`, R321. -/
  | cmnRegShift (cond : Cond) (rn : RegNum) (rs : RegNum) (shift : ShiftType) (rm : RegNum)
  /-- `ORR`, A1, `cccc0011100Snnnnddddrrrriiiiiiii`, R322. -/
  | orrImm (cond : Cond) (s : Bool) (rn : RegNum) (rd : RegNum) (rot : BitVec 4) (imm8 : BitVec 8)
  /-- `ORR`, A2, `cccc0001100Snnnnddddaaaaatt0mmmm`, R322. -/
  | orrShift (cond : Cond) (s : Bool) (rn : RegNum) (rd : RegNum) (amount : BitVec 5) (shift : ShiftType) (rm : RegNum)
  /-- `ORR`, A3, `cccc0001100Snnnnddddssss0tt1mmmm`, R322. -/
  | orrRegShift (cond : Cond) (s : Bool) (rn : RegNum) (rd : RegNum) (rs : RegNum) (shift : ShiftType) (rm : RegNum)
  /-- `MOV`, A1, `cccc0011101Snnnnddddrrrriiiiiiii`, R323. -/
  | movImm (cond : Cond) (s : Bool) (rd : RegNum) (rot : BitVec 4) (imm8 : BitVec 8)
  /-- `MOV`, A2, `cccc0001101Snnnnddddaaaaatt0mmmm`, R323. -/
  | movShift (cond : Cond) (s : Bool) (rd : RegNum) (amount : BitVec 5) (shift : ShiftType) (rm : RegNum)
  /-- `MOV`, A3, `cccc0001101Snnnnddddssss0tt1mmmm`, R323. -/
  | movRegShift (cond : Cond) (s : Bool) (rd : RegNum) (rs : RegNum) (shift : ShiftType) (rm : RegNum)
  /-- `BIC`, A1, `cccc0011110Snnnnddddrrrriiiiiiii`, R324. -/
  | bicImm (cond : Cond) (s : Bool) (rn : RegNum) (rd : RegNum) (rot : BitVec 4) (imm8 : BitVec 8)
  /-- `BIC`, A2, `cccc0001110Snnnnddddaaaaatt0mmmm`, R324. -/
  | bicShift (cond : Cond) (s : Bool) (rn : RegNum) (rd : RegNum) (amount : BitVec 5) (shift : ShiftType) (rm : RegNum)
  /-- `BIC`, A3, `cccc0001110Snnnnddddssss0tt1mmmm`, R324. -/
  | bicRegShift (cond : Cond) (s : Bool) (rn : RegNum) (rd : RegNum) (rs : RegNum) (shift : ShiftType) (rm : RegNum)
  /-- `MVN`, A1, `cccc0011111Snnnnddddrrrriiiiiiii`, R325. -/
  | mvnImm (cond : Cond) (s : Bool) (rd : RegNum) (rot : BitVec 4) (imm8 : BitVec 8)
  /-- `MVN`, A2, `cccc0001111Snnnnddddaaaaatt0mmmm`, R325. -/
  | mvnShift (cond : Cond) (s : Bool) (rd : RegNum) (amount : BitVec 5) (shift : ShiftType) (rm : RegNum)
  /-- `MVN`, A3, `cccc0001111Snnnnddddssss0tt1mmmm`, R325. -/
  | mvnRegShift (cond : Cond) (s : Bool) (rd : RegNum) (rs : RegNum) (shift : ShiftType) (rm : RegNum)
  /-- `MUL`, A4, `cccc0000000Sddddzzzzssss1001mmmm`, R351. -/
  | mul (cond : Cond) (s : Bool) (rd : RegNum) (rs : RegNum) (rm : RegNum)
  /-- `MLA`, A4, `cccc0000001Sddddnnnnssss1001mmmm`, R352. -/
  | mla (cond : Cond) (s : Bool) (rd : RegNum) (rn : RegNum) (rs : RegNum) (rm : RegNum)
  /-- `UMULL`, A5, `cccc0000100Shhhhwwwwssss1001mmmm`, R353. -/
  | umull (cond : Cond) (s : Bool) (rdHi : RegNum) (rdLo : RegNum) (rs : RegNum) (rm : RegNum)
  /-- `UMLAL`, A5, `cccc0000101Shhhhwwwwssss1001mmmm`, R354. -/
  | umlal (cond : Cond) (s : Bool) (rdHi : RegNum) (rdLo : RegNum) (rs : RegNum) (rm : RegNum)
  /-- `SMULL`, A5, `cccc0000110Shhhhwwwwssss1001mmmm`, R355. -/
  | smull (cond : Cond) (s : Bool) (rdHi : RegNum) (rdLo : RegNum) (rs : RegNum) (rm : RegNum)
  /-- `SMLAL`, A5, `cccc0000111Shhhhwwwwssss1001mmmm`, R356. -/
  | smlal (cond : Cond) (s : Bool) (rdHi : RegNum) (rdLo : RegNum) (rs : RegNum) (rm : RegNum)
  /-- `MRS`, A6, `cccc00010R00yyyyddddzzzz0000zzzz`, R358. -/
  | mrs (cond : Cond) (r : Bool) (rd : RegNum)
  /-- `MSR`, A7, `cccc00110R10kkkkyyyyrrrriiiiiiii`, R359. -/
  | msrImm (cond : Cond) (r : Bool) (mask : BitVec 4) (rot : BitVec 4) (imm8 : BitVec 8)
  /-- `MSR`, A8, `cccc00010R10kkkkyyyyzzzz0000mmmm`, R359. -/
  | msrReg (cond : Cond) (r : Bool) (mask : BitVec 4) (rm : RegNum)
  /-- `BX`, A9, `cccc000100101111111111110001mmmm`, R368. -/
  | bx (cond : Cond) (rm : RegNum)
  /-- `LDR`, A10, `cccc0101U0W1nnnnddddoooooooooooo`, R398. -/
  | ldrImmPre (cond : Cond) (u : Bool) (w : Bool) (rn : RegNum) (rd : RegNum) (imm12 : BitVec 12)
  /-- `LDR`, A10, `cccc0100U001nnnnddddoooooooooooo`, R398. -/
  | ldrImmPost (cond : Cond) (u : Bool) (rn : RegNum) (rd : RegNum) (imm12 : BitVec 12)
  /-- `LDRT`, A10, `cccc0100U011nnnnddddoooooooooooo`, R402. -/
  | ldrtImm (cond : Cond) (u : Bool) (rn : RegNum) (rd : RegNum) (imm12 : BitVec 12)
  /-- `LDR`, A11, `cccc0111U0W1nnnnddddaaaaatt0mmmm`, R398. -/
  | ldrRegPre (cond : Cond) (u : Bool) (w : Bool) (rn : RegNum) (rd : RegNum) (amount : BitVec 5) (shift : ShiftType) (rm : RegNum)
  /-- `LDR`, A11, `cccc0110U001nnnnddddaaaaatt0mmmm`, R398. -/
  | ldrRegPost (cond : Cond) (u : Bool) (rn : RegNum) (rd : RegNum) (amount : BitVec 5) (shift : ShiftType) (rm : RegNum)
  /-- `LDRT`, A11, `cccc0110U011nnnnddddaaaaatt0mmmm`, R402. -/
  | ldrtReg (cond : Cond) (u : Bool) (rn : RegNum) (rd : RegNum) (amount : BitVec 5) (shift : ShiftType) (rm : RegNum)
  /-- `LDRB`, A10, `cccc0101U1W1nnnnddddoooooooooooo`, R399. -/
  | ldrbImmPre (cond : Cond) (u : Bool) (w : Bool) (rn : RegNum) (rd : RegNum) (imm12 : BitVec 12)
  /-- `LDRB`, A10, `cccc0100U101nnnnddddoooooooooooo`, R399. -/
  | ldrbImmPost (cond : Cond) (u : Bool) (rn : RegNum) (rd : RegNum) (imm12 : BitVec 12)
  /-- `LDRBT`, A10, `cccc0100U111nnnnddddoooooooooooo`, R403. -/
  | ldrbtImm (cond : Cond) (u : Bool) (rn : RegNum) (rd : RegNum) (imm12 : BitVec 12)
  /-- `LDRB`, A11, `cccc0111U1W1nnnnddddaaaaatt0mmmm`, R399. -/
  | ldrbRegPre (cond : Cond) (u : Bool) (w : Bool) (rn : RegNum) (rd : RegNum) (amount : BitVec 5) (shift : ShiftType) (rm : RegNum)
  /-- `LDRB`, A11, `cccc0110U101nnnnddddaaaaatt0mmmm`, R399. -/
  | ldrbRegPost (cond : Cond) (u : Bool) (rn : RegNum) (rd : RegNum) (amount : BitVec 5) (shift : ShiftType) (rm : RegNum)
  /-- `LDRBT`, A11, `cccc0110U111nnnnddddaaaaatt0mmmm`, R403. -/
  | ldrbtReg (cond : Cond) (u : Bool) (rn : RegNum) (rd : RegNum) (amount : BitVec 5) (shift : ShiftType) (rm : RegNum)
  /-- `STR`, A10, `cccc0101U0W0nnnnddddoooooooooooo`, R400. -/
  | strImmPre (cond : Cond) (u : Bool) (w : Bool) (rn : RegNum) (rd : RegNum) (imm12 : BitVec 12)
  /-- `STR`, A10, `cccc0100U000nnnnddddoooooooooooo`, R400. -/
  | strImmPost (cond : Cond) (u : Bool) (rn : RegNum) (rd : RegNum) (imm12 : BitVec 12)
  /-- `STRT`, A10, `cccc0100U010nnnnddddoooooooooooo`, R404. -/
  | strtImm (cond : Cond) (u : Bool) (rn : RegNum) (rd : RegNum) (imm12 : BitVec 12)
  /-- `STR`, A11, `cccc0111U0W0nnnnddddaaaaatt0mmmm`, R400. -/
  | strRegPre (cond : Cond) (u : Bool) (w : Bool) (rn : RegNum) (rd : RegNum) (amount : BitVec 5) (shift : ShiftType) (rm : RegNum)
  /-- `STR`, A11, `cccc0110U000nnnnddddaaaaatt0mmmm`, R400. -/
  | strRegPost (cond : Cond) (u : Bool) (rn : RegNum) (rd : RegNum) (amount : BitVec 5) (shift : ShiftType) (rm : RegNum)
  /-- `STRT`, A11, `cccc0110U010nnnnddddaaaaatt0mmmm`, R404. -/
  | strtReg (cond : Cond) (u : Bool) (rn : RegNum) (rd : RegNum) (amount : BitVec 5) (shift : ShiftType) (rm : RegNum)
  /-- `STRB`, A10, `cccc0101U1W0nnnnddddoooooooooooo`, R401. -/
  | strbImmPre (cond : Cond) (u : Bool) (w : Bool) (rn : RegNum) (rd : RegNum) (imm12 : BitVec 12)
  /-- `STRB`, A10, `cccc0100U100nnnnddddoooooooooooo`, R401. -/
  | strbImmPost (cond : Cond) (u : Bool) (rn : RegNum) (rd : RegNum) (imm12 : BitVec 12)
  /-- `STRBT`, A10, `cccc0100U110nnnnddddoooooooooooo`, R405. -/
  | strbtImm (cond : Cond) (u : Bool) (rn : RegNum) (rd : RegNum) (imm12 : BitVec 12)
  /-- `STRB`, A11, `cccc0111U1W0nnnnddddaaaaatt0mmmm`, R401. -/
  | strbRegPre (cond : Cond) (u : Bool) (w : Bool) (rn : RegNum) (rd : RegNum) (amount : BitVec 5) (shift : ShiftType) (rm : RegNum)
  /-- `STRB`, A11, `cccc0110U100nnnnddddaaaaatt0mmmm`, R401. -/
  | strbRegPost (cond : Cond) (u : Bool) (rn : RegNum) (rd : RegNum) (amount : BitVec 5) (shift : ShiftType) (rm : RegNum)
  /-- `STRBT`, A11, `cccc0110U110nnnnddddaaaaatt0mmmm`, R405. -/
  | strbtReg (cond : Cond) (u : Bool) (rn : RegNum) (rd : RegNum) (amount : BitVec 5) (shift : ShiftType) (rm : RegNum)
  /-- `LDRH`, A12, `cccc000PU1W1nnnnddddHHHH1011LLLL`, R407. -/
  | ldrhImm (cond : Cond) (p : Bool) (u : Bool) (w : Bool) (rn : RegNum) (rd : RegNum) (immHi : BitVec 4) (immLo : BitVec 4)
  /-- `LDRH`, A13, `cccc000PU0W1nnnnddddzzzz1011mmmm`, R407. -/
  | ldrhReg (cond : Cond) (p : Bool) (u : Bool) (w : Bool) (rn : RegNum) (rd : RegNum) (rm : RegNum)
  /-- `LDRSB`, A12, `cccc000PU1W1nnnnddddHHHH1101LLLL`, R408. -/
  | ldrsbImm (cond : Cond) (p : Bool) (u : Bool) (w : Bool) (rn : RegNum) (rd : RegNum) (immHi : BitVec 4) (immLo : BitVec 4)
  /-- `LDRSB`, A13, `cccc000PU0W1nnnnddddzzzz1101mmmm`, R408. -/
  | ldrsbReg (cond : Cond) (p : Bool) (u : Bool) (w : Bool) (rn : RegNum) (rd : RegNum) (rm : RegNum)
  /-- `LDRSH`, A12, `cccc000PU1W1nnnnddddHHHH1111LLLL`, R409. -/
  | ldrshImm (cond : Cond) (p : Bool) (u : Bool) (w : Bool) (rn : RegNum) (rd : RegNum) (immHi : BitVec 4) (immLo : BitVec 4)
  /-- `LDRSH`, A13, `cccc000PU0W1nnnnddddzzzz1111mmmm`, R409. -/
  | ldrshReg (cond : Cond) (p : Bool) (u : Bool) (w : Bool) (rn : RegNum) (rd : RegNum) (rm : RegNum)
  /-- `STRH`, A12, `cccc000PU1W0nnnnddddHHHH1011LLLL`, R410. -/
  | strhImm (cond : Cond) (p : Bool) (u : Bool) (w : Bool) (rn : RegNum) (rd : RegNum) (immHi : BitVec 4) (immLo : BitVec 4)
  /-- `STRH`, A13, `cccc000PU0W0nnnnddddzzzz1011mmmm`, R410. -/
  | strhReg (cond : Cond) (p : Bool) (u : Bool) (w : Bool) (rn : RegNum) (rd : RegNum) (rm : RegNum)
  /-- `LDM`, A15, `cccc100PU0W1nnnnllllllllllllllll`, R412. -/
  | ldm (cond : Cond) (p : Bool) (u : Bool) (w : Bool) (rn : RegNum) (regs : BitVec 16)
  /-- `STM`, A15, `cccc100PU0W0nnnnllllllllllllllll`, R413. -/
  | stm (cond : Cond) (p : Bool) (u : Bool) (w : Bool) (rn : RegNum) (regs : BitVec 16)
  /-- `LDM__User_registers`, A15, `cccc100PU1W1nnnn0lllllllllllllll`, R414. -/
  | ldmUser (cond : Cond) (p : Bool) (u : Bool) (w : Bool) (rn : RegNum) (regs : BitVec 15)
  /-- `LDM__restore_CPSR`, A15, `cccc100PU1W1nnnn1lllllllllllllll`, R416. -/
  | ldmRestore (cond : Cond) (p : Bool) (u : Bool) (w : Bool) (rn : RegNum) (regs : BitVec 15)
  /-- `STM__User_registers`, A15, `cccc100PU1W0nnnnllllllllllllllll`, R415. -/
  | stmUser (cond : Cond) (p : Bool) (u : Bool) (w : Bool) (rn : RegNum) (regs : BitVec 16)
  /-- `SWP`, A14, `cccc00010000nnnnddddzzzz1001mmmm`, R420. -/
  | swp (cond : Cond) (rn : RegNum) (rd : RegNum) (rm : RegNum)
  /-- `SWPB`, A14, `cccc00010100nnnnddddzzzz1001mmmm`, R421. -/
  | swpb (cond : Cond) (rn : RegNum) (rd : RegNum) (rm : RegNum)
  /-- `B`, A19, `cccc1010bbbbbbbbbbbbbbbbbbbbbbbb`, R365. -/
  | b (cond : Cond) (off24 : BitVec 24)
  /-- `BL`, A19, `cccc1011bbbbbbbbbbbbbbbbbbbbbbbb`, R366. -/
  | bl (cond : Cond) (off24 : BitVec 24)
  /-- `SWI`, A20, `cccc1111xxxxxxxxxxxxxxxxxxxxxxxx`, R372. -/
  | swi (cond : Cond) (comment : BitVec 24)
  /-- `CDP`, A16, `cccc1110qqqqCCCCDDDDppppQQQ0MMMM`, R444. -/
  | cdp (cond : Cond) (op1 : BitVec 4) (crn : BitVec 4) (crd : BitVec 4) (cp : BitVec 4) (op2 : BitVec 3) (crm : BitVec 4)
  /-- `MCR`, A17, `cccc1110qqq0CCCCddddppppQQQ1MMMM`, R445. -/
  | mcr (cond : Cond) (op1 : BitVec 3) (crn : BitVec 4) (rd : RegNum) (cp : BitVec 4) (op2 : BitVec 3) (crm : BitVec 4)
  /-- `MRC`, A17, `cccc1110qqq1CCCCddddppppQQQ1MMMM`, R446. -/
  | mrc (cond : Cond) (op1 : BitVec 3) (crn : BitVec 4) (rd : RegNum) (cp : BitVec 4) (op2 : BitVec 3) (crm : BitVec 4)
  /-- `LDC`, A18, `cccc110PUNW1nnnnDDDDppppeeeeeeee`, R447. -/
  | ldc (cond : Cond) (p : Bool) (u : Bool) (n : Bool) (w : Bool) (rn : RegNum) (crd : BitVec 4) (cp : BitVec 4) (off8 : BitVec 8)
  /-- `STC`, A18, `cccc110PUNW0nnnnDDDDppppeeeeeeee`, R448. -/
  | stc (cond : Cond) (p : Bool) (u : Bool) (n : Bool) (w : Bool) (rn : RegNum) (crd : BitVec 4) (cp : BitVec 4) (off8 : BitVec 8)
  /-- `UNDEFINED`, A21, `cccc011uuuuuuuuuuuuuuuuuuuu1uuuu`, R375. -/
  | undefined (cond : Cond) (payload : BitVec 20) (payloadLo : BitVec 4)
  /-- `MRC_p15_read_ID_register`, A17, `cccc111000010000dddd111100010000`, R565. -/
  | mrcId (cond : Cond) (rd : RegNum)
  /-- `MRC_p15_read_control_register`, A17, `cccc111000010001dddd111100010000`, R566. -/
  | mrcControl (cond : Cond) (rd : RegNum)
  /-- `MCR_p15_write_control_register`, A17, `cccc111000000001dddd111100010000`, R566. -/
  | mcrControl (cond : Cond) (rd : RegNum)
  /-- `MRC_p15_read_translation_table_base`, A17, `cccc111000010010dddd111100010000`, R567. -/
  | mrcTtb (cond : Cond) (rd : RegNum)
  /-- `MCR_p15_write_translation_table_base`, A17, `cccc111000000010dddd111100010000`, R567. -/
  | mcrTtb (cond : Cond) (rd : RegNum)
  /-- `MRC_p15_read_domain_access_control`, A17, `cccc111000010011dddd111100010000`, R568. -/
  | mrcDacr (cond : Cond) (rd : RegNum)
  /-- `MCR_p15_write_domain_access_control`, A17, `cccc111000000011dddd111100010000`, R568. -/
  | mcrDacr (cond : Cond) (rd : RegNum)
  /-- `MRC_p15_read_fault_status`, A17, `cccc111000010101dddd111100010000`, R569. -/
  | mrcFsr (cond : Cond) (rd : RegNum)
  /-- `MCR_p15_write_fault_status`, A17, `cccc111000000101dddd111100010000`, R569. -/
  | mcrFsr (cond : Cond) (rd : RegNum)
  /-- `MRC_p15_read_fault_address`, A17, `cccc111000010110dddd111100010000`, R570. -/
  | mrcFar (cond : Cond) (rd : RegNum)
  /-- `MCR_p15_write_fault_address`, A17, `cccc111000000110dddd111100010000`, R570. -/
  | mcrFar (cond : Cond) (rd : RegNum)
  /-- `MCR_p15_invalidate_ID_cache`, A17, `cccc111000000111dddd111100010111`, R572. -/
  | mcrInvCache (cond : Cond) (rd : RegNum)
  /-- `MCR_p15_invalidate_TLB__CRm___c5`, A17, `cccc111000001000dddd111100010101`, R573. -/
  | mcrInvTlbC5 (cond : Cond) (rd : RegNum)
  /-- `MCR_p15_invalidate_TLB_single_entry__CRm___c5`, A17, `cccc111000001000dddd111100110101`, R574. -/
  | mcrInvTlbEntryC5 (cond : Cond) (rd : RegNum)
  /-- `MCR_p15_invalidate_TLB__CRm___c6`, A17, `cccc111000001000dddd111100010110`, R573. -/
  | mcrInvTlbC6 (cond : Cond) (rd : RegNum)
  /-- `MCR_p15_invalidate_TLB_single_entry__CRm___c6`, A17, `cccc111000001000dddd111100110110`, R574. -/
  | mcrInvTlbEntryC6 (cond : Cond) (rd : RegNum)
  /-- `MCR_p15_invalidate_TLB__CRm___c7`, A17, `cccc111000001000dddd111100010111`, R573. -/
  | mcrInvTlbC7 (cond : Cond) (rd : RegNum)
  /-- `MCR_p15_invalidate_TLB_single_entry__CRm___c7`, A17, `cccc111000001000dddd111100110111`, R574. -/
  | mcrInvTlbEntryC7 (cond : Cond) (rd : RegNum)
  /-- `MCR_p15_write_cache_victim_and_lockdown_base__op2___0`, A17, `cccc111000001001dddd111100010000`, R588. -/
  | mcrCacheBase0 (cond : Cond) (rd : RegNum)
  /-- `MCR_p15_write_cache_victim__op2___0`, A17, `cccc111000001001dddd111100010001`, R588. -/
  | mcrCacheVictim0 (cond : Cond) (rd : RegNum)
  /-- `MCR_p15_write_cache_victim_and_lockdown_base__op2___1`, A17, `cccc111000001001dddd111100110000`, R588. -/
  | mcrCacheBase1 (cond : Cond) (rd : RegNum)
  /-- `MCR_p15_write_cache_victim__op2___1`, A17, `cccc111000001001dddd111100110001`, R588. -/
  | mcrCacheVictim1 (cond : Cond) (rd : RegNum)
  /-- `MRC_p15_read_TLB_lockdown`, A17, `cccc111000011010dddd111100010000`, R599. -/
  | mrcTlbLockdown (cond : Cond) (rd : RegNum)
  /-- `MCR_p15_write_TLB_lockdown`, A17, `cccc111000001010dddd111100010000`, R599. -/
  | mcrTlbLockdown (cond : Cond) (rd : RegNum)
  /-- `MRC_p15_read_FCSE_PID`, A17, `cccc111000011101dddd111100010000`, R575. -/
  | mrcPid (cond : Cond) (rd : RegNum)
  /-- `MCR_p15_write_FCSE_PID`, A17, `cccc111000001101dddd111100010000`, R575. -/
  | mcrPid (cond : Cond) (rd : RegNum)
  /-- `MRC_p15_read_trace_PROCID`, A17, `cccc111000011101dddd111100110000`, R576. -/
  | mrcProcId (cond : Cond) (rd : RegNum)
  /-- `MCR_p15_write_trace_PROCID`, A17, `cccc111000001101dddd111100110000`, R576. -/
  | mcrProcId (cond : Cond) (rd : RegNum)
  /-- `MCR_p15_write_test_state_register`, A17, `cccc111011101111dddd111111111111`, R580. -/
  | mcrTestState (cond : Cond) (rd : RegNum)
  /-- `MRC_p15_read_test_state_register`, A17, `cccc111011111111dddd111111111111`, R580. -/
  | mrcTestState (cond : Cond) (rd : RegNum)
  /-- `MCR_p15_write_C15.C`, A17, `cccc111001101111dddd111100010011`, R581. -/
  | mcrC15C (cond : Cond) (rd : RegNum)
  /-- `MRC_p15_read_C15.C`, A17, `cccc111001111111dddd111100010011`, R581. -/
  | mrcC15C (cond : Cond) (rd : RegNum)
  /-- `MCR_p15_cache_CAM_read_to_C15.C`, A17, `cccc111001001111dddd111101010111`, R582. -/
  | mcrCacheCamRead (cond : Cond) (rd : RegNum)
  /-- `MCR_p15_cache_CAM_write`, A17, `cccc111001001111dddd111111010111`, R583. -/
  | mcrCacheCamWrite (cond : Cond) (rd : RegNum)
  /-- `MCR_p15_cache_RAM_read_to_C15.C`, A17, `cccc111001001111dddd111101011011`, R585. -/
  | mcrCacheRamRead (cond : Cond) (rd : RegNum)
  /-- `MCR_p15_cache_RAM_write_from_C15.C`, A17, `cccc111001001111dddd111111011011`, R586. -/
  | mcrCacheRamWrite (cond : Cond) (rd : RegNum)
  /-- `MCR_p15_cache_CAM_match__RAM_read_to_C15.C`, A17, `cccc111001001111dddd111110110111`, R587. -/
  | mcrCacheCamMatch (cond : Cond) (rd : RegNum)
  /-- `MRC_p15_read_C15.M`, A17, `cccc111010011111dddd111100010011`, R590. -/
  | mrcC15M (cond : Cond) (rd : RegNum)
  /-- `MRC_p15_read_C15.M__Example_11-2_form__op2___6`, A17, `cccc111010011111dddd111111010011`, R590. -/
  | mrcC15MAlt (cond : Cond) (rd : RegNum)
  /-- `MCR_p15_TLB_CAM_read_to_C15.M`, A17, `cccc111010001111dddd111110010111`, R591. -/
  | mcrTlbCamRead (cond : Cond) (rd : RegNum)
  /-- `MCR_p15_TLB_CAM_write`, A17, `cccc111010001111dddd111100010111`, R592. -/
  | mcrTlbCamWrite (cond : Cond) (rd : RegNum)
  /-- `MCR_p15_TLB_RAM1_read_to_C15.M`, A17, `cccc111010001111dddd111110011011`, R593. -/
  | mcrTlbRam1Read (cond : Cond) (rd : RegNum)
  /-- `MCR_p15_TLB_RAM1_write`, A17, `cccc111010001111dddd111100011011`, R594. -/
  | mcrTlbRam1Write (cond : Cond) (rd : RegNum)
  /-- `MCR_p15_TLB_RAM2_read_to_C15.M`, A17, `cccc111010001111dddd111110110011`, R595. -/
  | mcrTlbRam2Read (cond : Cond) (rd : RegNum)
  /-- `MCR_p15_TLB_RAM2_write`, A17, `cccc111010001111dddd111100110011`, R596. -/
  | mcrTlbRam2Write (cond : Cond) (rd : RegNum)
  /-- `MCR_p15_TLB_CAM_match__RAM1_read_to_C15.M`, A17, `cccc111010001111dddd111110011101`, R597. -/
  | mcrTlbCamMatch (cond : Cond) (rd : RegNum)
  /-- `MRC_p14_read_DCC_control_register`, A17, `cccc1110qqq10000dddd1110QQQ1MMMM`, R606. -/
  | mrcDccControl (cond : Cond) (op1 : BitVec 3) (rd : RegNum) (op2 : BitVec 3) (crm : BitVec 4)
  /-- `MRC_p14_read_DCC_data_read_register`, A17, `cccc1110qqq10001dddd1110QQQ1MMMM`, R607. -/
  | mrcDccData (cond : Cond) (op1 : BitVec 3) (rd : RegNum) (op2 : BitVec 3) (crm : BitVec 4)
  /-- `MCR_p14_write_DCC_data_write_register`, A17, `cccc1110qqq00001dddd1110QQQ1MMMM`, R608. -/
  | mcrDccData (cond : Cond) (op1 : BitVec 3) (rd : RegNum) (op2 : BitVec 3) (crm : BitVec 4)
  /-- `MRC_p14_read_debug_abort_status_register`, A17, `cccc1110qqq10010dddd1110QQQ1MMMM`, R609. -/
  | mrcAbortStatus (cond : Cond) (op1 : BitVec 3) (rd : RegNum) (op2 : BitVec 3) (crm : BitVec 4)
  /-- `MCR_p14_write_debug_abort_status_register`, A17, `cccc1110qqq00010dddd1110QQQ1MMMM`, R609. -/
  | mcrAbortStatus (cond : Cond) (op1 : BitVec 3) (rd : RegNum) (op2 : BitVec 3) (crm : BitVec 4)
  /-- `LSL`, T1, `00000ooooosssddd`, R463. -/
  | tLslImm (imm5 : BitVec 5) (rs : LowReg) (rd : LowReg)
  /-- `LSR`, T1, `00001ooooosssddd`, R464. -/
  | tLsrImm (imm5 : BitVec 5) (rs : LowReg) (rd : LowReg)
  /-- `ASR`, T1, `00010ooooosssddd`, R465. -/
  | tAsrImm (imm5 : BitVec 5) (rs : LowReg) (rd : LowReg)
  /-- `ADD`, T2, `0001100nnnsssddd`, R466. -/
  | tAddReg (rn : LowReg) (rs : LowReg) (rd : LowReg)
  /-- `SUB`, T2, `0001101nnnsssddd`, R467. -/
  | tSubReg (rn : LowReg) (rs : LowReg) (rd : LowReg)
  /-- `ADD`, T2, `0001110iiisssddd`, R468. -/
  | tAddImm3 (imm3 : BitVec 3) (rs : LowReg) (rd : LowReg)
  /-- `SUB`, T2, `0001111iiisssddd`, R469. -/
  | tSubImm3 (imm3 : BitVec 3) (rs : LowReg) (rd : LowReg)
  /-- `MOV`, T3, `00100dddIIIIIIII`, R470. -/
  | tMovImm (rd : LowReg) (imm8 : BitVec 8)
  /-- `CMP`, T3, `00101dddIIIIIIII`, R471. -/
  | tCmpImm (rd : LowReg) (imm8 : BitVec 8)
  /-- `ADD`, T3, `00110dddIIIIIIII`, R472. -/
  | tAddImm8 (rd : LowReg) (imm8 : BitVec 8)
  /-- `SUB`, T3, `00111dddIIIIIIII`, R473. -/
  | tSubImm8 (rd : LowReg) (imm8 : BitVec 8)
  /-- `AND`, T4, `0100000000sssddd`, R474. -/
  | tAnd (rs : LowReg) (rd : LowReg)
  /-- `EOR`, T4, `0100000001sssddd`, R475. -/
  | tEor (rs : LowReg) (rd : LowReg)
  /-- `LSL`, T4, `0100000010sssddd`, R476. -/
  | tLslReg (rs : LowReg) (rd : LowReg)
  /-- `LSR`, T4, `0100000011sssddd`, R477. -/
  | tLsrReg (rs : LowReg) (rd : LowReg)
  /-- `ASR`, T4, `0100000100sssddd`, R478. -/
  | tAsrReg (rs : LowReg) (rd : LowReg)
  /-- `ADC`, T4, `0100000101sssddd`, R479. -/
  | tAdc (rs : LowReg) (rd : LowReg)
  /-- `SBC`, T4, `0100000110sssddd`, R480. -/
  | tSbc (rs : LowReg) (rd : LowReg)
  /-- `ROR`, T4, `0100000111sssddd`, R481. -/
  | tRorReg (rs : LowReg) (rd : LowReg)
  /-- `TST`, T4, `0100001000sssddd`, R482. -/
  | tTst (rs : LowReg) (rd : LowReg)
  /-- `NEG`, T4, `0100001001sssddd`, R483. -/
  | tNeg (rs : LowReg) (rd : LowReg)
  /-- `CMP`, T4, `0100001010sssddd`, R484. -/
  | tCmp (rs : LowReg) (rd : LowReg)
  /-- `CMN`, T4, `0100001011sssddd`, R485. -/
  | tCmn (rs : LowReg) (rd : LowReg)
  /-- `ORR`, T4, `0100001100sssddd`, R490. -/
  | tOrr (rs : LowReg) (rd : LowReg)
  /-- `MUL`, T4, `0100001101sssddd`, R491. -/
  | tMul (rs : LowReg) (rd : LowReg)
  /-- `BIC`, T4, `0100001110sssddd`, R492. -/
  | tBic (rs : LowReg) (rd : LowReg)
  /-- `MVN`, T4, `0100001111sssddd`, R493. -/
  | tMvn (rs : LowReg) (rd : LowReg)
  /-- `ADD`, T5, `01000100hHsssddd`, R487. -/
  | tAddHi (h1 : Bool) (h2 : Bool) (rs : LowReg) (rd : LowReg)
  /-- `CMP`, T5, `01000101hHsssddd`, R488. -/
  | tCmpHi (h1 : Bool) (h2 : Bool) (rs : LowReg) (rd : LowReg)
  /-- `MOV`, T5, `01000110hHsssddd`, R489. -/
  | tMovHi (h1 : Bool) (h2 : Bool) (rs : LowReg) (rd : LowReg)
  /-- `BX`, T5, `010001110Hsssuuu`, R541. -/
  | tBx (h2 : Bool) (rs : LowReg)
  /-- `LDR`, T6, `01001dddwwwwwwww`, R511. -/
  | tLdrPc (rd : LowReg) (word8 : BitVec 8)
  /-- `STR`, T7, `0101000rrrbbbddd`, R512. -/
  | tStrReg (ro : LowReg) (rb : LowReg) (rd : LowReg)
  /-- `STRB`, T7, `0101010rrrbbbddd`, R513. -/
  | tStrbReg (ro : LowReg) (rb : LowReg) (rd : LowReg)
  /-- `LDR`, T7, `0101100rrrbbbddd`, R514. -/
  | tLdrReg (ro : LowReg) (rb : LowReg) (rd : LowReg)
  /-- `LDRB`, T7, `0101110rrrbbbddd`, R515. -/
  | tLdrbReg (ro : LowReg) (rb : LowReg) (rd : LowReg)
  /-- `STRH`, T8, `0101001rrrbbbddd`, R516. -/
  | tStrhReg (ro : LowReg) (rb : LowReg) (rd : LowReg)
  /-- `LDRH`, T8, `0101101rrrbbbddd`, R517. -/
  | tLdrhReg (ro : LowReg) (rb : LowReg) (rd : LowReg)
  /-- `LDRSB`, T8, `0101011rrrbbbddd`, R518. -/
  | tLdrsbReg (ro : LowReg) (rb : LowReg) (rd : LowReg)
  /-- `LDRSH`, T8, `0101111rrrbbbddd`, R519. -/
  | tLdrshReg (ro : LowReg) (rb : LowReg) (rd : LowReg)
  /-- `STR`, T9, `01100ooooobbbddd`, R520. -/
  | tStrImm (imm5 : BitVec 5) (rb : LowReg) (rd : LowReg)
  /-- `LDR`, T9, `01101ooooobbbddd`, R521. -/
  | tLdrImm (imm5 : BitVec 5) (rb : LowReg) (rd : LowReg)
  /-- `STRB`, T9, `01110ooooobbbddd`, R522. -/
  | tStrbImm (imm5 : BitVec 5) (rb : LowReg) (rd : LowReg)
  /-- `LDRB`, T9, `01111ooooobbbddd`, R523. -/
  | tLdrbImm (imm5 : BitVec 5) (rb : LowReg) (rd : LowReg)
  /-- `STRH`, T10, `10000ooooobbbddd`, R524. -/
  | tStrhImm (imm5 : BitVec 5) (rb : LowReg) (rd : LowReg)
  /-- `LDRH`, T10, `10001ooooobbbddd`, R525. -/
  | tLdrhImm (imm5 : BitVec 5) (rb : LowReg) (rd : LowReg)
  /-- `STR`, T11, `10010dddwwwwwwww`, R526. -/
  | tStrSp (rd : LowReg) (word8 : BitVec 8)
  /-- `LDR`, T11, `10011dddwwwwwwww`, R527. -/
  | tLdrSp (rd : LowReg) (word8 : BitVec 8)
  /-- `ADD`, T12, `10100dddwwwwwwww`, R494. -/
  | tAddPc (rd : LowReg) (word8 : BitVec 8)
  /-- `ADD`, T12, `10101dddwwwwwwww`, R495. -/
  | tAddSp (rd : LowReg) (word8 : BitVec 8)
  /-- `ADD`, T13, `101100000jjjjjjj`, R496. -/
  | tAddSpImm (word7 : BitVec 7)
  /-- `ADD`, T13, `101100001jjjjjjj`, R497. -/
  | tSubSpImm (word7 : BitVec 7)
  /-- `PUSH`, T14, `1011010Rllllllll`, R528. -/
  | tPush (r : Bool) (regs : BitVec 8)
  /-- `POP`, T14, `1011110Rllllllll`, R529. -/
  | tPop (r : Bool) (regs : BitVec 8)
  /-- `STMIA`, T15, `11000bbbllllllll`, R530. -/
  | tStmia (rb : LowReg) (regs : BitVec 8)
  /-- `LDMIA`, T15, `11001bbbllllllll`, R531. -/
  | tLdmia (rb : LowReg) (regs : BitVec 8)
  /-- `BEQ`, T16, `11010000eeeeeeee`, R535. -/
  | tBeq (off8 : BitVec 8)
  /-- `BNE`, T16, `11010001eeeeeeee`, R535. -/
  | tBne (off8 : BitVec 8)
  /-- `BCS`, T16, `11010010eeeeeeee`, R535. -/
  | tBcs (off8 : BitVec 8)
  /-- `BCC`, T16, `11010011eeeeeeee`, R535. -/
  | tBcc (off8 : BitVec 8)
  /-- `BMI`, T16, `11010100eeeeeeee`, R535. -/
  | tBmi (off8 : BitVec 8)
  /-- `BPL`, T16, `11010101eeeeeeee`, R535. -/
  | tBpl (off8 : BitVec 8)
  /-- `BVS`, T16, `11010110eeeeeeee`, R535. -/
  | tBvs (off8 : BitVec 8)
  /-- `BVC`, T16, `11010111eeeeeeee`, R535. -/
  | tBvc (off8 : BitVec 8)
  /-- `BHI`, T16, `11011000eeeeeeee`, R535. -/
  | tBhi (off8 : BitVec 8)
  /-- `BLS`, T16, `11011001eeeeeeee`, R535. -/
  | tBls (off8 : BitVec 8)
  /-- `BGE`, T16, `11011010eeeeeeee`, R535. -/
  | tBge (off8 : BitVec 8)
  /-- `BLT`, T16, `11011011eeeeeeee`, R535. -/
  | tBlt (off8 : BitVec 8)
  /-- `BGT`, T16, `11011100eeeeeeee`, R535. -/
  | tBgt (off8 : BitVec 8)
  /-- `BLE`, T16, `11011101eeeeeeee`, R535. -/
  | tBle (off8 : BitVec 8)
  /-- `UNDEFINED`, T16, `11011110uuuuuuuu`, R543. -/
  | tUndefCond (payload : BitVec 8)
  /-- `SWI`, T17, `11011111vvvvvvvv`, R542. -/
  | tSwi (comment : BitVec 8)
  /-- `B`, T18, `11100kkkkkkkkkkk`, R536. -/
  | tB (off11 : BitVec 11)
  /-- `UNDEFINED`, -, `11101uuuuuuuuuuu`, R543. -/
  | tUndef11101 (payload : BitVec 11)
  /-- `BL__first_halfword`, T19, `11110kkkkkkkkkkk`, R537. -/
  | tBlHigh (off11 : BitVec 11)
  /-- `BL__second_halfword`, T19, `11111kkkkkkkkkkk`, R538. -/
  | tBlLow (off11 : BitVec 11)
  /-- `UNDEFINED`, -, `10110001uuuuuuuu`, R543. -/
  | tUndefB1 (payload : BitVec 8)
  /-- `UNDEFINED`, -, `1011001uuuuuuuuu`, R543. -/
  | tUndefB2 (payload : BitVec 9)
  /-- `UNDEFINED`, -, `1011011uuuuuuuuu`, R543. -/
  | tUndefB6 (payload : BitVec 9)
  /-- `UNDEFINED`, -, `101110uuuuuuuuuu`, R543. -/
  | tUndefB8 (payload : BitVec 10)
  /-- `UNDEFINED`, -, `1011111uuuuuuuuu`, R543. -/
  | tUndefBC (payload : BitVec 9)
  /-- `UNPREDICTABLE__BX_with_H1___1`, -, `010001111uuuuuuu`, R541. -/
  | tBxH1 (payload : BitVec 7)
  deriving DecidableEq, Repr

end Sys2Proof
end

