-- ==== Sys2Proof/Machine/State.lean ====
section
/-! DEFINITION. The state of the machine (10_state.md), its faults and refusals, and the state after reset (70 R741).
INVENTORY.md lists every field with the rule that names it. All of it is plain data. -/

namespace Sys2Proof.Machine

/-- A program status register (10 R35). Bits [27:8] are not stored and read as 0 (R41, D2; log 7). -/
structure Psr where
  n : Bool
  z : Bool
  c : Bool
  v : Bool
  i : Bool
  f : Bool
  t : Bool
  m : BitVec 5
  deriving DecidableEq, Repr

/-- The CP15 registers (10 R46 to R69). -/
structure Cp15 where
  /-- Control bit M, MMU enable. -/
  m : Bool
  /-- Control bit A, alignment fault checking. -/
  a : Bool
  /-- Control bit C, cache enable. -/
  c : Bool
  /-- Control bit W, write buffer enable. -/
  w : Bool
  /-- Control bit B, big-endian. -/
  b : Bool
  /-- Control bit S, system protection. -/
  s : Bool
  /-- Control bit R, ROM protection. -/
  r : Bool
  /-- Control bit V, high vectors. -/
  v : Bool
  /-- TTB[31:14]. -/
  ttb : BitVec 18
  dacr : Word
  /-- FSR[7:0]: domain in [7:4], status in [3:0]. -/
  fsr : BitVec 8
  far : Word
  /-- FCSE PID. -/
  pid : BitVec 7
  /-- Trace PROCID. -/
  procId : Word
  /-- Bit 0 of the test state register. -/
  testState : Bool
  /-- C15.C, the cache test data register. -/
  c15c : Word
  /-- C15.M, the MMU test data register. -/
  c15m : Word
  deriving DecidableEq, Repr

/-- One line of the IDC with its CAM entry (10 R71). The data words are held as the bus carries them (D19; log 17). -/
structure CacheLine where
  /-- MVA[31:7]. -/
  tag : BitVec 25
  valid : Bool
  dirtyEven : Bool
  dirtyOdd : Bool
  writeBack : Bool
  data : Vector Word 8
  deriving DecidableEq, Repr

/-- The IDC: line i of segment s is `lines[64 * s + i]` (20 R130), the victim pointers, their increment modes and the lockdown
base (46 R584). -/
structure Cache where
  lines : Vector CacheLine 256
  victim : Vector (BitVec 6) 4
  /-- The victim pointer of a segment has been forced by a write of register 9 (20 R135; log 15). -/
  forced : Vector Bool 4
  /-- The increment mode of a segment: true is cam_only, false cam_and_ram. -/
  camOnly : Vector Bool 4
  base : BitVec 6
  deriving DecidableEq, Repr

/-- One TLB entry (10 R74). `ram2` is the RAM2 test word; `paTag` (PA[31:10]) and `sizeR2` are what translation uses of it. -/
structure TlbEntry where
  /-- MVA[31:10]. -/
  tag : BitVec 22
  sizeC : BitVec 4
  valid : Bool
  preserve : Bool
  /-- Domain one-hot [21:6], nC [5], nB [4], AP one-hot [3:0]. -/
  ram1 : BitVec 22
  ram2 : Word
  paTag : BitVec 22
  sizeR2 : BitVec 4
  deriving DecidableEq, Repr

/-- The TLB with its lockdown register and the pipelined victim pointer (10 R73, 46 R598). -/
structure Tlb where
  entries : Vector TlbEntry 64
  base : BitVec 6
  victim : BitVec 6
  p : Bool
  index2 : BitVec 6
  deriving DecidableEq, Repr

/-- The size of a transfer, with the HSIZE encoding in its docstrings (20 R149). -/
inductive Size where
  /-- b000. -/
  | byte
  /-- b001. -/
  | half
  /-- b010. -/
  | word
  deriving DecidableEq, Repr

/-- A write held in the write buffer (20 R140): address, size, the HWDATA word and the byte lanes' order when it entered. -/
structure BufferedWrite where
  addr : Word
  size : Size
  data : Word
  bigEndian : Bool
  /-- HPROT of the transfer. -/
  prot : BitVec 4
  deriving DecidableEq, Repr

/-- How a fetched instruction slot is marked (20 R118, 60 R634). -/
inductive FetchMark where
  /-- The fetch completed. -/
  | ok
  /-- The MMU aborted the fetch. -/
  | aborted
  /-- The bus aborted the fetch (20 R146): of a debug abort on the same fetch it takes priority (60 R650). -/
  | external
  /-- The walk met a tiny page in a coarse table (U17); reached, it is refused. -/
  | tinyInCoarse
  deriving DecidableEq, Repr

/-- A slot of the prefetch queue (70 R751). -/
structure FetchSlot where
  addr : Word
  /-- The instruction: 32 bits, or a Thumb halfword in the low half. -/
  bits : Word
  /-- The word fetched, from which the other Thumb halfword is taken. -/
  fetched : Word
  mark : FetchMark
  /-- A breakpoint matched the fetch (61 R684). -/
  breakpoint : Bool
  /-- CPnTRANS as sampled with the instruction (43 R449): the fetch was made in a privileged mode. -/
  priv : Bool
  deriving DecidableEq, Repr

/-- One watchpoint unit (61 R692, R693). -/
structure WatchUnit where
  addrValue : Word
  addrMask : Word
  dataValue : Word
  dataMask : Word
  ctrlValue : BitVec 9
  ctrlMask : BitVec 8
  deriving DecidableEq, Repr

/-- EmbeddedICE-RT (61 R690 to R699), but for the debug status register, which is computed. -/
structure Ice where
  /-- The debug control register (R696). -/
  ctrl : BitVec 6
  unit0 : WatchUnit
  unit1 : WatchUnit
  /-- The CHAINOUT latch of watchpoint 1 (R695). -/
  chainOut : Bool
  /-- The DBGRNG outputs for the last access (R694). -/
  range0 : Bool
  range1 : Bool
  deriving DecidableEq, Repr

/-- The debug communications channel (10 R76 to R78) and the debug abort status bit (R79). -/
structure Dcc where
  r : Bool
  w : Bool
  readData : Word
  writeData : Word
  dbgAbt : Bool
  deriving DecidableEq, Repr

/-- An instruction scanned in for debug speed whose loads wait for the words that the next scans supply (61 R714, R717). -/
structure LoadWait where
  bit33 : Bool
  instr : Word
  /-- How many words are still to come. -/
  need : Nat
  /-- The words scanned in so far, oldest first. -/
  words : List Word
  deriving DecidableEq, Repr

/-- Debug state (61 R683 to R720). -/
structure Debug where
  /-- The core is in debug state (DBGACKI). -/
  halted : Bool
  /-- The core of a halted machine is at system speed (R718): it runs the inserted instruction, or, between steps, waits for HCLKEN
  to do so (R681). -/
  systemSpeed : Bool
  /-- DBGMOE of the debug status register (R699, R720). -/
  moe : Bool
  /-- The DBGBREAK cell of scan chain 1 as first captured after entry (R714). -/
  bit33 : Bool
  /-- Bit 33 scanned in with the previous instruction (R718). -/
  prevBit33 : Bool
  /-- An instruction clocked into the pipeline that waits for RESTART (R718, R719). -/
  pending : Option Word
  /-- A watchpoint hit; debug state is entered when the instruction completes (R685). -/
  watchHit : Bool
  /-- A data access of the instruction in execution was aborted (R685, R720; the model's own field). -/
  dataAborted : Bool
  /-- Words the debugger will put on the data bus for debug speed loads (R717). -/
  dataIn : List Word
  /-- Words debug speed stores have put on the data bus (R717), oldest first. -/
  dataOut : List Word
  /-- The value of the debugger's last register read (R691, R715). -/
  readData : Word
  /-- HTRANS[1] in debug state: High once a system speed access has completed (R687, R699, R718). -/
  trans1 : Bool
  /-- How many inserted words are still discarded after an inserted instruction wrote the PC (R717; log 28). -/
  skip : Nat
  /-- A bit level insertion that waits for the words of its loads (R714; log 34). -/
  loading : Option LoadWait
  /-- The scan in progress captured a word of a debug speed store, so that it carries no instruction (R717; log 34). -/
  dataCycle : Bool
  deriving DecidableEq, Repr

/-- The states of the TAP controller (61 R705). -/
inductive TapState where
  | testLogicReset | runTestIdle
  | selectDr | captureDr | shiftDr | exit1Dr | pauseDr | exit2Dr | updateDr
  | selectIr | captureIr | shiftIr | exit1Ir | pauseIr | exit2Ir | updateIr
  deriving DecidableEq, Repr

/-- The TAP controller and its shift registers (61 R705 to R716). -/
structure Tap where
  state : TapState
  ir : BitVec 4
  scanSel : BitVec 4
  irShift : BitVec 4
  selShift : BitVec 4
  bypass : Bool
  idShift : Word
  chain1 : BitVec 33
  /-- The parallel register of scan chain 1, loaded at UPDATE-DR (R713): the data bus and, in bit 32, DBGBREAK. -/
  parallel1 : BitVec 33
  chain2 : BitVec 38
  chain15 : BitVec 37
  /-- DBGTDO. -/
  tdo : Bool
  /-- DBGTDI at the last enabled clock, which DBGSDIN passes to an external scan chain 0 (R716). -/
  sdin : Bool
  /-- The synchronising latch of debug control bit 1 (R698). -/
  dbgrqLatch : Bool
  deriving DecidableEq, Repr

/-- The input pins (10 R85, R86). -/
structure Pins where
  /-- nIRQ is Low. -/
  irq : Bool
  /-- nFIQ is Low. -/
  fiq : Bool
  dbgrq : Bool
  dbgbreak : Bool
  /-- DBGEXT[1:0]. -/
  dbgext : BitVec 2
  dbgen : Bool
  vinithi : Bool
  dbgtcken : Bool
  /-- The output of an external scan chain 0; Low if there is none (61 R716). -/
  dbgsdout : Bool
  /-- The enable of the bus interface (20 R153). -/
  hclken : Bool
  /-- The gate of the ETM outputs (61 R725). -/
  etmen : Bool
  /-- The configuration input that must not change in debug state (61 R688, 70 R747). -/
  etmbigend : Bool
  /-- High throughout production scan test (61 R730). -/
  testenable : Bool
  /-- High while production test vectors are shifted (61 R730). -/
  scanenable : Bool
  deriving DecidableEq, Repr

/-- What answers at a physical address (20 R146). -/
inductive RegionKind where
  /-- Answers with the bytes of memory. -/
  | ram
  /-- Answers OKAY with data of its own (00 R6); a write is seen on the bus only. -/
  | device
  /-- Answers ERROR. -/
  | error
  deriving DecidableEq, Repr

/-- A range of the platform's memory map, both ends included (00 R8). -/
structure Region where
  first : Word
  last : Word
  kind : RegionKind
  deriving DecidableEq, Repr

/-- The parameters of 00 R8 that the step reads. -/
structure Params where
  tlbInvalidateKeepsPreserved : Bool
  /-- The first region that holds an address decides; an address in none is RAM. -/
  memMap : List Region
  deriving DecidableEq, Repr

/-- What an external coprocessor answers to one instruction (43 R442, R455). -/
inductive CoproResponse where
  /-- EXTCPA and EXTCPB High. -/
  | absent
  /-- EXTCPA Low, EXTCPB High: busy-wait. -/
  | busy
  /-- Accepted, with one to sixteen words: those it supplies (MRC: the first; STC: all), and for LDC their number is the word
  count. Of `more` the first fifteen count. -/
  | accept (first : Word) (more : List Word)
  deriving DecidableEq, Repr

/-- One answer of a coprocessor's script: with `privilegedOnly` the coprocessor restricts the instruction to privileged modes and
answers `absent` while CPnTRANS is Low (43 R449). -/
structure CoproAnswer where
  response : CoproResponse
  privilegedOnly : Bool
  deriving DecidableEq, Repr

/-- An external coprocessor (43 R455): its number, the answers still to come, and the words it has received. -/
structure Copro where
  number : BitVec 4
  script : List CoproAnswer
  received : List Word
  deriving DecidableEq, Repr

/-- A byte that another bus master writes (70 R768). -/
structure MasterWrite where
  addr : Word
  data : Byte
  deriving DecidableEq, Repr

/-- An event of the environment: one step each (D18, D29; log 5). -/
inductive EnvEvent where
  /-- No event: the core takes its next step. -/
  | tick
  /-- The event takes place while other masters write between its bus transfers (70 R768): the k-th list before the k-th transfer,
  what is left after the last one. -/
  | others (writes : List (List MasterWrite)) (event : EnvEvent)
  /-- The input pins change. -/
  | setPins (p : Pins)
  /-- HRESETn is driven Low and then High (60 R630). -/
  | hreset
  /-- HRESETn falls during the core's next step, after `done` of its bus transfers and `seen` of the accesses that the ETM outputs
  show: the step is abandoned (70 R742). -/
  | hresetDuring (done seen : Nat)
  /-- DBGnTRST is driven Low and then High (70 R746). -/
  | ntrst
  /-- The write buffer performs its oldest write (20 R141). -/
  | drain
  /-- Another bus master writes a byte of physical memory (70 R768). -/
  | busWrite (addr : Word) (data : Byte)
  /-- The debugger reads an EmbeddedICE-RT register (61 R680 (a)). -/
  | iceRead (addr : BitVec 5)
  /-- The debugger writes an EmbeddedICE-RT register (61 R680 (a)). -/
  | iceWrite (addr : BitVec 5) (data : Word)
  /-- The debugger accesses CP15 through scan chain 15 (61 R680 (b), R715). -/
  | scan15 (write : Bool) (op : BitVec 4) (data : Word)
  /-- The debugger inserts an instruction through scan chain 1 (61 R680 (d), R714), with the words it will put on the bus. -/
  | insert (bit33 : Bool) (instr : Word) (dataIn : List Word)
  /-- RESTART and RUN-TEST/IDLE (61 R680 (e), R711). -/
  | restart
  /-- One enabled clock of the TAP (61 R705). -/
  | tck (tms : Bool) (tdi : Bool)
  deriving DecidableEq, Repr

/-- The burst of a transfer (20 R149). -/
inductive Burst where
  | single
  | incr
  | incr8
  deriving DecidableEq, Repr

/-- HTRANS of a transfer (20 R149): between transfers it is b00 IDLE, and b01 BUSY is never generated. -/
inductive Trans where
  /-- b10, the first transfer of a burst or a single transfer. -/
  | nonseq
  /-- b11, the address is the one before plus the size. -/
  | seq
  deriving DecidableEq, Repr

/-- HBURST and HTRANS of a transfer (20 R149). -/
structure BusShape where
  burst : Burst
  trans : Trans
  deriving DecidableEq, Repr

/-- A transfer on the AHB (20 R148, R149). -/
structure BusTransfer where
  /-- The address of the transfer as memory sees it, aligned to its size (20 R111). -/
  addr : Word
  /-- HADDR[31:0] as the core drives it: its low bits, which memory ignores, are kept (42 R393, R411; log 60). -/
  haddr : Word
  write : Bool
  size : Size
  shape : BusShape
  /-- HPROT: [0] data, [1] privileged, [2] bufferable, [3] cacheable. -/
  prot : BitVec 4
  lock : Bool
  /-- HWDATA of a write, 0 of a read. -/
  wdata : Word
  /-- The byte order that names the active lanes (BIGENDOUT; of a buffered write, when it entered the buffer). -/
  bigEndian : Bool
  deriving DecidableEq, Repr

/-- An access of the core, as its outputs show it (61 R727, Table A-5). -/
structure CoreAccess where
  /-- ETMnMREQ is Low for it; at debug speed it is High, an internal cycle (61 R687). -/
  request : Bool
  /-- ETMADDR: the virtual address. -/
  addr : Word
  /-- ETMnOPC: High for data. -/
  nOpc : Bool
  /-- ETMnRW: High for a write. -/
  nRw : Bool
  /-- ETMSIZE. -/
  size : Size
  /-- ETMSEQ: the address is the last one, or 4 (in Thumb state 2) greater. -/
  seq : Bool
  /-- ETMRDATA of a read, ETMWDATA of a write. -/
  data : Word
  /-- ETMABORT. -/
  abort : Bool
  deriving DecidableEq, Repr

/-- The ETM outputs over one step (61 R727); ETMnMREQ is Low once for each access with `request`. The wait states of ETMCLKEN are timing. -/
structure EtmOutputs where
  accesses : List CoreAccess
  /-- ETMnEXEC: High when the instruction in the execute unit is not executed. -/
  nExec : Bool
  /-- ETMINSTRVALID: High when the instruction in the execute stage is valid and has not been flushed. -/
  instrValid : Bool
  /-- ETMnCPI: Low when a coprocessor instruction is executed. -/
  nCpi : Bool
  /-- ETMCPA and ETMCPB: the coprocessor's answer. -/
  cpa : Bool
  cpb : Bool
  dbgAck : Bool
  tBit : Bool
  bigEnd : Bool
  hiVecs : Bool
  procId : Word
  procIdWr : Bool
  deriving DecidableEq, Repr

/-- What the pins of the core show of the step in progress, and what the next step's outputs depend on (61 R713, R725 to R727). -/
structure Trace where
  /-- The accesses of the core in this step, oldest first. -/
  accesses : List CoreAccess
  /-- The address of the core's last access, on which ETMSEQ depends. -/
  lastAddr : Word
  /-- The word last on the core's data bus, which scan chain 1 captures (R709). -/
  dataBus : Word
  nExec : Bool
  instrValid : Bool
  nCpi : Bool
  cpa : Bool
  cpb : Bool
  /-- The last transfer of an earlier step, on which HTRANS depends (20 R149). -/
  lastTransfer : Option BusTransfer
  /-- The ETM outputs as last driven: held while ETMEN is Low (R725). -/
  etm : EtmOutputs
  deriving DecidableEq, Repr

/-- The whole machine. -/
structure State where
  /-- The 30 general registers other than r15 (10 R23): r0 to r14 of User and System at 0 to 14, r8_fiq to r14_fiq at 15 to 21,
  r13 and r14 of svc at 22 and 23, abt 24 and 25, irq 26 and 27, und 28 and 29. -/
  gpr : Vector Word 30
  /-- The address of the instruction to execute, or of the one executing (10 R26). -/
  pc : Word
  cpsr : Psr
  spsrFiq : Psr
  spsrSvc : Psr
  spsrAbt : Psr
  spsrIrq : Psr
  spsrUnd : Psr
  cp15 : Cp15
  cache : Cache
  tlb : Tlb
  /-- Oldest first; at most eight (20 R140). -/
  writeBuffer : List BufferedWrite
  /-- The prefetch queue, the instruction to execute first (70 R751). -/
  queue : List FetchSlot
  /-- Physical memory in canonical form: addresses strictly rising, no byte equal to 0, what an unlisted address reads as. -/
  mem : List Host.Cell
  ice : Ice
  dcc : Dcc
  dbg : Debug
  tap : Tap
  pins : Pins
  params : Params
  copros : List Copro
  /-- The events still to come (the model's own field, log 5). -/
  env : List EnvEvent
  /-- The transfers of the last step, oldest first (the model's own field, log 40). -/
  bus : List BusTransfer
  /-- What other masters write before each of the transfers to come of this step (70 R768; the model's own field, log 48). -/
  masters : List (List MasterWrite)
  /-- The core's outputs (61 R725 to R727; log 49). -/
  trace : Trace
  /-- The PROCIDWR pulse of the last step (10 R62). -/
  procIdWr : Bool
  /-- The instruction before this one was a user-bank LDM (70 R757; log 37). -/
  bankHazard : Bool
  /-- This instruction was a user-bank LDM. -/
  bankHazardNext : Bool
  /-- How many free values have been drawn (the model's own field, log 3). -/
  draws : Nat
  deriving DecidableEq, Repr

/-- Why the machine stops for good. -/
inductive Fault where
  /-- CPSR.M holds an illegal value: the processor is in an unrecoverable state until reset (60 R664, U3). Raised by the step.
  Safe: it is the spec's own outcome. -/
  | illegalMode
  deriving DecidableEq, Repr

/-- Why a step has no meaning in the spec. Each is safe: the model stops where the spec states no effect. -/
inductive Refusal where
  /-- An instruction whose arm has no meaning yet. Raised by no arm of this model. -/
  | notModelled (mnemonic : String)
  /-- U1: an MSR that would change CPSR.T. Raised by MSR. -/
  | changesThumbBit
  /-- U4: the SPSR of User or System mode. Raised by MRS, MSR, exception returns. -/
  | noSpsr
  /-- U5: an encoding R252 lists. Raised by the step, by the decode rows with P = 0 and W = 1, never by a trap. -/
  | undefinedNotTrapped
  /-- U6: r15 where the architecture forbids it. Raised by data processing with a register shift, multiplies, MRS, transfers. -/
  | pcOperand
  /-- U7, U21: clashing or missing registers. Raised by transfers with writeback, block transfers, SWP and multiplies. -/
  | registerClash
  /-- LDM or STM of the User bank in User or System mode, which 42 R414 and R415 call unpredictable and 93 does not list (DESIGN
  CHOICE, log 9). Safe. -/
  | userBankInUserMode
  /-- U16: a halfword access to an odd address with alignment checking off. -/
  | oddHalfword
  /-- U17: a tiny page descriptor in a coarse page table. Raised by the table walk. -/
  | tinyInCoarse
  /-- U20: Thumb ADD, CMP or MOV of format T5 with two low registers. -/
  | thumbLowRegisters
  /-- U20: Thumb BX with H1 = 1. -/
  | thumbBxH1
  /-- 70 R747, 93 U15: HRESETn in debug state, which the model refuses. Raised by the events `hreset` and `hresetDuring`. Safe. -/
  | resetInDebug
  /-- 70 R763, 93 U25: DBGRQ or DBGBREAK High in debug state, a refused environment action. Raised by the event `setPins`. Safe. -/
  | requestInDebug
  /-- 70 R747, 93 U15: ETMBIGEND changed in debug state, which the model refuses. Raised by the event `setPins`. Safe. -/
  | etmBigEndInDebug
  /-- 61 R730: TESTENABLE or SCANENABLE High, the production test that the spec does not model. Raised by the event `setPins`. -/
  | productionTest
  /-- 61 R717, R680 (d): an instruction inserted while the core is not in debug state, or one that must not be. -/
  | insertNotAllowed
  deriving DecidableEq, Repr

/-- A program status register with every bit 0. -/
def Psr.zero : Psr :=
  { n := false, z := false, c := false, v := false, i := false, f := false, t := false, m := 0 }

/-- CPSR after reset: 0xD3 with the flags at 0 (70 R741; the flags are log 2). -/
def Psr.atReset : Psr :=
  { n := false, z := false, c := false, v := false, i := true, f := true, t := false, m := 0b10011#5 }

/-- A watchpoint unit with every register 0. -/
def WatchUnit.zero : WatchUnit :=
  { addrValue := 0, addrMask := 0, dataValue := 0, dataMask := 0, ctrlValue := 0, ctrlMask := 0 }

/-- An invalid cache line with every bit 0. -/
def CacheLine.zero : CacheLine :=
  { tag := 0, valid := false, dirtyEven := false, dirtyOdd := false, writeBack := false, data := Vector.replicate 8 0 }

/-- An invalid TLB entry with every bit 0. -/
def TlbEntry.zero : TlbEntry :=
  { tag := 0, sizeC := 0, valid := false, preserve := false, ram1 := 0, ram2 := 0, paTag := 0, sizeR2 := 0 }

/-- CP15 after reset (70 R741; what R741 leaves unspecified is log 2). -/
def Cp15.atReset (vinithi : Bool) : Cp15 :=
  { m := false, a := false, c := false, w := false, b := false, s := false, r := false, v := vinithi
    ttb := 0, dacr := 0, fsr := 0, far := 0, pid := 0, procId := 0, testState := false, c15c := 0, c15m := 0 }

/-- The pins at rest (R8 defaults; log 6). -/
def Pins.atReset : Pins :=
  { irq := false, fiq := false, dbgrq := false, dbgbreak := false, dbgext := 0, dbgen := true, vinithi := false
    dbgtcken := true, dbgsdout := false, hclken := true, etmen := false, etmbigend := false, testenable := false, scanenable := false }

/-- EmbeddedICE-RT after DBGnTRST (70 R746, D14). -/
def Ice.atReset : Ice :=
  { ctrl := 0, unit0 := WatchUnit.zero, unit1 := WatchUnit.zero, chainOut := false, range0 := false, range1 := false }

/-- The DCC after both resets (70 R746, D14). -/
def Dcc.atReset : Dcc :=
  { r := false, w := false, readData := 0, writeData := 0, dbgAbt := false }

/-- The core is not in debug state after reset (log 45). -/
def Debug.atReset : Debug :=
  { halted := false, systemSpeed := false, moe := false, bit33 := false, prevBit33 := false, pending := none
    watchHit := false, dataAborted := false, dataIn := [], dataOut := [], readData := 0, trans1 := false, skip := 0
    loading := none, dataCycle := false }

/-- The TAP after DBGnTRST: Test-Logic-Reset, IDCODE, scan chain 0 (70 R746; the shift registers are log 34). -/
def Tap.atReset : Tap :=
  { state := .testLogicReset, ir := 0b1110#4, scanSel := 0, irShift := 0, selShift := 0, bypass := false, idShift := 0
    chain1 := 0, parallel1 := 0, chain2 := 0, chain15 := 0, tdo := false, sdin := false, dbgrqLatch := false }

/-- The ETM outputs before anything has driven them (log 49). -/
def EtmOutputs.atReset : EtmOutputs :=
  { accesses := [], nExec := true, instrValid := false, nCpi := true, cpa := true, cpb := true, dbgAck := false
    tBit := false, bigEnd := false, hiVecs := false, procId := 0, procIdWr := false }

/-- No access yet (log 49). -/
def Trace.atReset : Trace :=
  { accesses := [], lastAddr := 0, dataBus := 0, nExec := true, instrValid := false, nCpi := true, cpa := true, cpb := true
    lastTransfer := none, etm := EtmOutputs.atReset }

/-- The machine right after both resets (70 R741). Registers the spec gives no reset value hold 0 (log 2). -/
def State.reset : State :=
  { gpr := Vector.replicate 30 0
    pc := 0
    cpsr := Psr.atReset
    spsrFiq := Psr.zero
    spsrSvc := Psr.zero
    spsrAbt := Psr.zero
    spsrIrq := Psr.zero
    spsrUnd := Psr.zero
    cp15 := Cp15.atReset false
    cache :=
      { lines := Vector.replicate 256 CacheLine.zero
        victim := Vector.replicate 4 0
        forced := Vector.replicate 4 false
        camOnly := Vector.replicate 4 false
        base := 0 }
    tlb := { entries := Vector.replicate 64 TlbEntry.zero, base := 0, victim := 0, p := false, index2 := 0 }
    writeBuffer := []
    queue := []
    mem := []
    ice := Ice.atReset
    dcc := Dcc.atReset
    dbg := Debug.atReset
    tap := Tap.atReset
    pins := Pins.atReset
    params := { tlbInvalidateKeepsPreserved := false, memMap := [] }
    copros := []
    env := []
    bus := []
    masters := []
    trace := Trace.atReset
    procIdWr := false
    bankHazard := false
    bankHazardNext := false
    draws := 0 }

end Sys2Proof.Machine
end

