-- ==== Sys2Proof/Machine/Bits.lean ====
section
/-! DEFINITION. Bit-field helpers: rotation (00 R10), byte lanes (20 R105, R106, R108, R150), one-hot fields, program status
words (10 R35) and address alignment. -/

namespace Sys2Proof.Machine

/-- `ROR32(v, n)` (00 R10). -/
def ror32 (v : Word) (n : Nat) : Word := v.rotateRight (n % 32)

/-- The position of the low bit of the byte lane of offset `j` in a word (20 R108). -/
def laneShift (big : Bool) (j : Nat) : Nat := if big then 8 * (3 - j) else 8 * j

/-- The byte on the lane of offset `j` (20 R108). -/
def laneByte (big : Bool) (w : Word) (j : Nat) : Byte := w.extractLsb' (laneShift big j) 8

/-- The word on the bus of four bytes at offsets 0 to 3 (20 R105, R106). -/
def busWordOf (big : Bool) (b0 b1 b2 b3 : Byte) : Word :=
  if big then b0 ++ b1 ++ b2 ++ b3 else b3 ++ b2 ++ b1 ++ b0

/-- The value a read of `size` at address `a` takes from the bus word, zero extended (20 R108, R151). -/
def selectLanes (big : Bool) (size : Size) (a : Word) (w : Word) : Word :=
  match size with
  | .word => w
  | .half =>
    if a.getLsbD 1 == big then (w.extractLsb' 0 16).setWidth 32 else (w.extractLsb' 16 16).setWidth 32
  | .byte => (laneByte big w (a.extractLsb' 0 2).toNat).setWidth 32

/-- The word the master drives for a write of `size` (20 R150). -/
def replicateLanes (size : Size) (v : Word) : Word :=
  match size with
  | .word => v
  | .half => v.extractLsb' 0 16 ++ v.extractLsb' 0 16
  | .byte => v.extractLsb' 0 8 ++ v.extractLsb' 0 8 ++ v.extractLsb' 0 8 ++ v.extractLsb' 0 8

/-- The offsets within the word of the bytes a transfer of `size` at `a` moves (20 R111). -/
def sizeOffsets (size : Size) (a : Word) : List Nat :=
  match size with
  | .word => [0, 1, 2, 3]
  | .half => if a.getLsbD 1 then [2, 3] else [0, 1]
  | .byte => [(a.extractLsb' 0 2).toNat]

/-- The lanes a write of `size` at `a` makes active, as a mask (20 R108). -/
def laneMask (big : Bool) (size : Size) (a : Word) : Word :=
  match size with
  | .word => 0xFFFFFFFF#32
  | .half => if a.getLsbD 1 == big then 0x0000FFFF#32 else 0xFFFF0000#32
  | .byte => (0xFF#32) <<< laneShift big (a.extractLsb' 0 2).toNat

/-- The word address of an address (20 R111). -/
def wordAlign (a : Word) : Word := a &&& 0xFFFFFFFC#32

/-- The address of a bus transfer of `size`: aligned to its size (20 R111). -/
def sizeAlign (size : Size) (a : Word) : Word :=
  match size with
  | .byte => a
  | .half => a &&& 0xFFFFFFFE#32
  | .word => a &&& 0xFFFFFFFC#32

/-- The address of the 32-byte line of an address (20 R133). -/
def lineAlign (a : Word) : Word := a &&& 0xFFFFFFE0#32

/-- A PC value with the bits ignored in the state `t` (10 R26, R29). -/
def alignPc (t : Bool) (a : Word) : Word := if t then a &&& 0xFFFFFFFE#32 else a &&& 0xFFFFFFFC#32

/-- The 32-bit value of a program status register (10 R35); bits [27:8] read as 0 (R41). -/
def psrToWord (p : Psr) : Word :=
  BitVec.ofBool p.n ++ BitVec.ofBool p.z ++ BitVec.ofBool p.c ++ BitVec.ofBool p.v ++ 0#20 ++
    BitVec.ofBool p.i ++ BitVec.ofBool p.f ++ BitVec.ofBool p.t ++ p.m

/-- The implemented bits of a 32-bit value as a program status register (10 R35, R41). -/
def psrOfWord (w : Word) : Psr :=
  { n := w.getLsbD 31, z := w.getLsbD 30, c := w.getLsbD 29, v := w.getLsbD 28
    i := w.getLsbD 7, f := w.getLsbD 6, t := w.getLsbD 5, m := w.extractLsb' 0 5 }

/-- The position of the only set bit of a 16-bit field, if there is exactly one. -/
def oneHot16 (x : BitVec 16) : Option (BitVec 4) :=
  match (List.range 16).filter (fun k => x.getLsbD k) with
  | [k] => some (BitVec.ofNat 4 k)
  | _ => none

end Sys2Proof.Machine
end

