-- ==== Sys2Proof/Machine/Ops.lean ====
section
/-! DEFINITION. The named operations over registers: banking (10 R23), the program counter (10 R26 to R30), the status registers
(10 R34 to R42), free values, and taking and returning from an exception (60 R620 to R623). -/

namespace Sys2Proof.Machine

/-- Mode User (10 R39). -/
def modeUsr : BitVec 5 := 0b10000#5
/-- Mode FIQ. -/
def modeFiq : BitVec 5 := 0b10001#5
/-- Mode IRQ. -/
def modeIrq : BitVec 5 := 0b10010#5
/-- Mode Supervisor. -/
def modeSvc : BitVec 5 := 0b10011#5
/-- Mode Abort. -/
def modeAbt : BitVec 5 := 0b10111#5
/-- Mode Undefined. -/
def modeUnd : BitVec 5 := 0b11011#5
/-- Mode System. -/
def modeSys : BitVec 5 := 0b11111#5

/-- The seven mode values of 10 R39. -/
def legalMode (m : BitVec 5) : Bool :=
  m == modeUsr || m == modeFiq || m == modeIrq || m == modeSvc || m == modeAbt || m == modeUnd || m == modeSys

/-- A privileged mode: any but User (10 R44, 60 R660). -/
def State.privileged (s : State) : Bool := s.cpsr.m != modeUsr

/-- The physical register that a register number other than 15 names in a mode (10 R23; numbering in `State.gpr`). -/
def physIndex (m : BitVec 5) (r : RegNum) : Fin 30 :=
  if m = modeFiq ∧ 8 ≤ r.toNat ∧ r.toNat ≤ 14 then Fin.ofNat 30 (r.toNat + 7)
  else if r.toNat = 13 ∨ r.toNat = 14 then
    if m = modeSvc then Fin.ofNat 30 (r.toNat + 9)
    else if m = modeAbt then Fin.ofNat 30 (r.toNat + 11)
    else if m = modeIrq then Fin.ofNat 30 (r.toNat + 13)
    else if m = modeUnd then Fin.ofNat 30 (r.toNat + 15)
    else Fin.ofNat 30 r.toNat
  else Fin.ofNat 30 r.toNat

/-- The User-mode copy of a register number other than 15 (10 R25 `x_usr`). -/
def userIndex (r : RegNum) : Fin 30 := Fin.ofNat 30 r.toNat

/-- A banked register of the current mode reads as a free value right after a user-bank LDM (70 R757; log 37). -/
def State.readPhys (s : State) (k : Fin 30) : Word :=
  if s.bankHazard ∧ 15 ≤ k.val then Config.bankedRead s.draws k.val else s.gpr[k]

/-- `x[r]`, with r15 reading as `pcValue` (10 R25, R28). -/
def State.regOr (s : State) (pcValue : Word) (r : RegNum) : Word :=
  if r = 15#4 then pcValue else s.readPhys (physIndex s.cpsr.m r)

/-- The length in bytes of an instruction of the current state (10 R27). -/
def State.instrBytes (s : State) : Word := if s.cpsr.t then 2#32 else 4#32

/-- What r15 reads as: the address of the instruction two further on (10 R28). -/
def State.pcRead (s : State) : Word := s.pc + (if s.cpsr.t then 4#32 else 8#32)

/-- `x[r]` (10 R25). -/
def State.reg (s : State) (r : RegNum) : Word := s.regOr s.pcRead r

/-- `x[r]` where r15 reads as the instruction's address + 12 (40 R307, 42 R394, 43 R445). -/
def State.regLate (s : State) (r : RegNum) : Word := s.regOr (s.pc + 12#32) r

/-- A low register of a Thumb instruction (10 R32). -/
def State.lowReg (s : State) (r : LowReg) : Word := s.reg (r.setWidth 4)

/-- `x[r] <- v` for r other than 15 (10 R25). -/
def State.setReg (s : State) (r : RegNum) (v : Word) : State :=
  { s with gpr := s.gpr.set (physIndex s.cpsr.m r) v }

/-- A low register is written (10 R32). -/
def State.setLow (s : State) (r : LowReg) (v : Word) : State := s.setReg (r.setWidth 4) v

/-- `x_usr[r] <- v` for r other than 15 (10 R25). -/
def State.setUserReg (s : State) (r : RegNum) (v : Word) : State :=
  { s with gpr := s.gpr.set (userIndex r) v }

/-- A write to the PC: a branch that discards the prefetch queue; the bits the state ignores are cleared (10 R29). -/
def State.branchTo (s : State) (a : Word) : State :=
  { s with pc := alignPc s.cpsr.t a, queue := [] }

/-- The next instruction in sequence (10 R27, R30): the executed slot leaves the prefetch queue (70 R751). -/
def State.advance (s : State) : State := { s with pc := s.pc + s.instrBytes, queue := s.queue.tail }

/-- `x[r] <- v` followed by the next instruction, or a branch when r is 15 (10 R25, R29). -/
def State.writeResult (s : State) (r : RegNum) (v : Word) : State :=
  if r = 15#4 then s.branchTo v else (s.setReg r v).advance

/-- A free value (00 R10 `any`). -/
def State.drawn (s : State) : Word := Config.any s.draws

/-- The state after a free value has been drawn. -/
def State.drew (s : State) : State := { s with draws := s.draws + 1 }

/-- The SPSR of a mode, if it has one (10 R34, R39). -/
def State.spsrOf (s : State) (m : BitVec 5) : Option Psr :=
  if m = modeFiq then some s.spsrFiq
  else if m = modeSvc then some s.spsrSvc
  else if m = modeAbt then some s.spsrAbt
  else if m = modeIrq then some s.spsrIrq
  else if m = modeUnd then some s.spsrUnd
  else none

/-- The SPSR of a mode is written; a mode without one leaves the state as it is. -/
def State.setSpsrOf (s : State) (m : BitVec 5) (p : Psr) : State :=
  if m = modeFiq then { s with spsrFiq := p }
  else if m = modeSvc then { s with spsrSvc := p }
  else if m = modeAbt then { s with spsrAbt := p }
  else if m = modeIrq then { s with spsrIrq := p }
  else if m = modeUnd then { s with spsrUnd := p }
  else s

/-- The exceptions other than reset (60 R620). -/
inductive Exception where
  | undefined
  | swi
  | prefetchAbort
  | dataAbort
  | irq
  | fiq
  deriving DecidableEq, Repr

/-- The vector offset of an exception (60 R620, R640). -/
def exceptionOffset : Exception → Word
  | .undefined => 0x04#32
  | .swi => 0x08#32
  | .prefetchAbort => 0x0C#32
  | .dataAbort => 0x10#32
  | .irq => 0x18#32
  | .fiq => 0x1C#32

/-- The mode an exception enters (60 R620). -/
def exceptionMode : Exception → BitVec 5
  | .undefined => modeUnd
  | .swi => modeSvc
  | .prefetchAbort => modeAbt
  | .dataAbort => modeAbt
  | .irq => modeIrq
  | .fiq => modeFiq

/-- What an exception saves in the link register, `a` being the instruction's address (for IRQ and FIQ the address of the one
not executed) and `t` the state it is taken from (60 R620). -/
def exceptionLink (e : Exception) (t : Bool) (a : Word) : Word :=
  match e with
  | .undefined => a + (if t then 2#32 else 4#32)
  | .swi => a + (if t then 2#32 else 4#32)
  | .prefetchAbort => a + 4#32
  | .dataAbort => a + 8#32
  | .irq => a + 4#32
  | .fiq => a + 4#32

/-- The base of the exception vectors (60 R640). -/
def State.vectorBase (s : State) : Word := if s.cp15.v then 0xFFFF0000#32 else 0#32

/-- `TakeException(E)` (60 R621) for the instruction at `pc`. -/
def State.takeException (s : State) (e : Exception) : State :=
  let entered : State :=
    { s with cpsr := { s.cpsr with m := exceptionMode e, t := false, i := true, f := s.cpsr.f || (e == .fiq) } }
  let linked := entered.setReg 14#4 (exceptionLink e s.cpsr.t s.pc)
  let saved := linked.setSpsrOf (exceptionMode e) s.cpsr
  { saved with pc := s.vectorBase + exceptionOffset e, queue := [] }

/-- An exception return to `a`: the PC is written and the SPSR of the current mode becomes the CPSR, in one step (60 R623,
40 R306). User and System mode have no SPSR (U4). -/
def State.exceptionReturn (s : State) (a : Word) : Host.Outcome State Fault Refusal :=
  match s.spsrOf s.cpsr.m with
  | none => .refused .noSpsr
  | some p => .next { s with cpsr := p, pc := alignPc p.t a, queue := [] }

end Sys2Proof.Machine
end

