-- ==== Sys2Proof/Machine/Memory.lean ====
section
/-! DEFINITION. Physical memory, the AHB and the write buffer (20_memory.md R101 to R109, R140 to R151). -/

namespace Sys2Proof.Machine

/-- What an unlisted address reads as (log 1). -/
def unlistedByte : Byte := 0

/-- The byte of memory at a physical address. -/
def cellsRead (m : List Host.Cell) (a : Nat) : Byte :=
  match m with
  | [] => unlistedByte
  | (k, b) :: rest => if k = a then b else cellsRead rest a

/-- A cell in front of a list, unless it reads as an unlisted address does. -/
def consCell (a : Nat) (b : Byte) (m : List Host.Cell) : List Host.Cell :=
  if b = unlistedByte then m else (a, b) :: m

/-- A byte is written; the canonical form is kept. -/
def cellsWrite (m : List Host.Cell) (a : Nat) (b : Byte) : List Host.Cell :=
  match m with
  | [] => consCell a b []
  | (k, c) :: rest =>
    if a < k then consCell a b ((k, c) :: rest)
    else if k = a then consCell a b rest
    else (k, c) :: cellsWrite rest a b

/-- The canonical form: addresses below 2^32 and strictly rising, no byte equal to the unlisted one. -/
def cellsWf : List Host.Cell → Bool
  | [] => true
  | (k, b) :: rest =>
    decide (k < 2 ^ 32) && (b != unlistedByte) &&
      (match rest with
        | [] => true
        | (j, _) :: _ => decide (k < j)) && cellsWf rest

/-- The byte of memory at a physical address (20 R101). -/
def State.byteAt (s : State) (a : Word) : Byte := cellsRead s.mem a.toNat

/-- A byte of memory is written. -/
def State.setByte (s : State) (a : Word) (b : Byte) : State := { s with mem := cellsWrite s.mem a.toNat b }

/-- What answers at a physical address (20 R146, 00 R8). -/
def State.regionOf (s : State) (a : Word) : RegionKind :=
  match s.params.memMap.find? (fun r => decide (r.first ≤ a) && decide (a ≤ r.last)) with
  | some r => r.kind
  | none => .ram

/-- The word memory puts on the bus for the aligned word of an address (20 R105, R106). -/
def State.memoryWord (s : State) (a : Word) : Word :=
  let w := wordAlign a
  busWordOf s.cp15.b (s.byteAt w) (s.byteAt (w + 1)) (s.byteAt (w + 2)) (s.byteAt (w + 3))

/-- Bytes that another bus master writes to memory (70 R768). -/
def masterWrites (m : List Host.Cell) : List MasterWrite → List Host.Cell
  | [] => m
  | w :: rest => masterWrites (cellsWrite m w.addr.toNat w.data) rest

/-- What other masters write after the last transfer of a step (70 R768; log 48). -/
def State.othersFinish (s : State) : State := { s with mem := masterWrites s.mem s.masters.flatten, masters := [] }

/-- The write of SWP follows its read with HLOCK held, so that no other master comes between (70 R768). -/
def BusTransfer.holdsBus (t : BusTransfer) : Bool := t.lock && t.write

/-- A transfer is seen on the bus (20 R148), after what other masters write before it (70 R768; log 48). -/
def State.onBus (s : State) (t : BusTransfer) : State :=
  { s with
    bus := s.bus ++ [t]
    mem := if t.holdsBus then s.mem else masterWrites s.mem (s.masters.headD [])
    masters := if t.holdsBus then s.masters else s.masters.tail }

/-- A single transfer (20 R149). -/
def singleShape : BusShape := { burst := .single, trans := .nonseq }

/-- The `n`-th transfer of a line fetch (20 R133, R149). -/
def lineShape (n : Nat) : BusShape := { burst := .incr8, trans := if n = 0 then .nonseq else .seq }

/-- The number of bytes of a transfer, as an address increment. -/
def sizeStep : Size → Word
  | .byte => 1
  | .half => 2
  | .word => 4

/-- The transfer before the next one. -/
def State.prevTransfer (s : State) : Option BusTransfer :=
  match s.bus.getLast? with
  | some t => some t
  | none => s.trace.lastTransfer

/-- The address continues an INCR burst of reads: it is the one before plus the size (20 R149). -/
def State.continuesBurst (s : State) (a : Word) (size : Size) : Bool :=
  match s.prevTransfer with
  | some t => !t.write && t.shape.burst == .incr && t.size == size && a == t.addr + sizeStep size
  | none => false

/-- HBURST and HTRANS of an external read that is neither locked nor part of a line fetch or a table walk: SINGLE or INCR is free,
since 20 R149 does not say when INCR is driven (log 40). -/
def State.readShape (s : State) (a : Word) (size : Size) : BusShape :=
  if Config.incrBurst s.draws s.bus.length then
    { burst := .incr, trans := if s.continuesBurst (sizeAlign size a) size then .seq else .nonseq }
  else singleShape

/-- What a transfer on the AHB gives: HRDATA, whether HRESP was ERROR, and the state after it. -/
structure BusReply where
  data : Word
  error : Bool
  state : State
  deriving DecidableEq, Repr

/-- A read on the AHB at the aligned address, HADDR as driven (20 R111, R146, R149, R151, 42 R411; log 60). RAM drives the whole word,
also the lanes that a byte or halfword read leaves inactive (R151 asks for the active ones only: DESIGN CHOICE, log 50). A device answers
with data of its own; what comes with an ERROR is a free value. -/
def busRead (s : State) (a : Word) (size : Size) (shape : BusShape) (prot : BitVec 4) (lock : Bool) : BusReply :=
  let s1 := s.onBus
    { addr := sizeAlign size a, haddr := a, write := false, size := size, shape := shape, prot := prot, lock := lock, wdata := 0
      bigEndian := s.cp15.b }
  match s.regionOf (sizeAlign size a) with
  | .ram => { data := s1.memoryWord a, error := false, state := s1 }
  | .device => { data := s1.drawn, error := false, state := s1.drew }
  | .error => { data := s1.drawn, error := true, state := s1.drew }

/-- The bytes of the active lanes are stored (20 R108, R150). -/
def State.storeLanes (s : State) (a : Word) (big : Bool) (hwdata : Word) : List Nat → State
  | [] => s
  | j :: js =>
    (s.setByte (wordAlign a + BitVec.ofNat 32 j) (laneByte big hwdata j)).storeLanes a big hwdata js

/-- A write on the AHB at the aligned address, HADDR as driven (20 R111, R146, R149, R150, 42 R393; log 60): the state after it and
whether HRESP was ERROR. Every write is a single, non-sequential transfer: so R144 says of buffered writes and 43 R448 of STC, and for the
rest it is the model's choice (log 40). -/
def busWrite (s : State) (e : BufferedWrite) (lock : Bool) : State × Bool :=
  let s1 := s.onBus
    { addr := sizeAlign e.size e.addr, haddr := e.addr, write := true, size := e.size, shape := singleShape, prot := e.prot
      lock := lock, wdata := e.data
      bigEndian := e.bigEndian }
  match s.regionOf (sizeAlign e.size e.addr) with
  | .ram => (s1.storeLanes e.addr e.bigEndian e.data (sizeOffsets e.size e.addr), false)
  | .device => (s1, false)
  | .error => (s1, true)

/-- The oldest buffered write reaches the bus; an ERROR is ignored (20 R141, R145, R158). -/
def State.drainOne (s : State) : State :=
  match s.writeBuffer with
  | [] => s
  | e :: rest => (busWrite { s with writeBuffer := rest } e false).1

/-- Buffered writes are performed one by one, at most `n` of them. -/
def State.drainSome (s : State) : Nat → State
  | 0 => s
  | n + 1 => s.drainOne.drainSome n

/-- Every buffered write is performed (20 R142, R143, R157). -/
def State.drainAll (s : State) : State := s.drainSome s.writeBuffer.length

/-- A write enters the write buffer; a full buffer first performs its oldest write (20 R141). -/
def State.bufferWrite (s : State) (e : BufferedWrite) : State :=
  let s1 := if s.writeBuffer.length < 8 then s else s.drainOne
  { s1 with writeBuffer := s1.writeBuffer ++ [e] }

/-- The byte a physical address will hold once every buffered write has been performed. -/
def State.settledByte (s : State) (a : Word) : Byte := s.drainAll.byteAt a

end Sys2Proof.Machine
end

