-- ==== Sys2Proof/Machine/Mmu.lean ====
section
/-! DEFINITION. FCSE relocation and the MMU (21_mmu.md): the TLB, the table walk, the checks and the fault codes. -/

namespace Sys2Proof.Machine

/-- `Relocate(va)` (21 R161). -/
def State.relocate (s : State) (va : Word) : Word :=
  if va.extractLsb' 25 7 = 0#7 then s.cp15.pid ++ va.extractLsb' 0 25 else va

/-- SIZE_C of a 1MB entry (10 R74). -/
def sizeC1M : BitVec 4 := 0b1111#4

/-- The bits of MVA[31:10] the CAM compares for a SIZE_C (10 R74, 46 R574). -/
def sizeCMask (z : BitVec 4) : BitVec 22 :=
  match z with
  | 0b1111#4 => 0x3FFC00#22
  | 0b0111#4 => 0x3FFFC0#22
  | 0b0011#4 => 0x3FFFF0#22
  | 0b0001#4 => 0x3FFFFC#22
  | 0b0000#4 => 0x3FFFFF#22
  | _ => Config.sizeCMask z

/-- The bits of PA[31:10] that come from the PA tag for a SIZE_R2 (10 R74). -/
def sizeR2Mask (z : BitVec 4) : BitVec 22 :=
  match z with
  | 0b1000#4 => 0x3FFC00#22
  | 0b0100#4 => 0x3FFFC0#22
  | 0b0010#4 => 0x3FFFF0#22
  | 0b0000#4 => 0x3FFFFC#22
  | 0b0001#4 => 0x3FFFFF#22
  | _ => Config.sizeR2Mask z

/-- A valid entry matches an MVA over the bits its size covers (46 R574). -/
def tlbMatches (e : TlbEntry) (mva : Word) : Bool :=
  e.valid && ((e.tag ^^^ mva.extractLsb' 10 22) &&& sizeCMask e.sizeC == 0#22)

/-- The domain of an entry: the position of the one bit set in RAM1[21:6] (10 R74; other fields are log 22). -/
def entryDomain (e : TlbEntry) : BitVec 4 :=
  (oneHot16 (e.ram1.extractLsb' 6 16)).getD (Config.domainOfField (e.ram1.extractLsb' 6 16))

/-- The access permission of an entry (10 R74; fields that are not one-hot are log 22). -/
def entryAp (e : TlbEntry) : BitVec 2 :=
  match e.ram1.extractLsb' 0 4 with
  | 0b1000#4 => 0b11#2
  | 0b0100#4 => 0b10#2
  | 0b0010#4 => 0b01#2
  | 0b0001#4 => 0b00#2
  | x => Config.apOfField x

/-- Whether an entry is a section, which its fault codes show (21 R201). -/
def entrySection (e : TlbEntry) : Bool :=
  match e.sizeC with
  | 0b1111#4 => true
  | 0b0111#4 => false
  | 0b0011#4 => false
  | 0b0001#4 => false
  | 0b0000#4 => false
  | z => Config.sizeCSection z

/-- The physical address an entry gives (21 R176, R180). -/
def entryAddress (e : TlbEntry) (mva : Word) : Word :=
  let mask := sizeR2Mask e.sizeR2
  ((e.paTag &&& mask) ||| (mva.extractLsb' 10 22 &&& ~~~mask)) ++ mva.extractLsb' 0 10

/-- The C bit of an entry: nC is RAM1[5] (46 R594). -/
def entryCacheable (e : TlbEntry) : Bool := !(e.ram1.getLsbD 5)

/-- The B bit of an entry: nB is RAM1[4] (46 R594). -/
def entryBufferable (e : TlbEntry) : Bool := !(e.ram1.getLsbD 4)

/-- RAM1 of a translation (46 R594): domain one-hot, nC, nB, AP one-hot. -/
def ram1Of (domain : BitVec 4) (ap : BitVec 2) (c b : Bool) : BitVec 22 :=
  ((1#16) <<< domain.toNat) ++ BitVec.ofBool (!c) ++ BitVec.ofBool (!b) ++ ((1#4) <<< ap.toNat)

/-- An entry as the walk writes it (10 R74, 21 R171). Its P bit is clear: no rule says what a walk writes there, and c10.P is given
no effect (46 R599; DESIGN CHOICE, log 51). The tag holds MVA[31:10] of the access that missed, also the bits below the size of an entry
larger than 1KB, which a CAM read shows (R171 and 46 R591 do not say: DESIGN CHOICE, log 63). -/
def makeEntry (mva : Word) (sizeC sizeR2 : BitVec 4) (domain : BitVec 4) (ap : BitVec 2) (c b : Bool) (paTag : BitVec 22) :
    TlbEntry :=
  { tag := mva.extractLsb' 10 22, sizeC := sizeC, valid := true, preserve := false, ram1 := ram1Of domain ap c b
    ram2 := Config.ram2Pack paTag sizeR2, paTag := paTag, sizeR2 := sizeR2 }

/-- One of several candidates, by a free value where there is more than one (log 24). -/
def State.pick (s : State) (ks : List Nat) : Option Nat × State :=
  match ks with
  | [] => (none, s)
  | [k] => (some k, s)
  | k :: rest => (some ((k :: rest).getD (s.drawn.toNat % (rest.length + 1)) k), s.drew)

/-- The TLB entry with an index below 64. -/
def State.tlbEntry (s : State) (k : Nat) : TlbEntry := s.tlb.entries[Fin.ofNat 64 k]

/-- A TLB entry is written. -/
def State.setTlbEntry (s : State) (k : Nat) (e : TlbEntry) : State :=
  { s with tlb := { s.tlb with entries := s.tlb.entries.set (Fin.ofNat 64 k) e } }

/-- The TLB lookup (21 R169). -/
def State.tlbLookup (s : State) (mva : Word) : Option TlbEntry × State :=
  let r := s.pick ((List.range 64).filter (fun k => tlbMatches (s.tlbEntry k) mva))
  (r.1.map s.tlbEntry, r.2)

/-- The index after a TLB victim index: 63 is followed by the lockdown base (21 R170, 46 R598). -/
def State.nextTlbVictim (s : State) : BitVec 6 :=
  if s.tlb.victim = 63#6 then s.tlb.base else s.tlb.victim + 1

/-- A walk writes its entry at the victim, which advances (21 R170). -/
def State.fillTlb (s : State) (e : TlbEntry) : State :=
  let s1 := s.setTlbEntry s.tlb.victim.toNat e
  { s1 with tlb := { s1.tlb with victim := s.nextTlbVictim } }

/-- HPROT of a descriptor fetch: a privileged data access (log 20). -/
def walkProt : BitVec 4 := 0b0011#4

/-- A descriptor fetch: the write buffer is drained first (D6) and an ERROR is ignored (21 R184). It is a single transfer
(log 40). -/
def readDescriptor (s : State) (a : Word) : Word × State :=
  let r := busRead s.drainAll a .word singleShape walkProt false
  (r.data, r.state)

/-- How a walk ends (21 R198, R199). -/
inductive WalkResult where
  | found (e : TlbEntry)
  /-- Section translation fault; the domain is invalid. -/
  | sectionFault
  /-- Page translation fault. -/
  | pageFault (domain : BitVec 4)
  /-- A tiny page in a coarse table (U17). -/
  | tinyInCoarse
  deriving DecidableEq, Repr

/-- The AP field of a subpage: field 3 is bits [11:10], field 0 bits [5:4] (21 R179, R182). -/
def subpageAp (d : Word) (k : BitVec 2) : BitVec 2 :=
  match k with
  | 0b00#2 => d.extractLsb' 4 2
  | 0b01#2 => d.extractLsb' 6 2
  | 0b10#2 => d.extractLsb' 8 2
  | _ => d.extractLsb' 10 2

/-- The four subpage permissions agree, so one entry covers the page (21 R171). -/
def sameAps (d : Word) : Bool :=
  d.extractLsb' 4 2 == d.extractLsb' 6 2 && d.extractLsb' 4 2 == d.extractLsb' 8 2 && d.extractLsb' 4 2 == d.extractLsb' 10 2

/-- The entry of a section descriptor (21 R175, R176): its PA tag is the section base, and the should-be-zero bits [19:12] are
ignored (D16). -/
def sectionEntry (mva d : Word) : TlbEntry :=
  makeEntry mva 0b1111#4 0b1000#4 (d.extractLsb' 5 4) (d.extractLsb' 10 2) (d.getLsbD 3) (d.getLsbD 2)
    (d.extractLsb' 20 12 ++ 0#10)

/-- The entry of a level two descriptor (21 R171, R179 to R182): the PA tag holds the address bits that the entry's size takes from
it, the rest of it 0. -/
def pageEntry (mva : Word) (domain : BitVec 4) (coarse : Bool) (d : Word) : WalkResult :=
  match d.extractLsb' 0 2 with
  | 0b00#2 => .pageFault domain
  | 0b01#2 =>
    let ap := subpageAp d (mva.extractLsb' 14 2)
    if sameAps d then
      .found (makeEntry mva 0b0111#4 0b0100#4 domain ap (d.getLsbD 3) (d.getLsbD 2) (d.extractLsb' 16 16 ++ 0#6))
    else
      .found (makeEntry mva 0b0011#4 0b0010#4 domain ap (d.getLsbD 3) (d.getLsbD 2)
        (d.extractLsb' 16 16 ++ mva.extractLsb' 14 2 ++ 0#4))
  | 0b10#2 =>
    let ap := subpageAp d (mva.extractLsb' 10 2)
    if sameAps d then
      .found (makeEntry mva 0b0001#4 0b0000#4 domain ap (d.getLsbD 3) (d.getLsbD 2) (d.extractLsb' 12 20 ++ 0#2))
    else
      .found (makeEntry mva 0b0000#4 0b0001#4 domain ap (d.getLsbD 3) (d.getLsbD 2)
        (d.extractLsb' 12 20 ++ mva.extractLsb' 10 2))
  | _ =>
    if coarse then .tinyInCoarse
    else .found (makeEntry mva 0b0000#4 0b0001#4 domain (d.extractLsb' 4 2) (d.getLsbD 3) (d.getLsbD 2) (d.extractLsb' 10 22))

/-- The table walk (21 R173 to R183). -/
def walk (s : State) (mva : Word) : WalkResult × State :=
  let r1 := readDescriptor s (s.cp15.ttb ++ mva.extractLsb' 20 12 ++ 0#2)
  let d1 := r1.1
  match d1.extractLsb' 0 2 with
  | 0b00#2 => (.sectionFault, r1.2)
  | 0b10#2 => (.found (sectionEntry mva d1), r1.2)
  | 0b01#2 =>
    let r2 := readDescriptor r1.2 (d1.extractLsb' 10 22 ++ mva.extractLsb' 12 8 ++ 0#2)
    (pageEntry mva (d1.extractLsb' 5 4) true r2.1, r2.2)
  | _ =>
    let r2 := readDescriptor r1.2 (d1.extractLsb' 12 20 ++ mva.extractLsb' 10 10 ++ 0#2)
    (pageEntry mva (d1.extractLsb' 5 4) false r2.1, r2.2)

/-- `Permitted` (21 R197, R205). -/
def permitted (ap : BitVec 2) (s r : Bool) (priv write : Bool) : Bool :=
  if s && r then false
  else
    match ap with
    | 0b00#2 => (s && priv && !write) || (r && !write)
    | 0b01#2 => priv
    | 0b10#2 => priv || !write
    | _ => true

/-- What a translation that goes on gives: the address, C, B, and what an external abort records (21 R201). -/
structure Mapping where
  pa : Word
  c : Bool
  b : Bool
  /-- The FS code and the domain of an external abort. -/
  abortFs : BitVec 4
  abortDomain : BitVec 4
  deriving DecidableEq, Repr

/-- How a translation ends: `fault` carries FS and the domain (21 R201). -/
inductive Translation where
  | mapped (m : Mapping)
  | fault (fs domain : BitVec 4)
  | tinyInCoarse
  deriving DecidableEq, Repr

/-- The domain field of the DACR (21 R191). -/
def State.domainAccess (s : State) (d : BitVec 4) : BitVec 2 := s.cp15.dacr.extractLsb' (2 * d.toNat) 2

/-- The domain and permission checks of an entry (21 R196, R197, R205). -/
def checkEntry (s : State) (e : TlbEntry) (mva : Word) (priv write : Bool) : Translation :=
  let d := entryDomain e
  let sect := entrySection e
  match s.domainAccess d with
  | 0b01#2 =>
    if permitted (entryAp e) s.cp15.s s.cp15.r priv write then
      .mapped { pa := entryAddress e mva, c := entryCacheable e, b := entryBufferable e
                abortFs := if sect then 0b1000#4 else 0b1010#4, abortDomain := d }
    else .fault (if sect then 0b1101#4 else 0b1111#4) d
  | 0b11#2 =>
    .mapped { pa := entryAddress e mva, c := entryCacheable e, b := entryBufferable e
              abortFs := if sect then 0b1000#4 else 0b1010#4, abortDomain := d }
  | _ => .fault (if sect then 0b1001#4 else 0b1011#4) d

/-- The mapping with the MMU off (21 R167); the code and domain of an external abort are free (20 R146, U18; log 21). -/
def State.flatMapping (s : State) (mva : Word) : Mapping :=
  { pa := mva, c := false, b := false
    abortFs := if s.drawn.getLsbD 0 then 0b1000#4 else 0b1010#4, abortDomain := s.drawn.extractLsb' 1 4 }

/-- `Translate` but for the alignment check (21 R205). A section translation fault records a free domain (R202). -/
def translate (s : State) (mva : Word) (priv write : Bool) : Translation × State :=
  if s.cp15.m then
    let look := s.tlbLookup mva
    match look.1 with
    | some e => (checkEntry s e mva priv write, look.2)
    | none =>
      let w := walk look.2 mva
      match w.1 with
      | .found e => (checkEntry s e mva priv write, w.2.fillTlb e)
      | .sectionFault => (.fault 0b0101#4 (w.2.drawn.extractLsb' 0 4), w.2.drew)
      | .pageFault d => (.fault 0b0111#4 d, w.2)
      | .tinyInCoarse => (.tinyInCoarse, w.2)
  else (.mapped (s.flatMapping mva), s)

/-- A fault of a data access is recorded (21 R200). -/
def State.recordFault (s : State) (fs domain : BitVec 4) (mva : Word) : State :=
  { s with cp15 := { s.cp15 with fsr := domain ++ fs, far := mva } }

/-- A data access that the alignment check faults (20 R112). -/
def State.misaligned (s : State) (size : Size) (a : Word) : Bool :=
  s.cp15.a &&
    (match size with
      | .word => a.extractLsb' 0 2 != 0#2
      | .half => a.getLsbD 0
      | .byte => false)

end Sys2Proof.Machine
end

