-- ==== Sys2Proof/Machine/Cache.lean ====
section
/-! DEFINITION. The instruction and data cache (20_memory.md R130 to R139). -/

namespace Sys2Proof.Machine

/-- The IDC is enabled: C = 1 and M = 1 (20 R131, D4). -/
def State.cacheOn (s : State) : Bool := s.cp15.c && s.cp15.m

/-- The segment of an MVA (20 R130). -/
def cacheSegment (mva : Word) : Nat := (mva.extractLsb' 5 2).toNat

/-- Line `i` of segment `g` (20 R130). -/
def State.cacheLine (s : State) (g i : Nat) : CacheLine := s.cache.lines[Fin.ofNat 256 (64 * g + i)]

/-- A line is written. -/
def State.setCacheLine (s : State) (g i : Nat) (l : CacheLine) : State :=
  { s with cache := { s.cache with lines := s.cache.lines.set (Fin.ofNat 256 (64 * g + i)) l } }

/-- The lines of the segment that hold an MVA: valid, tag equal (20 R130, 46 R587). The tag is MVA[31:7], in which no bit of the segment
stands, so that a line a CAM write has placed hits like any other (46 R583 speaks of tags that could not; DEDUCED, log 56). All 64 lines of the
segment are searched, as R130 says, where 00 R7 calls the cache 4-way set associative (DESIGN CHOICE, log 61). -/
def State.cacheHits (s : State) (mva : Word) : List Nat :=
  (List.range 64).filter (fun i =>
    (s.cacheLine (cacheSegment mva) i).valid && (s.cacheLine (cacheSegment mva) i).tag == mva.extractLsb' 7 25)

/-- The index of the word of an address within its line (20 R130). -/
def wordInLine (a : Word) : Fin 8 := Fin.ofNat 8 (a.extractLsb' 2 3).toNat

/-- The line a fill replaces (20 R135, D7; log 15): that of a forced victim pointer, else free among the lines at or above the
lockdown base. -/
def State.cacheVictim (s : State) (g : Nat) : Nat :=
  if s.cache.forced[Fin.ofNat 4 g] then s.cache.victim[Fin.ofNat 4 g].toNat
  else s.cache.base.toNat + (s.drawn.extractLsb' 0 16).toNat % (64 - s.cache.base.toNat)

/-- The successor of a cache victim pointer: 63 is followed by the lockdown base (46 R584 (c), D25). -/
def State.nextCacheVictim (s : State) (g : Fin 4) : BitVec 6 :=
  if s.cache.victim[g] = 63#6 then s.cache.base else s.cache.victim[g] + 1

/-- What a fill leaves of a forced victim pointer: whether it moves on and whether it stays forced are free (20 R135 and 46 R584 (f)
do not say; log 15). -/
def State.fillMovesVictim (s : State) (g : Fin 4) : State :=
  if s.cache.forced[g] then
    { s with cache := { s.cache with
        victim := if s.drawn.getLsbD 31 then s.cache.victim.set g (s.nextCacheVictim g) else s.cache.victim
        forced := s.cache.forced.set g (s.drawn.getLsbD 30) } }
  else s

/-- The eight words of a line fetch, an INCR8 burst whose ERRORs are ignored (20 R133). -/
def fetchLineWords (s : State) (a : Word) (prot : BitVec 4) : Nat → List Word × State
  | 0 => ([], s)
  | n + 1 =>
    let r := fetchLineWords s a prot n
    let b := busRead r.2 (lineAlign a + BitVec.ofNat 32 (4 * n)) .word (lineShape n) prot false
    (r.1 ++ [b.data], b.state)

/-- A line fetch for a cacheable read that missed: the write buffer is drained, the line is read and placed (20 R133, R157). De, Do
and WB of the line, which a CAM read shows, are free (R134 says only that they are unused; log 15). -/
def lineFill (s : State) (mva pa : Word) (prot : BitVec 4) : Word × State :=
  let g := cacheSegment mva
  let r := fetchLineWords s.drainAll pa prot 8
  let words : Vector Word 8 := Vector.ofFn (fun k => r.1.getD k.val 0)
  let i := r.2.cacheVictim g
  let u := (r.2.fillMovesVictim (Fin.ofNat 4 g)).drew
  let line : CacheLine :=
    { tag := mva.extractLsb' 7 25, valid := true, dirtyEven := u.drawn.getLsbD 2, dirtyOdd := u.drawn.getLsbD 1
      writeBack := u.drawn.getLsbD 0, data := words }
  (words[wordInLine mva], u.drew.setCacheLine g i line)

/-- A write updates the lines that hold its MVA, in the active lanes (20 R134, D20). -/
def State.updateCache (s : State) (mva : Word) (size : Size) (hwdata : Word) : State :=
  let mask := laneMask s.cp15.b size mva
  (s.cacheHits mva).foldl (fun t i =>
    let l := t.cacheLine (cacheSegment mva) i
    let k := wordInLine mva
    t.setCacheLine (cacheSegment mva) i
      { l with data := l.data.set k ((l.data[k] &&& ~~~mask) ||| (hwdata &&& mask)) }) s

/-- A cacheable read with the IDC on (20 R133). -/
def cachedRead (s : State) (mva pa : Word) (prot : BitVec 4) : Word × State :=
  let h := s.pick (s.cacheHits mva)
  match h.1 with
  | some i => ((h.2.cacheLine (cacheSegment mva) i).data[wordInLine mva], h.2)
  | none => lineFill h.2 mva pa prot

/-- Every line of the IDC becomes invalid (46 R572). -/
def State.invalidateCache (s : State) : State :=
  { s with cache := { s.cache with lines := s.cache.lines.map (fun l => { l with valid := false }) } }

end Sys2Proof.Machine
end

