-- ==== Sys2Proof/Machine/Comparators.lean ====
section
/-! DEFINITION. The EmbeddedICE-RT comparators (61_debug_etm_test.md R692 to R697). -/

namespace Sys2Proof.Machine

/-- Monitor mode is selected (61 R696 bit 4). -/
def State.monitorMode (s : State) : Bool := s.ice.ctrl.getLsbD 4

/-- The core is in debug state and not at system speed: an inserted instruction runs at debug speed, so that its data accesses stay on the
scanned data bus (61 R687, R717). -/
def State.debugSpeed (s : State) : Bool := s.dbg.halted && !s.dbg.systemSpeed

/-- The comparators can act: DBGEN High, debug control bit 5 clear (61 R689, R696). They see every access the core issues, also one
at system speed, but not the internal cycles of debug speed (R687, R694; log 32). -/
def State.comparatorsOn (s : State) : Bool := s.pins.dbgen && !(s.ice.ctrl.getLsbD 5) && !s.debugSpeed

/-- Scan chain 1 is in test mode on a running core: INTEST is the current instruction and chain 1 is selected (61 R709, R713; on a
halted core the debugger's insertions are R714, R717). -/
def State.testMode (s : State) : Bool := !s.dbg.halted && s.tap.ir == 0b1100#4 && s.tap.scanSel == 1#4

/-- The data bus input of the core: in test mode the parallel register of the input cells (61 R713). -/
def State.dataIntoCore (s : State) (w : Word) : Word := if s.testMode then s.tap.parallel1.extractLsb' 0 32 else w

/-- The data bus output to the system: in test mode the serial register of the output cells (61 R713). -/
def State.dataToSystem (s : State) (w : Word) : Word := if s.testMode then s.tap.chain1.extractLsb' 0 32 else w

/-- The DBGBREAK input of the core: in test mode bit 32 of the parallel register (61 R713, R714). -/
def State.breakInput (s : State) : Bool := if s.testMode then s.tap.parallel1.getLsbD 32 else s.pins.dbgbreak

/-- DBGACK: the core is in debug state and not at system speed (61 R718), or bit 0 of the debug control register is set (R698). -/
def State.dbgack (s : State) : Bool :=
  s.pins.dbgen && ((s.dbg.halted && !s.dbg.systemSpeed) || s.ice.ctrl.getLsbD 0)

/-- IFEN, the core's interrupt enable (61 R697). It is High at system speed, while DBGACK is Low; an access at system speed takes no
interrupt all the same, as debug state follows it (R718; log 31). -/
def State.ifen (s : State) : Bool :=
  !s.pins.dbgen || (!s.dbgack && !(s.ice.ctrl.getLsbD 2))

/-- SIZE[1:0] of the core, as HSIZE (61 R693). -/
def sizeBits : Size → BitVec 2
  | .byte => 0b00#2
  | .half => 0b01#2
  | .word => 0b10#2

/-- What the comparators see of an access (61 R694): `dataValid` marks the bits of `data` they compare. -/
structure Observed where
  addr : Word
  data : Word
  dataValid : Word
  size : Size
  write : Bool
  /-- PROT[0]. -/
  isData : Bool
  /-- PROT[1]. -/
  priv : Bool
  /-- The MMU or the bus disallowed it (ETMABORT, 61 R727). -/
  aborted : Bool
  /-- The word at scan chain 1's data cells (61 R709, R713): of a read what the system applies to them, of a write what the core
  does. In test mode it differs from the word the core reads. -/
  cell : Word
  deriving DecidableEq, Repr

/-- Every bit of `value` equals `input` or is masked: the XNOR comparison of 61 R692. -/
def maskedEqual {w : Nat} (value mask input : BitVec w) : Bool := ((value ^^^ input) &&& ~~~mask) == 0#w

/-- C[4:0]: PROT[1], PROT[0], SIZE, WRITE (61 R693). -/
def Observed.control (o : Observed) : BitVec 5 :=
  BitVec.ofBool o.priv ++ BitVec.ofBool o.isData ++ sizeBits o.size ++ BitVec.ofBool o.write

/-- `addr_match` (61 R694). -/
def addrMatch (u : WatchUnit) (o : Observed) : Bool :=
  maskedEqual u.addrValue u.addrMask o.addr &&
    maskedEqual (u.ctrlValue.extractLsb' 0 5) (u.ctrlMask.extractLsb' 0 5) o.control

/-- `data_match` (61 R694), with C[7:5] = RANGE, CHAIN, DBGEXT. -/
def dataMatch (u : WatchUnit) (o : Observed) (range chain ext : Bool) : Bool :=
  maskedEqual u.dataValue (u.dataMask ||| ~~~o.dataValid) o.data &&
    maskedEqual (u.ctrlValue.extractLsb' 5 3) (u.ctrlMask.extractLsb' 5 3)
      (BitVec.ofBool range ++ BitVec.ofBool chain ++ BitVec.ofBool ext)

/-- DBGRNG[1]: the RANGE and CHAIN inputs of watchpoint 1 are 0 (61 R694, D28). -/
def State.range1Match (s : State) (o : Observed) : Bool :=
  addrMatch s.ice.unit1 o && dataMatch s.ice.unit1 o false false (s.pins.dbgext.getLsbD 1)

/-- DBGRNG[0]: RANGE is DBGRNG[1] and CHAIN the CHAINOUT latch of watchpoint 1 (61 R693, R695). -/
def State.range0Match (s : State) (o : Observed) : Bool :=
  addrMatch s.ice.unit0 o &&
    dataMatch s.ice.unit0 o (s.range1Match o) s.ice.chainOut (s.pins.dbgext.getLsbD 0)

/-- `trigger` of either unit (61 R694), or DBGBREAK in halt mode (R683; log 33). Debug control bit 5 disables DBGBREAK with the
comparator outputs (R696 names the outputs only: DESIGN CHOICE, log 33). In monitor mode, where R704 calls data-dependent
and RANGE comparisons unsupported, the units compare as in halt mode (DESIGN CHOICE, log 32). -/
def State.triggers (s : State) (o : Observed) : Bool :=
  s.comparatorsOn &&
    ((s.range0Match o && s.ice.unit0.ctrlValue.getLsbD 8) ||
      (s.range1Match o && s.ice.unit1.ctrlValue.getLsbD 8) ||
      (s.breakInput && !s.monitorMode))

/-- ETMSEQ (61 R727): the address is the same as the last one, or 4 greater, in Thumb state 2 greater. -/
def State.sequential (s : State) (a : Word) : Bool :=
  a == s.trace.lastAddr || a == s.trace.lastAddr + s.instrBytes

/-- The core's outputs show the access (61 R727), at debug speed as an internal cycle with the scanned data bus (R687, R717), and scan
chain 1 the word at its cells (R709, R713). -/
def State.recordAccess (s : State) (o : Observed) : State :=
  { s with trace := { s.trace with
      accesses := s.trace.accesses ++ [{
        request := !s.debugSpeed, addr := o.addr, nOpc := o.isData, nRw := o.write, size := o.size, seq := s.sequential o.addr
        data := o.data, abort := o.aborted }]
      lastAddr := o.addr
      dataBus := o.cell } }

/-- The comparators see the access: the CHAINOUT latch (61 R695) and the DBGRNG outputs (R694) follow it; while the comparators are
disabled DBGRNG keep their last values (R696 does not say: DESIGN CHOICE, log 32). -/
def State.compared (s : State) (o : Observed) : State :=
  if s.comparatorsOn then
    { s with ice := { s.ice with
        chainOut := if addrMatch s.ice.unit1 o then dataMatch s.ice.unit1 o false false (s.pins.dbgext.getLsbD 1)
          else s.ice.chainOut
        range0 := s.range0Match o
        range1 := s.range1Match o } }
  else s

/-- The access is seen, by the comparators and on the core's outputs. -/
def State.observe (s : State) (o : Observed) : State := (s.compared o).recordAccess o

end Sys2Proof.Machine
end

