-- ==== Sys2Proof/Machine/Outputs.lean ====
section
/-! DEFINITION. The output pins that reflect state (10_state.md R86; log 49): those of the core, the ETM interface
(61_debug_etm_test.md R725 to R727). DBGACK is `State.dbgack`, DBGRNG[1:0] are `ice.range1` and `ice.range0`, PROCIDWR is
`procIdWr`, DBGTDO is `tap.tdo`; DBGTAPSM, DBGIR and DBGSREG (61 R716) show `tap.state`, `tap.ir` and `tap.scanSel`; the control signals
of an external scan chain 0 (R716). -/

namespace Sys2Proof.Machine

/-- BIGENDOUT: control bit B (10 R86). -/
def State.bigEndOut (s : State) : Bool := s.cp15.b

/-- CPTBIT: CPSR.T (10 R86). -/
def State.cpTBit (s : State) : Bool := s.cpsr.t

/-- CPnTRANS: Low in User mode, High in a privileged mode (10 R86, 43 R449, C25). -/
def State.cpnTrans (s : State) : Bool := s.privileged

/-- CPnTRANS as sampled with the instruction in execution and carried into the coprocessor's decode stage (43 R449): that of its
fetch, or of the mode where no slot stands for the instruction. -/
def State.sampledTrans (s : State) : Bool :=
  match s.queue with
  | q :: _ => q.priv
  | [] => s.cpnTrans

/-- COMMRX: the data read register holds data for the core (46 R614). -/
def State.commRx (s : State) : Bool := s.dcc.r

/-- COMMTX: the data write register is empty (46 R614). -/
def State.commTx (s : State) : Bool := !s.dcc.w

/-- Scan chain 0 is selected: only then are its control signals active (61 R716). -/
def State.chain0Selected (s : State) : Bool := s.tap.scanSel == 0#4

/-- DBGSDIN: the serial data into an external scan chain 0 (61 R716). It and the next three signals follow the TAP whatever the current
instruction (R716 asks only that scan chain 0 is selected: DESIGN CHOICE, log 34). -/
def State.dbgSdIn (s : State) : Bool := s.chain0Selected && s.tap.sdin

/-- DBGCAPTURE (61 R716). -/
def State.dbgCapture (s : State) : Bool := s.chain0Selected && s.tap.state == .captureDr

/-- DBGSHIFT (61 R716). -/
def State.dbgShift (s : State) : Bool := s.chain0Selected && s.tap.state == .shiftDr

/-- DBGUPDATE (61 R716). -/
def State.dbgUpdate (s : State) : Bool := s.chain0Selected && s.tap.state == .updateDr

/-- DBGINTEST: INTEST is the current instruction (61 R707, R716). -/
def State.dbgIntest (s : State) : Bool := s.chain0Selected && s.tap.ir == 0b1100#4

/-- DBGEXTTEST: EXTEST would be the current instruction, but no code of 61 R707 is EXTEST (log 34). -/
def State.dbgExtest (_s : State) : Bool := false

/-- DBGnTDOEN: Low while DBGTDO is driven, in SHIFT-DR and SHIFT-IR (61 R716; log 34). -/
def State.dbgNTdoEn (s : State) : Bool := !(s.tap.state == .shiftDr || s.tap.state == .shiftIr)

/-- What the ETM outputs follow (61 R727). ETMDBGACK is the external DBGACK, after the OR with debug control bit 0 (R698); R727 does
not say which of the two it is (DESIGN CHOICE, log 49). -/
def State.etmNow (s : State) : EtmOutputs :=
  { accesses := s.trace.accesses, nExec := s.trace.nExec, instrValid := s.trace.instrValid, nCpi := s.trace.nCpi
    cpa := s.trace.cpa, cpb := s.trace.cpb, dbgAck := s.dbgack, tBit := s.cpsr.t, bigEnd := s.cp15.b, hiVecs := s.cp15.v
    procId := s.cp15.procId, procIdWr := s.procIdWr }

/-- The outputs show a word that an MCR or MRC moves over the core's data bus (61 R727, 43 R454): a data cycle without a memory
request, in which the address stays as it was (no rule states it: DESIGN CHOICE, log 49). -/
def State.recordWord (s : State) (write : Bool) (w : Word) : State :=
  { s with trace := { s.trace with
      accesses := s.trace.accesses ++ [{
        request := false, addr := s.trace.lastAddr, nOpc := true, nRw := write, size := .word
        seq := s.sequential s.trace.lastAddr, data := w, abort := false }]
      dataBus := w } }

/-- The accesses of an abandoned step stay on the outputs (61 R727, 70 R742; log 53). -/
def State.showAccesses (s : State) (accesses : List CoreAccess) : State :=
  { s with trace := { s.trace with
      accesses := s.trace.accesses ++ accesses
      lastAddr := (accesses.getLast?.map (·.addr)).getD s.trace.lastAddr
      dataBus := (accesses.getLast?.map (·.data)).getD s.trace.dataBus } }

/-- The ETM outputs at the end of a step: with ETMEN Low they are held stable (61 R725). -/
def State.driveEtm (s : State) : State :=
  if s.pins.etmen then { s with trace := { s.trace with etm := s.etmNow } } else s

/-- What the execute stage shows of an instruction (61 R727): whether it is executed, whether it is valid, and for a coprocessor
instruction that is executed the answer on CPA and CPB. -/
def State.showExecute (s : State) (executed valid : Bool) (answer : Option (Bool × Bool)) : State :=
  { s with trace := { s.trace with
      nExec := !executed, instrValid := valid, nCpi := answer.isNone
      cpa := (answer.getD (true, true)).1, cpb := (answer.getD (true, true)).2 } }

end Sys2Proof.Machine
end

