-- ==== Sys2Proof/Machine/Access.lean ====
section
/-! DEFINITION. `MemRead`, `MemWrite`, their locked forms and the instruction fetch (20_memory.md R116 to R121, R146). -/

namespace Sys2Proof.Machine

/-- How a data access ends. -/
inductive Access where
  /-- It completed; `v` is the value read, zero extended, or 0 for a write. -/
  | done (v : Word) (s : State)
  /-- It was aborted; the fault is recorded and the data abort is still to be taken. -/
  | abort (s : State)
  /-- The spec gives it no effect. -/
  | refused (r : Refusal)
  deriving DecidableEq, Repr

/-- HPROT of an access (20 R149). -/
def hprot (cacheable bufferable priv isData : Bool) : BitVec 4 :=
  BitVec.ofBool cacheable ++ BitVec.ofBool bufferable ++ BitVec.ofBool priv ++ BitVec.ofBool isData

/-- The next word on the data bus in debug state (61 R717; log 30). -/
def State.takeDataIn (s : State) : Word × State :=
  match s.dbg.dataIn with
  | w :: rest => (w, { s with dbg := { s.dbg with dataIn := rest } })
  | [] => (s.drawn, s.drew)

/-- A word is put on the data bus in debug state (61 R717). -/
def State.putDataOut (s : State) (w : Word) : State := { s with dbg := { s.dbg with dataOut := s.dbg.dataOut ++ [w] } }

/-- An external abort is recorded (20 R146). -/
def State.externalAbort (s : State) (m : Mapping) (mva : Word) : State :=
  (s.drew).recordFault m.abortFs m.abortDomain mva

/-- An alignment fault is recorded: FS = b00x1, the domain invalid (21 R201, R202). -/
def State.alignmentFault (s : State) (mva : Word) : State :=
  (s.drew).recordFault (if s.drawn.getLsbD 0 then 0b0011#4 else 0b0001#4) (s.drawn.extractLsb' 1 4) mva

/-- A watchpoint on a completed data access (61 R685, 60 R650): in monitor mode the access counts as aborted and DbgAbt is set,
in halt mode debug entry waits for the end of the instruction. -/
def watchOutcome (hit : Bool) (v : Word) (s : State) : Access :=
  if hit then
    if s.monitorMode then .abort { s with dcc := { s.dcc with dbgAbt := true } }
    else .done v { s with dbg := { s.dbg with watchHit := true } }
  else .done v s

/-- A watchpoint on an access that was aborted: halt mode remembers it (60 R651); in monitor mode DbgAbt is set, unless the abort is
an external one, which takes priority (60 R650, D27). The fault registers are those of the memory abort. -/
def State.abortedWatch (s : State) (hit external : Bool) : State :=
  if hit then
    if s.monitorMode then { s with dcc := { s.dcc with dbgAbt := s.dcc.dbgAbt || !external } }
    else { s with dbg := { s.dbg with watchHit := true } }
  else s

/-- What the comparators see of a data access. -/
def dataObserved (a w : Word) (size : Size) (write priv : Bool) : Observed :=
  { addr := a, data := w, dataValid := 0xFFFFFFFF#32, size := size, write := write, isData := true, priv := priv
    aborted := false, cell := w }

/-- The instruction in execution has had an access aborted. -/
def State.markAborted (s : State) : State := { s with dbg := { s.dbg with dataAborted := true } }

/-- An aborted access, seen by the comparators: of a write with the word on the data bus (61 R694, D28), of a read with an unstated
one. -/
def abortSeen (s : State) (a : Word) (size : Size) (written : Option Word) (priv external : Bool) : Access :=
  let o := { dataObserved a (written.getD s.drawn) size written.isSome priv with aborted := true }
  .abort (((s.abortedWatch (s.triggers o) external).observe o).drew).markAborted

/-- The word a read puts on the data bus, whether it was externally aborted, and the state (20 R133, R143, R146). HPROT[3:2] of
every access show the descriptor's C and B bits, also where control bit C or W is 0 (R149 does not say: DESIGN CHOICE, log 55). `lock` is
the read phase of SWP: always external, abortable in non-cacheable memory only (R121, R146). What counts as non-cacheable there is the
descriptor's C bit alone, also while the IDC is off (R146 does not say: DESIGN CHOICE, log 52). -/
def externalOrCached (s : State) (mva : Word) (m : Mapping) (size : Size) (priv isData lock : Bool) : BusReply :=
  let prot := hprot m.c m.b priv isData
  if s.cacheOn && m.c && !lock then
    let r := cachedRead s mva m.pa prot
    { data := r.1, error := false, state := r.2 }
  else
    let shape := if lock then singleShape else s.drainAll.readShape m.pa size
    let r := busRead s.drainAll m.pa size shape prot lock
    { r with error := r.error && !(lock && m.c) }

/-- `MemRead` and `MemReadLocked` (20 R116, R121). A read that a monitor mode watchpoint hits is performed, its line fill or device read
with it, before it counts as aborted (60 R650 does not say: DESIGN CHOICE, log 32). -/
def dataRead (s : State) (va : Word) (size : Size) (priv lock : Bool) : Access :=
  if s.debugSpeed then
    let r := s.takeDataIn
    .done (selectLanes s.cp15.b size va r.1) (r.2.observe (dataObserved va r.1 size false priv))
  else
    let mva := s.relocate va
    if s.misaligned size mva then abortSeen (s.alignmentFault mva) va size none priv false
    else if size = .half ∧ mva.getLsbD 0 = true then .refused .oddHalfword
    else
      let t := translate s mva priv false
      match t.1 with
      | .tinyInCoarse => .refused .tinyInCoarse
      | .fault fs d => abortSeen (t.2.recordFault fs d mva) va size none priv false
      | .mapped m =>
        let r := externalOrCached t.2 mva m size priv true lock
        if r.error then abortSeen (r.state.externalAbort m mva) va size none priv true
        else
          let w := r.state.dataIntoCore r.data
          let o := { dataObserved va w size false priv with cell := r.data }
          watchOutcome (r.state.triggers o) (selectLanes s.cp15.b size mva w) (r.state.observe o)

/-- Whether a write goes through the write buffer (20 R140, D4). -/
def State.buffered (s : State) (m : Mapping) (lock : Bool) : Bool := s.cp15.m && s.cp15.w && m.b && !lock

/-- The write itself, after every check: the cache, then the write buffer or the bus (20 R134, R141, R142, R146). HPROT[3:2] show
the descriptor's C and B bits, also of the write of SWP, which is unbufferable (R121; DESIGN CHOICE, log 55). The write of SWP can be
aborted where the descriptor's C bit is clear, also while the IDC is off (log 52). A line that hits is updated before the bus answers
(R117), and stays updated where the bus aborts the write, also that of SWP (42 R418, R420 do not say: DESIGN CHOICE, log 59). -/
def performWrite (s : State) (mva : Word) (m : Mapping) (size : Size) (hwdata : Word) (priv lock : Bool) : State × Bool :=
  let s1 := s.updateCache mva size hwdata
  let e : BufferedWrite :=
    { addr := m.pa, size := size, data := hwdata, bigEndian := s.cp15.b, prot := hprot m.c m.b priv true }
  if s.buffered m lock then (s1.bufferWrite e, false)
  else
    let r := busWrite s1.drainAll e lock
    (r.1, r.2 && !(lock && m.c))

/-- `MemWrite` and `MemWriteLocked` (20 R117, R121). In monitor mode a watchpointed write is inhibited as an MMU abort inhibits
it, unless the bus would abort it (60 R650, D27). -/
def dataWrite (s : State) (va : Word) (size : Size) (v : Word) (priv lock : Bool) : Access :=
  let bus := replicateLanes size v
  let hwdata := s.dataToSystem bus
  if s.debugSpeed then .done 0 ((s.putDataOut hwdata).observe (dataObserved va bus size true priv))
  else
    let mva := s.relocate va
    if s.misaligned size mva then abortSeen (s.alignmentFault mva) va size (some bus) priv false
    else if size = .half ∧ mva.getLsbD 0 = true then .refused .oddHalfword
    else
      let t := translate s mva priv true
      match t.1 with
      | .tinyInCoarse => .refused .tinyInCoarse
      | .fault fs d => abortSeen (t.2.recordFault fs d mva) va size (some bus) priv false
      | .mapped m =>
        let o := dataObserved va bus size true priv
        let hit := t.2.triggers o
        if hit && s.monitorMode && !(!s.buffered m lock && !(lock && m.c) && t.2.regionOf (sizeAlign size m.pa) == .error) then
          watchOutcome hit 0 (t.2.observe o)
        else
          let r := performWrite t.2 mva m size hwdata priv lock
          if r.2 then abortSeen (r.1.externalAbort m mva) va size (some bus) priv true
          else watchOutcome hit 0 (r.1.observe o)

/-- The instruction bits of a fetched word: in Thumb state the halfword of the address (10 R26, 20 R115). -/
def instrBits (t big : Bool) (a w : Word) : Word :=
  if t then selectLanes big .half a w else w

/-- The bits of the data bus a fetch makes valid: in Thumb state the half of the address (61 R694). -/
def fetchValid (t big : Bool) (a : Word) : Word :=
  if t then laneMask big .half a else 0xFFFFFFFF#32

/-- A slot of the prefetch queue from a fetched word; the comparators see the fetch (70 R751, 61 R684). `cell` is the word at scan
chain 1's cells. -/
def makeSlot (s : State) (a w cell : Word) (mark : FetchMark) : FetchSlot × State :=
  let o : Observed :=
    { addr := a, data := w, dataValid := fetchValid s.cpsr.t s.cp15.b a, size := .word, write := false, isData := false
      priv := s.privileged, aborted := mark != .ok, cell := cell }
  ({ addr := a, bits := instrBits s.cpsr.t s.cp15.b a w, fetched := w, mark := mark, breakpoint := s.triggers o
     priv := s.privileged },
    s.observe o)

/-- The fetch of the slot at `a` (20 R118): never alignment checked, in the privilege of the current mode. -/
def fetchSlot (s : State) (a : Word) : FetchSlot × State :=
  let mva := s.relocate (wordAlign a)
  let t := translate s mva s.privileged false
  match t.1 with
  | .tinyInCoarse => makeSlot t.2.drew a t.2.drawn t.2.drawn .tinyInCoarse
  | .fault _ _ => makeSlot t.2.drew a t.2.drawn t.2.drawn .aborted
  | .mapped m =>
    let r := externalOrCached t.2 mva m .word s.privileged false false
    makeSlot r.state a (r.state.dataIntoCore r.data) r.data (if r.error then .external else .ok)

/-- The next slot: in Thumb state the second halfword of a word comes with the first, without a bus transfer (70 R751). On the ETM
outputs it is a fetch of its own, with a memory request and the whole word (61 R727 does not say: DESIGN CHOICE, log 49). -/
def nextSlot (s : State) (a : Word) : FetchSlot × State :=
  match s.queue.getLast? with
  | some q =>
    if s.cpsr.t && a.getLsbD 1 && q.addr == a - 2#32 then makeSlot s a q.fetched s.trace.dataBus q.mark
    else fetchSlot s a
  | none => fetchSlot s a

/-- The queue is filled to three slots from `pc` on (70 R751; log 13). -/
def State.fillQueue (s : State) : Nat → State
  | 0 => s
  | n + 1 =>
    if s.queue.length < 3 then
      let r := nextSlot s (s.pc + s.instrBytes * BitVec.ofNat 32 s.queue.length)
      let t : State := { r.2 with queue := r.2.queue ++ [r.1] }
      t.fillQueue n
    else s

end Sys2Proof.Machine
end

