-- ==== Sys2Proof/Machine/Flags.lean ====
section
/-! DEFINITION. The condition flags: `AddWithCarry` (40 R302) and the flag results (40 R303, 41 R351 to R356). -/

namespace Sys2Proof.Machine

/-- A sum with its carry and its overflow. -/
structure Sum where
  result : Word
  carry : Bool
  overflow : Bool
  deriving DecidableEq, Repr

/-- `AddWithCarry(a, b, cin)` (40 R302): computed exactly, then narrowed. -/
def addWithCarry (a b : Word) (cin : Bool) : Sum :=
  let u : Nat := a.toNat + b.toNat + cin.toNat
  let t : Int := a.toInt + b.toInt + (cin.toNat : Int)
  { result := BitVec.ofNat 32 u
    carry := decide (2 ^ 32 ≤ u)
    overflow := decide (t < -(2 ^ 31)) || decide (2 ^ 31 - 1 < t) }

/-- N and Z of a result. -/
def psrNZ (p : Psr) (r : Word) : Psr := { p with n := r.msb, z := r == 0#32 }

/-- The flags of a logical operation: N, Z, the shifter carry-out; V unchanged (40 R303). -/
def psrLogical (p : Psr) (r : Word) (carry : Bool) : Psr := { psrNZ p r with c := carry }

/-- The flags of an arithmetic operation (40 R303). -/
def psrArith (p : Psr) (x : Sum) : Psr := { psrNZ p x.result with c := x.carry, v := x.overflow }

/-- The flags of MUL and MLA: C is a free value, V unchanged (41 R351, U22). -/
def psrMul (p : Psr) (r free : Word) : Psr := { psrNZ p r with c := free.getLsbD 0 }

/-- The flags of the long multiplies: C and V are free values (41 R353, U22). -/
def psrMulLong (p : Psr) (r : BitVec 64) (free : Word) : Psr :=
  { p with n := r.msb, z := r == 0#64, c := free.getLsbD 0, v := free.getLsbD 1 }

/-- The four flags from bits [31:28] of a value (43 R446). -/
def psrFlagsOf (p : Psr) (v : Word) : Psr :=
  { p with n := v.getLsbD 31, z := v.getLsbD 30, c := v.getLsbD 29, v := v.getLsbD 28 }

/-- The CPSR is written; nothing else changes. -/
def State.setCpsr (s : State) (p : Psr) : State := { s with cpsr := p }

end Sys2Proof.Machine
end

