-- ==== Sys2Proof/Machine/Operands.lean ====
section
/-! DEFINITION. Conditions (30 R233), the shifter operand (30 R241 to R244) and the addressing modes (42 R391, R406, R411). -/

namespace Sys2Proof.Machine

/-- `ConditionPassed` (30 R233, R234). -/
def condPassed (c : Cond) (p : Psr) : Bool :=
  match c with
  | .eq => p.z
  | .ne => !p.z
  | .cs => p.c
  | .cc => !p.c
  | .mi => p.n
  | .pl => !p.n
  | .vs => p.v
  | .vc => !p.v
  | .hi => p.c && !p.z
  | .ls => !p.c || p.z
  | .ge => p.n == p.v
  | .lt => p.n != p.v
  | .gt => !p.z && p.n == p.v
  | .le => p.z || p.n != p.v
  | .al => true
  | .nv => false

/-- A value from the shifter with its carry-out. -/
structure Shifted where
  value : Word
  carry : Bool
  deriving DecidableEq, Repr

/-- Operand 2, immediate form (30 R241). -/
def rotatedImm (rot : BitVec 4) (imm8 : BitVec 8) (c : Bool) : Shifted :=
  let v := ror32 (imm8.setWidth 32) (2 * rot.toNat)
  { value := v, carry := if rot = 0#4 then c else v.msb }

/-- Shift by an immediate amount (30 R243). -/
def shiftImm (t : ShiftType) (amount : BitVec 5) (m : Word) (c : Bool) : Shifted :=
  let n := amount.toNat
  match t with
  | .lsl =>
    if n = 0 then { value := m, carry := c } else { value := m <<< n, carry := m.getLsbD (32 - n) }
  | .lsr =>
    if n = 0 then { value := 0, carry := m.getLsbD 31 } else { value := m >>> n, carry := m.getLsbD (n - 1) }
  | .asr =>
    if n = 0 then { value := m.sshiftRight 31, carry := m.getLsbD 31 }
    else { value := m.sshiftRight n, carry := m.getLsbD (n - 1) }
  | .ror =>
    if n = 0 then { value := BitVec.ofBool c ++ m.extractLsb' 1 31, carry := m.getLsbD 0 }
    else { value := ror32 m n, carry := m.getLsbD (n - 1) }

/-- Shift by the bottom byte of a register (30 R244). -/
def shiftReg (t : ShiftType) (amount : BitVec 8) (m : Word) (c : Bool) : Shifted :=
  let n := amount.toNat
  if n = 0 then { value := m, carry := c }
  else
    match t with
    | .lsl =>
      if n < 32 then { value := m <<< n, carry := m.getLsbD (32 - n) }
      else { value := 0, carry := n = 32 && m.getLsbD 0 }
    | .lsr =>
      if n < 32 then { value := m >>> n, carry := m.getLsbD (n - 1) }
      else { value := 0, carry := n = 32 && m.getLsbD 31 }
    | .asr =>
      if n < 32 then { value := m.sshiftRight n, carry := m.getLsbD (n - 1) }
      else { value := m.sshiftRight 31, carry := m.getLsbD 31 }
    | .ror =>
      if n % 32 = 0 then { value := m, carry := m.getLsbD 31 }
      else { value := ror32 m n, carry := m.getLsbD (n % 32 - 1) }

/-- The low byte of a register as a shift amount (30 R244). -/
def shiftAmount (v : Word) : BitVec 8 := v.extractLsb' 0 8

/-- The second operand of format A1. -/
def State.operandImm (s : State) (rot : BitVec 4) (imm8 : BitVec 8) : Shifted := rotatedImm rot imm8 s.cpsr.c

/-- The second operand of format A2: r15 reads as the address + 8 (40 R307). -/
def State.operandShift (s : State) (amount : BitVec 5) (t : ShiftType) (rm : RegNum) : Shifted :=
  shiftImm t amount (s.reg rm) s.cpsr.c

/-- The second operand of format A3: r15 as Rm reads as the address + 12 (40 R307, which log 9 follows against the refusal of U6). -/
def State.operandRegShift (s : State) (rs : RegNum) (t : ShiftType) (rm : RegNum) : Shifted :=
  shiftReg t (shiftAmount (s.reg rs)) (s.regLate rm) s.cpsr.c

/-- An offset is added or subtracted (42 R391). -/
def applyOffset (u : Bool) (base offset : Word) : Word := if u then base + offset else base - offset

/-- The start address of a block transfer of `n` words (42 R411). -/
def blockStart (p u : Bool) (base : Word) (n : Nat) : Word :=
  let len := BitVec.ofNat 32 (4 * n)
  match p, u with
  | false, true => base
  | true, true => base + 4#32
  | false, false => base - len + 4#32
  | true, false => base - len

/-- The written-back base of a block transfer of `n` words (42 R411). -/
def blockEnd (u : Bool) (base : Word) (n : Nat) : Word :=
  let len := BitVec.ofNat 32 (4 * n)
  if u then base + len else base - len

/-- The registers of a list in ascending order (42 R411). -/
def regList (regs : BitVec 16) : List RegNum :=
  ((List.range 16).filter (fun k => regs.getLsbD k)).map (fun k => BitVec.ofNat 4 k)

end Sys2Proof.Machine
end

