-- ==== Sys2Proof/Machine/Common.lean ====
section
/-! DEFINITION. What the meanings share: the condition, the register restrictions, the sixteen data processing operations
(40_arm_data_processing.md R300 to R325), single transfers (42 R397, R398, R400) and block transfers (42 R412, R413, R418). -/

namespace Sys2Proof.Machine

/-- How an instruction ends. -/
abbrev Result := Host.Outcome State Fault Refusal

/-- An instruction whose condition fails only advances the pc (30 R232). -/
def conditionally (c : Cond) (st : State) (body : Result) : Result :=
  if condPassed c st.cpsr then body else .next st.advance

/-- r15 where the architecture forbids it is refused (U6). -/
def guardPc (bad : Bool) (body : Result) : Result := if bad then .refused .pcOperand else body

/-- Clashing registers are refused (U7, U21). -/
def guardClash (bad : Bool) (body : Result) : Result := if bad then .refused .registerClash else body

/-! Data processing. -/

/-- The end of a data processing instruction that writes Rd (40 R305, R306, R309). -/
def dpWrite (sets : Bool) (rd : RegNum) (r : Word) (flags : Psr) (st : State) : Result :=
  if rd = 15#4 then
    if sets then st.exceptionReturn r else .next (st.branchTo r)
  else .next (((st.setReg rd r).setCpsr (if sets then flags else st.cpsr)).advance)

/-- The end of a data processing instruction that writes flags only (40 R309). -/
def dpTest (flags : Psr) (st : State) : Result := .next ((st.setCpsr flags).advance)

/-- A logical operation that writes Rd (40 R303). -/
def dpLogical (sets : Bool) (rd : RegNum) (r : Word) (o : Shifted) (st : State) : Result :=
  dpWrite sets rd r (psrLogical st.cpsr r o.carry) st

/-- An arithmetic operation that writes Rd (40 R303). -/
def dpArith (sets : Bool) (rd : RegNum) (x : Sum) (st : State) : Result :=
  dpWrite sets rd x.result (psrArith st.cpsr x) st

/-- AND (40 R310). -/
def opAnd (sets : Bool) (rd : RegNum) (a : Word) (o : Shifted) (st : State) : Result :=
  dpLogical sets rd (a &&& o.value) o st
/-- EOR (40 R311). -/
def opEor (sets : Bool) (rd : RegNum) (a : Word) (o : Shifted) (st : State) : Result :=
  dpLogical sets rd (a ^^^ o.value) o st
/-- SUB (40 R312). -/
def opSub (sets : Bool) (rd : RegNum) (a : Word) (o : Shifted) (st : State) : Result :=
  dpArith sets rd (addWithCarry a (~~~o.value) true) st
/-- RSB (40 R313). -/
def opRsb (sets : Bool) (rd : RegNum) (a : Word) (o : Shifted) (st : State) : Result :=
  dpArith sets rd (addWithCarry o.value (~~~a) true) st
/-- ADD (40 R314). -/
def opAdd (sets : Bool) (rd : RegNum) (a : Word) (o : Shifted) (st : State) : Result :=
  dpArith sets rd (addWithCarry a o.value false) st
/-- ADC (40 R315). -/
def opAdc (sets : Bool) (rd : RegNum) (a : Word) (o : Shifted) (st : State) : Result :=
  dpArith sets rd (addWithCarry a o.value st.cpsr.c) st
/-- SBC (40 R316). -/
def opSbc (sets : Bool) (rd : RegNum) (a : Word) (o : Shifted) (st : State) : Result :=
  dpArith sets rd (addWithCarry a (~~~o.value) st.cpsr.c) st
/-- RSC (40 R317). -/
def opRsc (sets : Bool) (rd : RegNum) (a : Word) (o : Shifted) (st : State) : Result :=
  dpArith sets rd (addWithCarry o.value (~~~a) st.cpsr.c) st
/-- TST (40 R318). -/
def opTst (a : Word) (o : Shifted) (st : State) : Result := dpTest (psrLogical st.cpsr (a &&& o.value) o.carry) st
/-- TEQ (40 R319). -/
def opTeq (a : Word) (o : Shifted) (st : State) : Result := dpTest (psrLogical st.cpsr (a ^^^ o.value) o.carry) st
/-- CMP (40 R320). -/
def opCmp (a : Word) (o : Shifted) (st : State) : Result :=
  dpTest (psrArith st.cpsr (addWithCarry a (~~~o.value) true)) st
/-- CMN (40 R321). -/
def opCmn (a : Word) (o : Shifted) (st : State) : Result := dpTest (psrArith st.cpsr (addWithCarry a o.value false)) st
/-- ORR (40 R322). -/
def opOrr (sets : Bool) (rd : RegNum) (a : Word) (o : Shifted) (st : State) : Result :=
  dpLogical sets rd (a ||| o.value) o st
/-- MOV (40 R323). -/
def opMov (sets : Bool) (rd : RegNum) (o : Shifted) (st : State) : Result := dpLogical sets rd o.value o st
/-- BIC (40 R324). -/
def opBic (sets : Bool) (rd : RegNum) (a : Word) (o : Shifted) (st : State) : Result :=
  dpLogical sets rd (a &&& ~~~o.value) o st
/-- MVN (40 R325). -/
def opMvn (sets : Bool) (rd : RegNum) (o : Shifted) (st : State) : Result := dpLogical sets rd (~~~o.value) o st

/-! Single transfers. -/

/-- The address of a single transfer and what its base becomes (42 R391). -/
structure Addressing where
  addr : Word
  offAddr : Word
  writeback : Bool
  deriving DecidableEq, Repr

/-- P = 1 (42 R391). -/
def preIndexed (w u : Bool) (base offset : Word) : Addressing :=
  { addr := applyOffset u base offset, offAddr := applyOffset u base offset, writeback := w }

/-- P = 0: the base is the address and is always written back (42 R391). -/
def postIndexed (u : Bool) (base offset : Word) : Addressing :=
  { addr := base, offAddr := applyOffset u base offset, writeback := true }

/-- The addressing of a P bit and a W bit (42 R391, R406). -/
def indexed (p w u : Bool) (base offset : Word) : Addressing :=
  if p then preIndexed w u base offset else postIndexed u base offset

/-- The base register after a transfer (42 R391, R397). -/
def State.writeBack (st : State) (m : Addressing) (rn : RegNum) : State :=
  if m.writeback then st.setReg rn m.offAddr else st

/-- The value a word load writes: the aligned word rotated (42 R392). -/
def wordValue (a v : Word) : Word := ror32 v (8 * (a.extractLsb' 0 2).toNat)

/-- The value a signed byte load writes (42 R408). -/
def signedByteValue (v : Word) : Word := (v.extractLsb' 0 8).signExtend 32

/-- The value a signed halfword load writes (42 R409). -/
def signedHalfValue (v : Word) : Word := (v.extractLsb' 0 16).signExtend 32

/-- The value a load of a size writes to Rd. -/
def loadValue (size : Size) (signed : Bool) (a v : Word) : Word :=
  match size with
  | .word => wordValue a v
  | .half => if signed then signedHalfValue v else v
  | .byte => if signed then signedByteValue v else v

/-- A single load (42 R397, R398): on an abort the base is still written back. -/
def loadSingle (size : Size) (signed priv : Bool) (m : Addressing) (rn rd : RegNum) (st : State) : Result :=
  match dataRead st m.addr size priv false with
  | .refused r => .refused r
  | .abort s1 => .next ((s1.writeBack m rn).takeException .dataAbort)
  | .done v s1 => .next ((s1.writeBack m rn).writeResult rd (loadValue size signed m.addr v))

/-- A single store (42 R397, R400). -/
def storeSingle (size : Size) (priv : Bool) (m : Addressing) (rn : RegNum) (v : Word) (st : State) : Result :=
  match dataWrite st m.addr size v priv false with
  | .refused r => .refused r
  | .abort s1 => .next ((s1.writeBack m rn).takeException .dataAbort)
  | .done _ s1 => .next ((s1.writeBack m rn).advance)

/-- The restrictions on a base that is written back (42 R395, R396). -/
def guardBase (m : Addressing) (rn rd : RegNum) (body : Result) : Result :=
  guardPc (m.writeback && rn == 15#4) (guardClash (m.writeback && rn == rd) body)

/-- A checked single load. -/
def checkedLoad (size : Size) (signed priv : Bool) (m : Addressing) (rn rd : RegNum) (st : State) : Result :=
  guardBase m rn rd (loadSingle size signed priv m rn rd st)

/-- A checked single store: r15 as the data register stores the address + 12 (42 R394). -/
def checkedStore (size : Size) (priv : Bool) (m : Addressing) (rn rd : RegNum) (st : State) : Result :=
  guardBase m rn rd (storeSingle size priv m rn (st.regLate rd) st)

/-! Block transfers. -/

/-- A block transfer under way. -/
structure BlockRun where
  state : State
  /-- A transfer has been aborted. -/
  aborted : Bool
  /-- The word loaded for r15. -/
  pcValue : Option Word
  deriving DecidableEq, Repr

/-- FSR and FAR keep the first aborted transfer (42 R418, D23). If that is a monitor mode watchpoint, which records nothing (D27), they
stay as they were before it, also when a later transfer meets a fault of its own (neither says: DESIGN CHOICE, log 44). -/
def keepFirstFault (b : BlockRun) (s1 : State) : State :=
  if b.aborted then
    { s1 with cp15 := { s1.cp15 with fsr := b.state.cp15.fsr, far := b.state.cp15.far } }
  else s1

/-- A loaded word goes to its register (42 R412, R414). -/
def blockLoadReg (user : Bool) (s1 : State) (r : RegNum) (v : Word) : State :=
  if user then s1.setUserReg r v else s1.setReg r v

/-- The transfers of an LDM in order (42 R412, R418). The access is made at the address as driven (R411), so that FAR and the
comparators see its low bits where A = 0; memory ignores them (R392). R412 and R413 mask the address instead (DESIGN CHOICE, log 58). -/
def loadWords (user priv : Bool) : List RegNum → Word → BlockRun → Except Refusal BlockRun
  | [], _, b => .ok b
  | r :: rest, a, b =>
    match dataRead b.state a .word priv false with
    | .refused x => .error x
    | .abort s1 => loadWords user priv rest (a + 4#32) { b with state := keepFirstFault b s1, aborted := true }
    | .done v s1 =>
      if b.aborted then loadWords user priv rest (a + 4#32) { b with state := s1 }
      else if r = 15#4 then loadWords user priv rest (a + 4#32) { b with state := s1, pcValue := some v }
      else loadWords user priv rest (a + 4#32) { b with state := blockLoadReg user s1 r v }

/-- The value an STM stores for a register: r15 is the address + 12 (42 R413, R415). -/
def blockStoreValue (user : Bool) (st : State) (r : RegNum) : Word :=
  if user then (if r = 15#4 then st.pc + 12#32 else st.readPhys (userIndex r)) else st.regLate r

/-- The transfers of an STM in order, at the addresses as driven (log 58); the base is written back after the first (42 R413, R418). -/
def storeWords (user priv : Bool) (rn : RegNum) : Option Word → List RegNum → Word → BlockRun → Except Refusal BlockRun
  | _, [], _, b => .ok b
  | wb, r :: rest, a, b =>
    let based := fun (t : State) =>
      match wb with
      | some e => t.setReg rn e
      | none => t
    match dataWrite b.state a .word (blockStoreValue user b.state r) priv false with
    | .refused x => .error x
    | .abort s1 =>
      storeWords user priv rn none rest (a + 4#32) { b with state := based (keepFirstFault b s1), aborted := true }
    | .done _ s1 => storeWords user priv rn none rest (a + 4#32) { b with state := based s1 }

/-- A user-bank LDM that completes leaves the hazard of 70 R757 to the instruction directly following. -/
def State.leaveHazard (s : State) (user : Bool) : State := if user then { s with bankHazardNext := true } else s

/-- The end of an LDM: the PC if it was loaded, with the SPSR if `restore` (42 R412, R416); after an abort the base holds its
written-back or original value and the data abort is taken (R418). -/
def finishLoad (user restore : Bool) (rn : RegNum) (baseAfter : Word) (b : BlockRun) : Result :=
  if b.aborted then .next ((b.state.setReg rn baseAfter).takeException .dataAbort)
  else
    match b.pcValue with
    | none => .next (b.state.leaveHazard user).advance
    | some v => if restore then b.state.exceptionReturn v else .next (b.state.branchTo v)

/-- LDM in any of its forms, from the register list (42 R411, R412, R414, R416). -/
def loadBlock (user restore p u w : Bool) (rn : RegNum) (regs : List RegNum) (st : State) : Result :=
  let base := st.reg rn
  let after := blockEnd u base regs.length
  let s0 := if w then st.setReg rn after else st
  match loadWords user st.privileged regs (blockStart p u base regs.length)
      { state := s0, aborted := false, pcValue := none } with
  | .error x => .refused x
  | .ok b => finishLoad user restore rn (if w then after else st.gpr[physIndex st.cpsr.m rn]) b

/-- STM in any of its forms (42 R411, R413, R415). -/
def storeBlock (user p u w : Bool) (rn : RegNum) (regs : List RegNum) (st : State) : Result :=
  let base := st.reg rn
  match storeWords user st.privileged rn (if w then some (blockEnd u base regs.length) else none) regs
      (blockStart p u base regs.length) { state := st, aborted := false, pcValue := none } with
  | .error x => .refused x
  | .ok b => if b.aborted then .next (b.state.takeException .dataAbort) else .next b.state.advance

/-- r15 as base and the empty list are refused (42 R417, U6, U7). -/
def guardBlock (rn : RegNum) (regs : List RegNum) (body : Result) : Result :=
  guardPc (rn == 15#4) (guardClash regs.isEmpty body)

end Sys2Proof.Machine
end

