-- ==== Sys2Proof/Machine/Cp15.lean ====
section
/-! DEFINITION. CP15 (46_cp15_cp14_operations.md R560 to R599): the operations on its registers, the dispatch of MCR and MRC, and
the meanings of the transfers that have a row of their own. -/

namespace Sys2Proof.Machine

/-- What an MCR does with the value it transfers. -/
abbrev CoproWrite := Word → State → State

/-- What an MRC reads, and the state after it. -/
abbrev CoproRead := State → Word × State

/-- The CP15 registers are replaced. -/
def State.setCp15 (s : State) (c : Cp15) : State := { s with cp15 := c }

/-! Free bits. -/

/-- A value with the bits of a mask free (46 R563; log 11). -/
def freeBits (mask v : Word) (s : State) : Word × State := ((v &&& ~~~mask) ||| (s.drawn &&& mask), s.drew)

/-- A read of a reserved register: any value (46 R571, R578, U10, U11). -/
def readAny : CoproRead := fun s => (s.drawn, s.drew)

/-- A write that changes nothing (46 R565, R571, R578, U10 to U12). -/
def writeNothing : CoproWrite := fun _ s => s

/-! The architectural registers. -/

/-- ID register read (46 R565). -/
def readId : CoproRead := fun s => (Config.idRegister, s)

/-- The defined bits of the control register (46 R566): V, R, S, B, 1, 1, 1, W, C, A, M. -/
def controlBits (c : Cp15) : Word :=
  0#18 ++ BitVec.ofBool c.v ++ 0#3 ++ BitVec.ofBool c.r ++ BitVec.ofBool c.s ++ BitVec.ofBool c.b ++ 0b111#3 ++
    BitVec.ofBool c.w ++ BitVec.ofBool c.c ++ BitVec.ofBool c.a ++ BitVec.ofBool c.m

/-- Control register read (46 R566, R563). -/
def readControl : CoproRead := fun s => freeBits 0xFFFFDC00#32 (controlBits s.cp15) s

/-- Control register write (46 R566, D26). -/
def writeControl : CoproWrite := fun v s =>
  s.setCp15 { s.cp15 with
    m := v.getLsbD 0, a := v.getLsbD 1, c := v.getLsbD 2, w := v.getLsbD 3, b := v.getLsbD 7, s := v.getLsbD 8
    r := v.getLsbD 9, v := v.getLsbD 13 }

/-- Translation table base read (46 R567). -/
def readTtb : CoproRead := fun s => (s.cp15.ttb ++ 0#14, s)
/-- Translation table base write (46 R567). -/
def writeTtb : CoproWrite := fun v s => s.setCp15 { s.cp15 with ttb := v.extractLsb' 14 18 }

/-- Domain access control read (46 R568). -/
def readDacr : CoproRead := fun s => (s.cp15.dacr, s)
/-- Domain access control write (46 R568). -/
def writeDacr : CoproWrite := fun v s => s.setCp15 { s.cp15 with dacr := v }

/-- Fault status read (46 R569, R563): bit 8 reads 0. -/
def readFsr : CoproRead := fun s => freeBits 0xFFFFFE00#32 (s.cp15.fsr.setWidth 32) s
/-- Fault status write (46 R569). -/
def writeFsr : CoproWrite := fun v s => s.setCp15 { s.cp15 with fsr := v.extractLsb' 0 8 }

/-- Fault address read (46 R570). -/
def readFar : CoproRead := fun s => (s.cp15.far, s)
/-- Fault address write (46 R570). -/
def writeFar : CoproWrite := fun v s => s.setCp15 { s.cp15 with far := v }

/-- Invalidate the ID cache (46 R572). -/
def writeInvalidateCache : CoproWrite := fun _ s => s.invalidateCache

/-- An entry of the TLB becomes invalid where a condition holds. -/
def State.invalidateTlbWhere (s : State) (p : TlbEntry → Bool) : State :=
  { s with tlb := { s.tlb with entries := s.tlb.entries.map (fun e => if p e then { e with valid := false } else e) } }

/-- Invalidate the TLB (46 R573): the parameter says whether preserved entries survive. -/
def writeInvalidateTlb : CoproWrite := fun _ s =>
  s.invalidateTlbWhere (fun e => !(s.params.tlbInvalidateKeepsPreserved && e.preserve))

/-- Invalidate the TLB entries of an MVA (46 R574). -/
def writeInvalidateTlbEntry : CoproWrite := fun v s => s.invalidateTlbWhere (fun e => tlbMatches e v)

/-- FCSE PID read (46 R575, R563). -/
def readPid : CoproRead := fun s => freeBits 0x01FFFFFF#32 (s.cp15.pid ++ 0#25) s
/-- FCSE PID write (46 R575). -/
def writePid : CoproWrite := fun v s => s.setCp15 { s.cp15 with pid := v.extractLsb' 25 7 }

/-- Trace PROCID read (46 R576). -/
def readProcId : CoproRead := fun s => (s.cp15.procId, s)
/-- Trace PROCID write (46 R576): PROCIDWR is pulsed. -/
def writeProcId : CoproWrite := fun v s => { (s.setCp15 { s.cp15 with procId := v }) with procIdWr := true }

/-! Victim pointers, lockdown and the test registers. -/

/-- Write cache victim and lockdown base, for every segment (46 R588): the pointers are forced (20 R135). -/
def writeCacheBase : CoproWrite := fun v s =>
  { s with cache := { s.cache with
      base := v.extractLsb' 26 6
      victim := Vector.replicate 4 (v.extractLsb' 26 6)
      forced := Vector.replicate 4 true
      camOnly := Vector.replicate 4 false } }

/-- The segment field of a value, as an index (46 R582 to R588). -/
def segmentOf (v : Word) : Fin 4 := Fin.ofNat 4 (v.extractLsb' 5 2).toNat

/-- Write cache victim of one segment (46 R588): its pointer is forced (20 R135). -/
def writeCacheVictim : CoproWrite := fun v s =>
  { s with cache := { s.cache with
      victim := s.cache.victim.set (segmentOf v) (v.extractLsb' 26 6)
      forced := s.cache.forced.set (segmentOf v) true
      camOnly := s.cache.camOnly.set (segmentOf v) true } }

/-- TLB lockdown read (46 R599). -/
def readTlbLockdown : CoproRead := fun s => (s.tlb.base ++ s.tlb.victim ++ 0#19 ++ BitVec.ofBool s.tlb.p, s)
/-- TLB lockdown write (46 R599). -/
def writeTlbLockdown : CoproWrite := fun v s =>
  { s with tlb := { s.tlb with base := v.extractLsb' 26 6, victim := v.extractLsb' 20 6, p := v.getLsbD 0 } }

/-- Test state read (46 R580, R563). -/
def readTestState : CoproRead := fun s => freeBits 0xFFFFFFFE#32 ((BitVec.ofBool s.cp15.testState).setWidth 32) s
/-- Test state write (46 R580). -/
def writeTestState : CoproWrite := fun v s => s.setCp15 { s.cp15 with testState := v.getLsbD 0 }

/-- C15.C read (46 R581). -/
def readC15C : CoproRead := fun s => (s.cp15.c15c, s)
/-- C15.C write (46 R581). -/
def writeC15C : CoproWrite := fun v s => s.setCp15 { s.cp15 with c15c := v }
/-- C15.M read (46 R590, C26). -/
def readC15M : CoproRead := fun s => (s.cp15.c15m, s)

/-- C15.C is written; nothing else changes. -/
def State.setC15C (s : State) (v : Word) : State := s.setCp15 { s.cp15 with c15c := v }
/-- C15.M is written; nothing else changes. -/
def State.setC15M (s : State) (v : Word) : State := s.setCp15 { s.cp15 with c15m := v }

/-! Cache test operations (46 R582 to R587), on line `victim[seg]`; ignored while the test state is off (R589, U23; log 26). -/

/-- A test operation takes effect only while the test state is on. -/
def whenTesting (op : CoproWrite) : CoproWrite := fun v s => if s.cp15.testState then op v s else s

/-- The victim pointer of a segment moves on: 63 is followed by the lockdown base (46 R584, D25). -/
def State.bumpCacheVictim (s : State) (g : Fin 4) : State :=
  { s with cache := { s.cache with victim := s.cache.victim.set g (s.nextCacheVictim g) } }

/-- The victim pointer moves after a RAM operation in the mode cam_and_ram only (46 R584 (b)). -/
def State.bumpAfterRam (s : State) (g : Fin 4) : State := if s.cache.camOnly[g] then s else s.bumpCacheVictim g

/-- The line a cache test operation acts on (46 R584 (a)). -/
def State.testLine (s : State) (g : Fin 4) : CacheLine := s.cacheLine g.val s.cache.victim[g].toNat

/-- That line is written. -/
def State.setTestLine (s : State) (g : Fin 4) (l : CacheLine) : State := s.setCacheLine g.val s.cache.victim[g].toNat l

/-- The CAM read format (46 R582): tag, 0, V, De, Do, WB, LFSR[6], which is a free value (log 16). -/
def camFormat (l : CacheLine) (lfsr : Bool) : Word :=
  l.tag ++ 0#2 ++ BitVec.ofBool l.valid ++ BitVec.ofBool l.dirtyEven ++ BitVec.ofBool l.dirtyOdd ++
    BitVec.ofBool l.writeBack ++ BitVec.ofBool lfsr

/-- Cache CAM read (46 R582). -/
def cacheCamRead : CoproWrite := whenTesting fun v s =>
  ((s.setC15C (camFormat (s.testLine (segmentOf v)) (s.drawn.getLsbD 0))).drew).bumpCacheVictim (segmentOf v)

/-- Cache CAM write (46 R583). -/
def cacheCamWrite : CoproWrite := whenTesting fun v s =>
  (s.setTestLine (segmentOf v)
    { s.testLine (segmentOf v) with
      tag := v.extractLsb' 7 25, valid := v.getLsbD 4, dirtyEven := v.getLsbD 3, dirtyOdd := v.getLsbD 2
      writeBack := v.getLsbD 1 }).bumpCacheVictim (segmentOf v)

/-- Cache RAM read (46 R585). -/
def cacheRamRead : CoproWrite := whenTesting fun v s =>
  (s.setC15C ((s.testLine (segmentOf v)).data[wordInLine v])).bumpAfterRam (segmentOf v)

/-- Cache RAM write (46 R586). -/
def cacheRamWrite : CoproWrite := whenTesting fun v s =>
  (s.setTestLine (segmentOf v)
    { s.testLine (segmentOf v) with data := (s.testLine (segmentOf v)).data.set (wordInLine v) s.cp15.c15c }).bumpAfterRam
    (segmentOf v)

/-- Cache CAM match, RAM read (46 R587): hit in bit 31, miss in bit 30; the data bits are free on a miss. -/
def cacheCamMatch : CoproWrite := whenTesting fun v s =>
  let h := s.pick (s.cacheHits v)
  match h.1 with
  | some i => h.2.setC15C (0b10#2 ++ ((h.2.cacheLine (cacheSegment v) i).data[wordInLine v]).extractLsb' 0 30)
  | none => (h.2.setC15C (0b01#2 ++ h.2.drawn.extractLsb' 0 30)).drew

/-! TLB test operations (46 R591 to R598). -/

/-- The entry of the victim pointer (46 R598 (a)). -/
def State.victimEntry (s : State) : TlbEntry := s.tlbEntry s.tlb.victim.toNat

/-- The pipelined copy of the victim pointer follows a CAM or RAM1 operation (46 R598 (a)). -/
def State.latchIndex2 (s : State) : State := { s with tlb := { s.tlb with index2 := s.tlb.victim } }

/-- The victim pointer moves on after a RAM2 operation (46 R598 (c), (d)). -/
def State.bumpTlbVictim (s : State) : State := { s with tlb := { s.tlb with victim := s.nextTlbVictim } }

/-- TLB CAM read (46 R591). -/
def tlbCamRead : CoproWrite := whenTesting fun _ s =>
  (s.setC15M (s.victimEntry.tag ++ s.victimEntry.sizeC ++ BitVec.ofBool s.victimEntry.valid ++
    BitVec.ofBool s.victimEntry.preserve ++ 0#4)).latchIndex2

/-- TLB CAM write (46 R592). -/
def tlbCamWrite : CoproWrite := whenTesting fun v s =>
  (s.setTlbEntry s.tlb.victim.toNat
    { s.victimEntry with
      tag := v.extractLsb' 10 22, sizeC := v.extractLsb' 6 4, valid := v.getLsbD 5, preserve := v.getLsbD 4 }).latchIndex2

/-- The RAM1 read format (46 R593) with the protection, domain and miss flags in bits 24, 23 and 22 (R597, N19). -/
def ram1Format (protFault domainFault miss : Bool) (ram1 : BitVec 22) : Word :=
  0#7 ++ BitVec.ofBool protFault ++ BitVec.ofBool domainFault ++ BitVec.ofBool miss ++ ram1

/-- TLB RAM1 read (46 R593): the flags are valid only for match operations and are free here. -/
def tlbRam1Read : CoproWrite := whenTesting fun _ s =>
  ((s.setC15M (ram1Format (s.drawn.getLsbD 2) (s.drawn.getLsbD 1) (s.drawn.getLsbD 0) s.victimEntry.ram1)).drew).latchIndex2

/-- TLB RAM1 write (46 R594). -/
def tlbRam1Write : CoproWrite := whenTesting fun v s =>
  (s.setTlbEntry s.tlb.victim.toNat { s.victimEntry with ram1 := v.extractLsb' 0 22 }).latchIndex2

/-- TLB RAM2 read (46 R595). -/
def tlbRam2Read : CoproWrite := whenTesting fun _ s => (s.setC15M (s.tlbEntry s.tlb.index2.toNat).ram2).bumpTlbVictim

/-- TLB RAM2 write (46 R596); what translation uses of the word is `tlb_ram2_layout` (R595; log 23). -/
def tlbRam2Write : CoproWrite := whenTesting fun v s =>
  (s.setTlbEntry s.tlb.index2.toNat
    { s.tlbEntry s.tlb.index2.toNat with ram2 := v, paTag := Config.ram2Tag v, sizeR2 := Config.ram2Size v }).bumpTlbVictim

/-- The domain fault flag of a match: the domain is neither client nor manager (21 R191). -/
def State.matchDomainFault (s : State) (e : TlbEntry) : Bool := !((s.domainAccess (entryDomain e)).getLsbD 0)

/-- The protection fault flag of a match, for a data read in the current mode (D25 (f)): a manager's access is not checked. -/
def State.matchProtFault (s : State) (e : TlbEntry) : Bool :=
  s.domainAccess (entryDomain e) != 0b11#2 && !(permitted (entryAp e) s.cp15.s s.cp15.r s.privileged false)

/-- TLB CAM match, RAM1 read (46 R597; log 25): no walk; on a miss every bit but the miss flag and bits [31:25] is free. -/
def tlbCamMatch : CoproWrite := whenTesting fun v s =>
  let l := s.tlbLookup v
  match l.1 with
  | some e => l.2.setC15M (ram1Format (l.2.matchProtFault e) (l.2.matchDomainFault e) false e.ram1)
  | none =>
    (l.2.setC15M (ram1Format (l.2.drawn.getLsbD 24) (l.2.drawn.getLsbD 23) true (l.2.drawn.extractLsb' 0 22))).drew

/-! The dispatch of MCR and MRC to CP15 (46 R560 to R562). -/

/-- The rows of 46 R561 with opcode_1 = 0, by CRn and opcode_2; a CRm is a stray field in every one of them (U8). -/
def readSystemRow (crn : BitVec 4) (op2 : BitVec 3) : CoproRead :=
  match crn.toNat with
  | 0 => readId
  | 1 => readControl
  | 2 => readTtb
  | 3 => readDacr
  | 5 => readFsr
  | 6 => readFar
  | 10 => readTlbLockdown
  | 13 => if op2 = 1#3 then readProcId else readPid
  | _ => readAny

/-- The rows of 46 R561 with CRn = c15. -/
def readTestRow (op1 : BitVec 3) (crm : BitVec 4) (op2 : BitVec 3) : CoproRead :=
  match op1.toNat, crm.toNat, op2.toNat with
  | 3, 3, 0 => readC15C
  | 4, 3, 0 => readC15M
  | 4, 3, 6 => readC15M
  | 7, 15, 7 => readTestState
  | _, _, _ => readAny

/-- `CP15Read` (46 R560, R561, R571, R578): stray CRm and opcode_2 of the defined registers are ignored (U8), every other
combination reads any value (U10, U11). -/
def cp15Read (op1 : BitVec 3) (crn crm : BitVec 4) (op2 : BitVec 3) : CoproRead :=
  if crn = 15#4 then readTestRow op1 crm op2
  else if op1 = 0#3 then readSystemRow crn op2
  else readAny

/-- The rows of 46 R562 with opcode_1 = 0 (U8 for stray CRm and opcode_2; c7 and c8 have rows for their own CRm values only). -/
def writeSystemRow (crn crm : BitVec 4) (op2 : BitVec 3) : CoproWrite :=
  match crn.toNat with
  | 1 => writeControl
  | 2 => writeTtb
  | 3 => writeDacr
  | 5 => writeFsr
  | 6 => writeFar
  | 7 => if crm = 7#4 then writeInvalidateCache else writeNothing
  | 8 =>
    if crm = 5#4 ∨ crm = 6#4 ∨ crm = 7#4 then
      if op2 = 1#3 then writeInvalidateTlbEntry else writeInvalidateTlb
    else writeNothing
  | 9 => if crm = 1#4 then writeCacheVictim else writeCacheBase
  | 10 => writeTlbLockdown
  | 13 => if op2 = 1#3 then writeProcId else writePid
  | _ => writeNothing

/-- The rows of 46 R562 with CRn = c15. -/
def writeTestRow (op1 : BitVec 3) (crm : BitVec 4) (op2 : BitVec 3) : CoproWrite :=
  match op1.toNat, crm.toNat, op2.toNat with
  | 2, 7, 2 => cacheCamRead
  | 2, 7, 6 => cacheCamWrite
  | 2, 11, 2 => cacheRamRead
  | 2, 11, 6 => cacheRamWrite
  | 2, 7, 5 => cacheCamMatch
  | 3, 3, 0 => writeC15C
  | 4, 7, 4 => tlbCamRead
  | 4, 7, 0 => tlbCamWrite
  | 4, 11, 4 => tlbRam1Read
  | 4, 11, 0 => tlbRam1Write
  | 4, 3, 5 => tlbRam2Read
  | 4, 3, 1 => tlbRam2Write
  | 4, 13, 4 => tlbCamMatch
  | 7, 15, 7 => writeTestState
  | _, _, _ => writeNothing

/-- `CP15Write` (46 R560, R562, R565, R571, R577). -/
def cp15Write (op1 : BitVec 3) (crn crm : BitVec 4) (op2 : BitVec 3) : CoproWrite :=
  if crn = 15#4 then writeTestRow op1 crm op2
  else if op1 = 0#3 then writeSystemRow crn crm op2
  else writeNothing

/-! Transfers between the core and a register of an internal coprocessor. -/

/-- The end of an MRC (43 R446): r15 as Rd writes the flags, and the PC is not written. -/
def mrcWrite (rd : RegNum) (r : Word × State) : Result :=
  if rd = 15#4 then .next ((r.2.setCpsr (psrFlagsOf r.2.cpsr r.1)).advance) else .next ((r.2.setReg rd r.1).advance)

/-- An MCR to CP15 (43 R445): User mode takes the undefined instruction trap (10 R46). -/
def transferToCp15 (cond : Cond) (rd : RegNum) (op : CoproWrite) (st : State) : Result :=
  conditionally cond st
    (if st.privileged then .next ((op (st.regLate rd) st).advance) else .next (st.takeException .undefined))

/-- An MRC from CP15 (43 R446): User mode takes the undefined instruction trap (10 R46). -/
def transferFromCp15 (cond : Cond) (rd : RegNum) (op : CoproRead) (st : State) : Result :=
  conditionally cond st (if st.privileged then mrcWrite rd (op st) else .next (st.takeException .undefined))

/-! The rows of the table. -/

/-- MRC p15: read ID register (46 R565). -/
def execMrcId (cond : Cond) (rd : RegNum) (st : State) : Result :=
  transferFromCp15 cond rd readId st

/-- MRC p15: read control register (46 R566). -/
def execMrcControl (cond : Cond) (rd : RegNum) (st : State) : Result :=
  transferFromCp15 cond rd readControl st

/-- MCR p15: write control register (46 R566). -/
def execMcrControl (cond : Cond) (rd : RegNum) (st : State) : Result :=
  transferToCp15 cond rd writeControl st

/-- MRC p15: read translation table base (46 R567). -/
def execMrcTtb (cond : Cond) (rd : RegNum) (st : State) : Result :=
  transferFromCp15 cond rd readTtb st

/-- MCR p15: write translation table base (46 R567). -/
def execMcrTtb (cond : Cond) (rd : RegNum) (st : State) : Result :=
  transferToCp15 cond rd writeTtb st

/-- MRC p15: read domain access control (46 R568). -/
def execMrcDacr (cond : Cond) (rd : RegNum) (st : State) : Result :=
  transferFromCp15 cond rd readDacr st

/-- MCR p15: write domain access control (46 R568). -/
def execMcrDacr (cond : Cond) (rd : RegNum) (st : State) : Result :=
  transferToCp15 cond rd writeDacr st

/-- MRC p15: read fault status (46 R569). -/
def execMrcFsr (cond : Cond) (rd : RegNum) (st : State) : Result :=
  transferFromCp15 cond rd readFsr st

/-- MCR p15: write fault status (46 R569). -/
def execMcrFsr (cond : Cond) (rd : RegNum) (st : State) : Result :=
  transferToCp15 cond rd writeFsr st

/-- MRC p15: read fault address (46 R570). -/
def execMrcFar (cond : Cond) (rd : RegNum) (st : State) : Result :=
  transferFromCp15 cond rd readFar st

/-- MCR p15: write fault address (46 R570). -/
def execMcrFar (cond : Cond) (rd : RegNum) (st : State) : Result :=
  transferToCp15 cond rd writeFar st

/-- MCR p15: invalidate ID cache (46 R572). -/
def execMcrInvCache (cond : Cond) (rd : RegNum) (st : State) : Result :=
  transferToCp15 cond rd writeInvalidateCache st

/-- MCR p15: invalidate TLB CRm  c5 (46 R573). -/
def execMcrInvTlbC5 (cond : Cond) (rd : RegNum) (st : State) : Result :=
  transferToCp15 cond rd writeInvalidateTlb st

/-- MCR p15: invalidate TLB single entry CRm  c5 (46 R574). -/
def execMcrInvTlbEntryC5 (cond : Cond) (rd : RegNum) (st : State) : Result :=
  transferToCp15 cond rd writeInvalidateTlbEntry st

/-- MCR p15: invalidate TLB CRm  c6 (46 R573). -/
def execMcrInvTlbC6 (cond : Cond) (rd : RegNum) (st : State) : Result :=
  transferToCp15 cond rd writeInvalidateTlb st

/-- MCR p15: invalidate TLB single entry CRm  c6 (46 R574). -/
def execMcrInvTlbEntryC6 (cond : Cond) (rd : RegNum) (st : State) : Result :=
  transferToCp15 cond rd writeInvalidateTlbEntry st

/-- MCR p15: invalidate TLB CRm  c7 (46 R573). -/
def execMcrInvTlbC7 (cond : Cond) (rd : RegNum) (st : State) : Result :=
  transferToCp15 cond rd writeInvalidateTlb st

/-- MCR p15: invalidate TLB single entry CRm  c7 (46 R574). -/
def execMcrInvTlbEntryC7 (cond : Cond) (rd : RegNum) (st : State) : Result :=
  transferToCp15 cond rd writeInvalidateTlbEntry st

/-- MCR p15: write cache victim and lockdown base op2  0 (46 R588). -/
def execMcrCacheBase0 (cond : Cond) (rd : RegNum) (st : State) : Result :=
  transferToCp15 cond rd writeCacheBase st

/-- MCR p15: write cache victim op2  0 (46 R588). -/
def execMcrCacheVictim0 (cond : Cond) (rd : RegNum) (st : State) : Result :=
  transferToCp15 cond rd writeCacheVictim st

/-- MCR p15: write cache victim and lockdown base op2  1 (46 R588). -/
def execMcrCacheBase1 (cond : Cond) (rd : RegNum) (st : State) : Result :=
  transferToCp15 cond rd writeCacheBase st

/-- MCR p15: write cache victim op2  1 (46 R588). -/
def execMcrCacheVictim1 (cond : Cond) (rd : RegNum) (st : State) : Result :=
  transferToCp15 cond rd writeCacheVictim st

/-- MRC p15: read TLB lockdown (46 R599). -/
def execMrcTlbLockdown (cond : Cond) (rd : RegNum) (st : State) : Result :=
  transferFromCp15 cond rd readTlbLockdown st

/-- MCR p15: write TLB lockdown (46 R599). -/
def execMcrTlbLockdown (cond : Cond) (rd : RegNum) (st : State) : Result :=
  transferToCp15 cond rd writeTlbLockdown st

/-- MRC p15: read FCSE PID (46 R575). -/
def execMrcPid (cond : Cond) (rd : RegNum) (st : State) : Result :=
  transferFromCp15 cond rd readPid st

/-- MCR p15: write FCSE PID (46 R575). -/
def execMcrPid (cond : Cond) (rd : RegNum) (st : State) : Result :=
  transferToCp15 cond rd writePid st

/-- MRC p15: read trace PROCID (46 R576). -/
def execMrcProcId (cond : Cond) (rd : RegNum) (st : State) : Result :=
  transferFromCp15 cond rd readProcId st

/-- MCR p15: write trace PROCID (46 R576). -/
def execMcrProcId (cond : Cond) (rd : RegNum) (st : State) : Result :=
  transferToCp15 cond rd writeProcId st

/-- MCR p15: write test state register (46 R580). -/
def execMcrTestState (cond : Cond) (rd : RegNum) (st : State) : Result :=
  transferToCp15 cond rd writeTestState st

/-- MRC p15: read test state register (46 R580). -/
def execMrcTestState (cond : Cond) (rd : RegNum) (st : State) : Result :=
  transferFromCp15 cond rd readTestState st

/-- MCR p15: write C15.C (46 R581). -/
def execMcrC15C (cond : Cond) (rd : RegNum) (st : State) : Result :=
  transferToCp15 cond rd writeC15C st

/-- MRC p15: read C15.C (46 R581). -/
def execMrcC15C (cond : Cond) (rd : RegNum) (st : State) : Result :=
  transferFromCp15 cond rd readC15C st

/-- MCR p15: cache CAM read to C15.C (46 R582). -/
def execMcrCacheCamRead (cond : Cond) (rd : RegNum) (st : State) : Result :=
  transferToCp15 cond rd cacheCamRead st

/-- MCR p15: cache CAM write (46 R583). -/
def execMcrCacheCamWrite (cond : Cond) (rd : RegNum) (st : State) : Result :=
  transferToCp15 cond rd cacheCamWrite st

/-- MCR p15: cache RAM read to C15.C (46 R585). -/
def execMcrCacheRamRead (cond : Cond) (rd : RegNum) (st : State) : Result :=
  transferToCp15 cond rd cacheRamRead st

/-- MCR p15: cache RAM write from C15.C (46 R586). -/
def execMcrCacheRamWrite (cond : Cond) (rd : RegNum) (st : State) : Result :=
  transferToCp15 cond rd cacheRamWrite st

/-- MCR p15: cache CAM match RAM read to C15.C (46 R587). -/
def execMcrCacheCamMatch (cond : Cond) (rd : RegNum) (st : State) : Result :=
  transferToCp15 cond rd cacheCamMatch st

/-- MRC p15: read C15.M (46 R590). -/
def execMrcC15M (cond : Cond) (rd : RegNum) (st : State) : Result :=
  transferFromCp15 cond rd readC15M st

/-- MRC p15: read C15.M Example 11-2 form op2  6 (46 R590). -/
def execMrcC15MAlt (cond : Cond) (rd : RegNum) (st : State) : Result :=
  transferFromCp15 cond rd readC15M st

/-- MCR p15: TLB CAM read to C15.M (46 R591). -/
def execMcrTlbCamRead (cond : Cond) (rd : RegNum) (st : State) : Result :=
  transferToCp15 cond rd tlbCamRead st

/-- MCR p15: TLB CAM write (46 R592). -/
def execMcrTlbCamWrite (cond : Cond) (rd : RegNum) (st : State) : Result :=
  transferToCp15 cond rd tlbCamWrite st

/-- MCR p15: TLB RAM1 read to C15.M (46 R593). -/
def execMcrTlbRam1Read (cond : Cond) (rd : RegNum) (st : State) : Result :=
  transferToCp15 cond rd tlbRam1Read st

/-- MCR p15: TLB RAM1 write (46 R594). -/
def execMcrTlbRam1Write (cond : Cond) (rd : RegNum) (st : State) : Result :=
  transferToCp15 cond rd tlbRam1Write st

/-- MCR p15: TLB RAM2 read to C15.M (46 R595). -/
def execMcrTlbRam2Read (cond : Cond) (rd : RegNum) (st : State) : Result :=
  transferToCp15 cond rd tlbRam2Read st

/-- MCR p15: TLB RAM2 write (46 R596). -/
def execMcrTlbRam2Write (cond : Cond) (rd : RegNum) (st : State) : Result :=
  transferToCp15 cond rd tlbRam2Write st

/-- MCR p15: TLB CAM match RAM1 read to C15.M (46 R597). -/
def execMcrTlbCamMatch (cond : Cond) (rd : RegNum) (st : State) : Result :=
  transferToCp15 cond rd tlbCamMatch st

end Sys2Proof.Machine
end

