-- ==== Sys2Proof/Machine/Coprocessor.lean ====
section
/-! DEFINITION. CP14 (46_cp15_cp14_operations.md R605 to R611), external coprocessors (43_arm_coprocessor.md R440 to R455) and the
five coprocessor instructions. -/

namespace Sys2Proof.Machine

/-! CP14: the debug communications channel and the abort status (46 R605: only CRn is decoded). -/

/-- DCC control register read (46 R606): b0111, W in bit 1, R in bit 0. -/
def readDccControl : CoproRead := fun s =>
  (0b0111#4 ++ 0#26 ++ BitVec.ofBool s.dcc.w ++ BitVec.ofBool s.dcc.r, s)

/-- DCC data read (46 R607): R is cleared. -/
def readDccData : CoproRead := fun s => (s.dcc.readData, { s with dcc := { s.dcc with r := false } })

/-- DCC data write (46 R608): W is set. -/
def writeDccData : CoproWrite := fun v s => { s with dcc := { s.dcc with writeData := v, w := true } }

/-- Debug abort status read (46 R609). -/
def readAbortStatus : CoproRead := fun s => ((BitVec.ofBool s.dcc.dbgAbt).setWidth 32, s)

/-- Debug abort status write (46 R609). -/
def writeAbortStatus : CoproWrite := fun v s => { s with dcc := { s.dcc with dbgAbt := v.getLsbD 0 } }

/-- `CP14Read` (46 R605). -/
def cp14Read (crn : BitVec 4) : CoproRead :=
  match crn.toNat with
  | 0 => readDccControl
  | 1 => readDccData
  | 2 => readAbortStatus
  | _ => readAny

/-- `CP14Write` (46 R605, R606). -/
def cp14Write (crn : BitVec 4) : CoproWrite :=
  match crn.toNat with
  | 1 => writeDccData
  | 2 => writeAbortStatus
  | _ => writeNothing

/-- An MCR to CP14, in every mode (46 R611, D24). -/
def transferToCp14 (cond : Cond) (rd : RegNum) (op : CoproWrite) (st : State) : Result :=
  conditionally cond st (.next ((op (st.regLate rd) st).advance))

/-- An MRC from CP14, in every mode (46 R611, D24). -/
def transferFromCp14 (cond : Cond) (rd : RegNum) (op : CoproRead) (st : State) : Result :=
  conditionally cond st (mrcWrite rd (op st))

/-! External coprocessors: agents of the environment (43 R455). -/

/-- The coprocessor of a number that external coprocessors may have, 4 to 7 (43 R440, R455). -/
def isExternal (cp : BitVec 4) : Bool := cp.extractLsb' 2 2 == 0b01#2

/-- What an answer is with CPnTRANS at `privileged`: a coprocessor that restricts the instruction to privileged modes answers a
User mode attempt as if it were absent (43 R449). -/
def CoproAnswer.to (a : CoproAnswer) (privileged : Bool) : CoproResponse :=
  if a.privilegedOnly && !privileged then .absent else a.response

/-- The answer a coprocessor of the system gives next; none attached, or its answers at an end, is `absent` (43 R441). -/
def copResponse (cs : List Copro) (cp : BitVec 4) (privileged : Bool) : CoproResponse :=
  match cs with
  | [] => .absent
  | c :: rest =>
    if c.number = cp then
      match c.script with
      | [] => .absent
      | r :: _ => r.to privileged
    else copResponse rest cp privileged

/-- The one to sixteen words of an accepted instruction (43 R455). -/
def acceptedWords (first : Word) (more : List Word) : List Word := first :: more.take 15

/-- That answer has been given. -/
def copAnswered (cs : List Copro) (cp : BitVec 4) : List Copro :=
  match cs with
  | [] => []
  | c :: rest => if c.number = cp then { c with script := c.script.tail } :: rest else c :: copAnswered rest cp

/-- A coprocessor receives a word. -/
def copReceives (cs : List Copro) (cp : BitVec 4) (v : Word) : List Copro :=
  match cs with
  | [] => []
  | c :: rest =>
    if c.number = cp then { c with received := c.received ++ [v] } :: rest else c :: copReceives rest cp v

/-- The handshake of a coprocessor instruction (43 R441 to R443, R449): refused by all, the undefined instruction trap; busy, the
core waits at the instruction, where an interrupt can be taken (log 38); accepted, `body` with the first word and the others. -/
def withCoprocessor (cp : BitVec 4) (st : State) (body : Word → List Word → State → Result) : Result :=
  if isExternal cp then
    let s1 : State := { st with copros := copAnswered st.copros cp }
    match copResponse st.copros cp st.sampledTrans with
    | .absent => .next (s1.takeException .undefined)
    | .busy => .next s1
    | .accept first more => body first more s1
  else .next (st.takeException .undefined)

/-- How the transfers of an LDC or STC ended: an abort ends them (log 38). -/
inductive CopTransfer where
  | finished (s : State)
  | aborted (s : State)
  | refused (r : Refusal)
  deriving DecidableEq, Repr

/-- The transfers of an LDC (43 R447), one for each word the coprocessor asks for. -/
def copLoads (cp : BitVec 4) (priv : Bool) : List Word → Word → State → CopTransfer
  | [], _, s => .finished s
  | _ :: rest, a, s =>
    match dataRead s a .word priv false with
    | .refused r => .refused r
    | .abort s1 => .aborted s1
    | .done v s1 => copLoads cp priv rest (a + 4#32) { s1 with copros := copReceives s1.copros cp v }

/-- The transfers of an STC (43 R448). -/
def copStores (priv : Bool) : List Word → Word → State → CopTransfer
  | [], _, s => .finished s
  | w :: rest, a, s =>
    match dataWrite s a .word w priv false with
    | .refused r => .refused r
    | .abort s1 => .aborted s1
    | .done _ s1 => copStores priv rest (a + 4#32) s1

/-- The end of an LDC or STC (43 R447): the base is updated, also when a transfer aborted. -/
def copFinish (m : Addressing) (rn : RegNum) (t : CopTransfer) : Result :=
  match t with
  | .refused r => .refused r
  | .aborted s1 => .next ((s1.writeBack m rn).takeException .dataAbort)
  | .finished s1 => .next ((s1.writeBack m rn).advance)

/-- The address LDC and STC access: with control bit A clear `a AND 0xFFFFFFFC` (43 R447, R448); with A set the alignment check sees
`a` itself (42 R392, R393). -/
def copAddress (st : State) (a : Word) : Word := if st.cp15.a then a else wordAlign a

/-- The addressing of LDC and STC (43 R447): the base that is written back is not aligned. -/
def copAddressing (p u w : Bool) (rn : RegNum) (off8 : BitVec 8) (st : State) : Addressing :=
  let m := indexed p w u (st.reg rn) (off8.setWidth 32 <<< 2)
  { m with addr := copAddress st m.addr }

/-! The instructions. -/

/-- CDP (43 R444). -/
def execCdp (cond : Cond) (_op1 : BitVec 4) (_crn _crd cp : BitVec 4) (_op2 : BitVec 3) (_crm : BitVec 4) (st : State) :
    Result :=
  conditionally cond st (withCoprocessor cp st (fun _ _ s1 => .next s1.advance))

/-- MCR (43 R445). -/
def execMcr (cond : Cond) (op1 : BitVec 3) (crn : BitVec 4) (rd : RegNum) (cp : BitVec 4) (op2 : BitVec 3)
    (crm : BitVec 4) (st : State) : Result :=
  if cp = 15#4 then transferToCp15 cond rd (cp15Write op1 crn crm op2) st
  else if cp = 14#4 then transferToCp14 cond rd (cp14Write crn) st
  else
    conditionally cond st (withCoprocessor cp st
      (fun _ _ s1 => .next ({ s1 with copros := copReceives s1.copros cp (st.regLate rd) } : State).advance))

/-- MRC (43 R446). -/
def execMrc (cond : Cond) (op1 : BitVec 3) (crn : BitVec 4) (rd : RegNum) (cp : BitVec 4) (op2 : BitVec 3)
    (crm : BitVec 4) (st : State) : Result :=
  if cp = 15#4 then transferFromCp15 cond rd (cp15Read op1 crn crm op2) st
  else if cp = 14#4 then transferFromCp14 cond rd (cp14Read crn) st
  else conditionally cond st (withCoprocessor cp st (fun first _ s1 => mrcWrite rd (first, s1)))

/-- LDC (43 R447); r15 as a base that is written back is refused (U6). -/
def execLdc (cond : Cond) (p u _n w : Bool) (rn : RegNum) (_crd cp : BitVec 4) (off8 : BitVec 8) (st : State) : Result :=
  conditionally cond st (withCoprocessor cp st (fun first more s1 =>
    guardPc ((copAddressing p u w rn off8 st).writeback && rn == 15#4)
      (copFinish (copAddressing p u w rn off8 st) rn
        (copLoads cp st.privileged (acceptedWords first more) (copAddressing p u w rn off8 st).addr s1))))

/-- STC (43 R448); r15 as a base that is written back is refused (U6). -/
def execStc (cond : Cond) (p u _n w : Bool) (rn : RegNum) (_crd cp : BitVec 4) (off8 : BitVec 8) (st : State) : Result :=
  conditionally cond st (withCoprocessor cp st (fun first more s1 =>
    guardPc ((copAddressing p u w rn off8 st).writeback && rn == 15#4)
      (copFinish (copAddressing p u w rn off8 st) rn
        (copStores st.privileged (acceptedWords first more) (copAddressing p u w rn off8 st).addr s1))))

/-- MRC p14, DCC control register (46 R606). -/
def execMrcDccControl (cond : Cond) (_op1 : BitVec 3) (rd : RegNum) (_op2 : BitVec 3) (_crm : BitVec 4) (st : State) : Result :=
  transferFromCp14 cond rd readDccControl st

/-- MRC p14, DCC data read register (46 R607). -/
def execMrcDccData (cond : Cond) (_op1 : BitVec 3) (rd : RegNum) (_op2 : BitVec 3) (_crm : BitVec 4) (st : State) : Result :=
  transferFromCp14 cond rd readDccData st

/-- MCR p14, DCC data write register (46 R608). -/
def execMcrDccData (cond : Cond) (_op1 : BitVec 3) (rd : RegNum) (_op2 : BitVec 3) (_crm : BitVec 4) (st : State) : Result :=
  transferToCp14 cond rd writeDccData st

/-- MRC p14, debug abort status register (46 R609). -/
def execMrcAbortStatus (cond : Cond) (_op1 : BitVec 3) (rd : RegNum) (_op2 : BitVec 3) (_crm : BitVec 4) (st : State) :
    Result :=
  transferFromCp14 cond rd readAbortStatus st

/-- MCR p14, debug abort status register (46 R609). -/
def execMcrAbortStatus (cond : Cond) (_op1 : BitVec 3) (rd : RegNum) (_op2 : BitVec 3) (_crm : BitVec 4) (st : State) :
    Result :=
  transferToCp14 cond rd writeAbortStatus st

end Sys2Proof.Machine
end

