-- ==== Sys2Proof/Machine/Debugger.lean ====
section
/-! DEFINITION. What the debugger reads and writes: the EmbeddedICE-RT registers (61_debug_etm_test.md R690, R691, R698, R699,
R712), CP15 through scan chain 15 (R715); debug entry (R683 to R686, R720) and what may be inserted (R717). -/

namespace Sys2Proof.Machine

/-- DBGRQI: the pin ORed with the latched bit 1 of the debug control register (61 R698). -/
def State.dbgrqi (s : State) : Bool := s.pins.dbgrq || s.tap.dbgrqLatch

/-- TRANS[1], the state of HTRANS[1] from the core (61 R699): in debug state the cycles are IDLE (R687) until a system speed access
has completed (R718); of a running core it is sampled in mid-transfer and free (log 11). -/
def State.trans1 (s : State) : Bool := if s.dbg.halted then s.dbg.trans1 else s.drawn.getLsbD 3

/-- The debug status register (61 R699): DBGMOE, TBIT, TRANS[1], IFEN, DBGRQ, DBGACK; unlabelled bits are free (log 11). Bits 1 and 0
show DBGRQI and the external DBGACK, after the OR with control bits 1 and 0 (R698; R699 does not say: DESIGN CHOICE, log 57). -/
def statusWord (s : State) : Word :=
  0#19 ++ BitVec.ofBool s.dbg.moe ++ s.drawn.extractLsb' 5 7 ++ BitVec.ofBool s.cpsr.t ++ BitVec.ofBool s.trans1 ++
    BitVec.ofBool s.ifen ++ BitVec.ofBool s.dbgrqi ++ BitVec.ofBool s.dbgack

/-- One register of a watchpoint unit, by the low three bits of its address (61 R690). -/
def unitRead (u : WatchUnit) (k : BitVec 3) : Option Word :=
  match k.toNat with
  | 0 => some u.addrValue
  | 1 => some u.addrMask
  | 2 => some u.dataValue
  | 3 => some u.dataMask
  | 4 => some (u.ctrlValue.setWidth 32)
  | 5 => some (u.ctrlMask.setWidth 32)
  | _ => none

/-- A write of one register of a watchpoint unit; an unlisted address changes nothing. -/
def unitWrite (u : WatchUnit) (k : BitVec 3) (v : Word) : WatchUnit :=
  match k.toNat with
  | 0 => { u with addrValue := v }
  | 1 => { u with addrMask := v }
  | 2 => { u with dataValue := v }
  | 3 => { u with dataMask := v }
  | 4 => { u with ctrlValue := v.extractLsb' 0 9 }
  | 5 => { u with ctrlMask := v.extractLsb' 0 8 }
  | _ => u

/-- A read of an EmbeddedICE-RT register (61 R690, R691, R712): a read of the DCC data register clears W. Addresses not listed
read any value (U10). Of a register narrower than 32 bits the bits of the data field above it read 0 (10 R80 and 61 R691 do not say:
DESIGN CHOICE, log 62). -/
def iceReadReg (s : State) (a : BitVec 5) : Word × State :=
  match a.extractLsb' 3 2 with
  | 0b01#2 => ((unitRead s.ice.unit0 (a.extractLsb' 0 3)).getD s.drawn, s.drew)
  | 0b10#2 => ((unitRead s.ice.unit1 (a.extractLsb' 0 3)).getD s.drawn, s.drew)
  | 0b00#2 =>
    match (a.extractLsb' 0 3).toNat with
    | 0 => (s.ice.ctrl.setWidth 32, s)
    | 1 => (statusWord s, s.drew)
    | 4 => (0b0100#4 ++ 0#26 ++ BitVec.ofBool s.dcc.w ++ BitVec.ofBool s.dcc.r, s)
    | 5 => (s.dcc.writeData, { s with dcc := { s.dcc with w := false } })
    | _ => (s.drawn, s.drew)
  | _ => (s.drawn, s.drew)

/-- The debug control register is written; bit 3 reads as zero (61 R696). -/
def State.writeDebugControl (s : State) (v : Word) : State :=
  { s with ice := { s.ice with ctrl := v.extractLsb' 4 2 ++ 0#1 ++ v.extractLsb' 0 3 } }

/-- A write of an EmbeddedICE-RT register (61 R690, R691, R695, R712). The status register is read only (D28); a write of the DCC
control register with bit 0 clear clears R (log 47); addresses not listed ignore it (U10). -/
def iceWriteReg (s : State) (a : BitVec 5) (v : Word) : State :=
  match a.extractLsb' 3 2 with
  | 0b01#2 => { s with ice := { s.ice with unit0 := unitWrite s.ice.unit0 (a.extractLsb' 0 3) v } }
  | 0b10#2 =>
    { s with ice := { s.ice with
        unit1 := unitWrite s.ice.unit1 (a.extractLsb' 0 3) v
        chainOut := s.ice.chainOut && a.extractLsb' 0 3 != 4#3 } }
  | 0b00#2 =>
    match (a.extractLsb' 0 3).toNat with
    | 0 => s.writeDebugControl v
    | 4 => { s with dcc := { s.dcc with r := s.dcc.r && v.getLsbD 0 } }
    | 5 => { s with dcc := { s.dcc with readData := v, r := true } }
    | _ => s
  | _ => s

/-- A debugger read through scan chain 15 (61 R715); write-only and undescribed encodings read any value. -/
def scan15Read (op : BitVec 4) : CoproRead :=
  match op.toNat with
  | 0 => readId
  | 1 => readControl
  | 2 => readTtb
  | 3 => readDacr
  | 4 => readFsr
  | 5 => readFar
  | 6 => readPid
  | 7 => readProcId
  | _ => readAny

/-- A debugger write through scan chain 15 (61 R715); read-only and undescribed encodings ignore it. -/
def scan15Write (op : BitVec 4) : CoproWrite :=
  match op.toNat with
  | 1 => writeControl
  | 2 => writeTtb
  | 3 => writeDacr
  | 4 => writeFsr
  | 5 => writeFar
  | 6 => writePid
  | 7 => writeProcId
  | 8 => writeInvalidateCache
  | 9 => writeInvalidateTlb
  | 10 => writeInvalidateTlbEntry
  | _ => writeNothing

/-- The debugger's last read is kept for it. -/
def State.keepRead (r : Word × State) : State := { r.2 with dbg := { r.2.dbg with readData := r.1 } }

/-- Debug state is entered with the PC advanced by `k` addresses from the return address `pc` (61 R720; log 28). The environment
takes DBGRQ and DBGBREAK Low in the clock of DBGACK (R686; log 33). Entry flushes the pipeline (R719), so that the first inserted
instruction does not directly follow an LDM of the User bank (70 R757 does not say: DESIGN CHOICE, log 37). -/
def State.enterDebug (s : State) (k : Nat) (moe bit33 : Bool) : State :=
  { s with
    pc := s.pc + s.instrBytes * BitVec.ofNat 32 (k - 1)
    queue := []
    dbg := { s.dbg with
      halted := true, systemSpeed := false, moe := moe, bit33 := bit33, prevBit33 := false, pending := none
      watchHit := false, dataAborted := false, dataIn := [], dataOut := [], trans1 := false, skip := 0, loading := none
      dataCycle := false }
    pins := { s.pins with dbgrq := false, dbgbreak := false }
    bankHazard := false
    bankHazardNext := false }

/-- Debug entry by a breakpoint: four addresses, DBGMOE 0, bit 33 Low (61 R720). -/
def State.enterByBreakpoint (s : State) : State := s.enterDebug 4 false false

/-- Debug entry by a request: three addresses, DBGMOE 1, bit 33 not stated (61 R720). -/
def State.enterByRequest (s : State) : State := (s.enterDebug 3 true (s.drawn.getLsbD 0)).drew

/-- What kind of instruction an inserted word holds (61 R717, R718). -/
inductive DebugClass where
  /-- Data processing, MSR and MRS. -/
  | internal
  /-- A load, store, load multiple or store multiple: it may run at system speed. -/
  | transfer
  /-- A branch (61 R717 for BX, R719). -/
  | branch
  /-- What must not be inserted. -/
  | other
  deriving DecidableEq, Repr

/-- The kind of each instruction (61 R717; log 29). -/
def debugClass : Instr → DebugClass
  | .andImm .. => .internal
  | .andShift .. => .internal
  | .andRegShift .. => .internal
  | .eorImm .. => .internal
  | .eorShift .. => .internal
  | .eorRegShift .. => .internal
  | .subImm .. => .internal
  | .subShift .. => .internal
  | .subRegShift .. => .internal
  | .rsbImm .. => .internal
  | .rsbShift .. => .internal
  | .rsbRegShift .. => .internal
  | .addImm .. => .internal
  | .addShift .. => .internal
  | .addRegShift .. => .internal
  | .adcImm .. => .internal
  | .adcShift .. => .internal
  | .adcRegShift .. => .internal
  | .sbcImm .. => .internal
  | .sbcShift .. => .internal
  | .sbcRegShift .. => .internal
  | .rscImm .. => .internal
  | .rscShift .. => .internal
  | .rscRegShift .. => .internal
  | .tstImm .. => .internal
  | .tstShift .. => .internal
  | .tstRegShift .. => .internal
  | .teqImm .. => .internal
  | .teqShift .. => .internal
  | .teqRegShift .. => .internal
  | .cmpImm .. => .internal
  | .cmpShift .. => .internal
  | .cmpRegShift .. => .internal
  | .cmnImm .. => .internal
  | .cmnShift .. => .internal
  | .cmnRegShift .. => .internal
  | .orrImm .. => .internal
  | .orrShift .. => .internal
  | .orrRegShift .. => .internal
  | .movImm .. => .internal
  | .movShift .. => .internal
  | .movRegShift .. => .internal
  | .bicImm .. => .internal
  | .bicShift .. => .internal
  | .bicRegShift .. => .internal
  | .mvnImm .. => .internal
  | .mvnShift .. => .internal
  | .mvnRegShift .. => .internal
  | .mul .. => .internal
  | .mla .. => .internal
  | .umull .. => .internal
  | .umlal .. => .internal
  | .smull .. => .internal
  | .smlal .. => .internal
  | .mrs .. => .internal
  | .msrImm .. => .internal
  | .msrReg .. => .internal
  | .bx .. => .branch
  | .ldrImmPre .. => .transfer
  | .ldrImmPost .. => .transfer
  | .ldrtImm .. => .transfer
  | .ldrRegPre .. => .transfer
  | .ldrRegPost .. => .transfer
  | .ldrtReg .. => .transfer
  | .ldrbImmPre .. => .transfer
  | .ldrbImmPost .. => .transfer
  | .ldrbtImm .. => .transfer
  | .ldrbRegPre .. => .transfer
  | .ldrbRegPost .. => .transfer
  | .ldrbtReg .. => .transfer
  | .strImmPre .. => .transfer
  | .strImmPost .. => .transfer
  | .strtImm .. => .transfer
  | .strRegPre .. => .transfer
  | .strRegPost .. => .transfer
  | .strtReg .. => .transfer
  | .strbImmPre .. => .transfer
  | .strbImmPost .. => .transfer
  | .strbtImm .. => .transfer
  | .strbRegPre .. => .transfer
  | .strbRegPost .. => .transfer
  | .strbtReg .. => .transfer
  | .ldrhImm .. => .transfer
  | .ldrhReg .. => .transfer
  | .ldrsbImm .. => .transfer
  | .ldrsbReg .. => .transfer
  | .ldrshImm .. => .transfer
  | .ldrshReg .. => .transfer
  | .strhImm .. => .transfer
  | .strhReg .. => .transfer
  | .ldm .. => .transfer
  | .stm .. => .transfer
  | .ldmUser .. => .transfer
  | .ldmRestore .. => .transfer
  | .stmUser .. => .transfer
  | .swp .. => .other
  | .swpb .. => .other
  | .b .. => .branch
  | .bl .. => .branch
  | .swi .. => .other
  | .cdp .. => .other
  | .mcr .. => .other
  | .mrc .. => .other
  | .ldc .. => .other
  | .stc .. => .other
  | .undefined .. => .other
  | .mrcId .. => .other
  | .mrcControl .. => .other
  | .mcrControl .. => .other
  | .mrcTtb .. => .other
  | .mcrTtb .. => .other
  | .mrcDacr .. => .other
  | .mcrDacr .. => .other
  | .mrcFsr .. => .other
  | .mcrFsr .. => .other
  | .mrcFar .. => .other
  | .mcrFar .. => .other
  | .mcrInvCache .. => .other
  | .mcrInvTlbC5 .. => .other
  | .mcrInvTlbEntryC5 .. => .other
  | .mcrInvTlbC6 .. => .other
  | .mcrInvTlbEntryC6 .. => .other
  | .mcrInvTlbC7 .. => .other
  | .mcrInvTlbEntryC7 .. => .other
  | .mcrCacheBase0 .. => .other
  | .mcrCacheVictim0 .. => .other
  | .mcrCacheBase1 .. => .other
  | .mcrCacheVictim1 .. => .other
  | .mrcTlbLockdown .. => .other
  | .mcrTlbLockdown .. => .other
  | .mrcPid .. => .other
  | .mcrPid .. => .other
  | .mrcProcId .. => .other
  | .mcrProcId .. => .other
  | .mcrTestState .. => .other
  | .mrcTestState .. => .other
  | .mcrC15C .. => .other
  | .mrcC15C .. => .other
  | .mcrCacheCamRead .. => .other
  | .mcrCacheCamWrite .. => .other
  | .mcrCacheRamRead .. => .other
  | .mcrCacheRamWrite .. => .other
  | .mcrCacheCamMatch .. => .other
  | .mrcC15M .. => .other
  | .mrcC15MAlt .. => .other
  | .mcrTlbCamRead .. => .other
  | .mcrTlbCamWrite .. => .other
  | .mcrTlbRam1Read .. => .other
  | .mcrTlbRam1Write .. => .other
  | .mcrTlbRam2Read .. => .other
  | .mcrTlbRam2Write .. => .other
  | .mcrTlbCamMatch .. => .other
  | .mrcDccControl .. => .other
  | .mrcDccData .. => .other
  | .mcrDccData .. => .other
  | .mrcAbortStatus .. => .other
  | .mcrAbortStatus .. => .other
  | .tLslImm .. => .internal
  | .tLsrImm .. => .internal
  | .tAsrImm .. => .internal
  | .tAddReg .. => .internal
  | .tSubReg .. => .internal
  | .tAddImm3 .. => .internal
  | .tSubImm3 .. => .internal
  | .tMovImm .. => .internal
  | .tCmpImm .. => .internal
  | .tAddImm8 .. => .internal
  | .tSubImm8 .. => .internal
  | .tAnd .. => .internal
  | .tEor .. => .internal
  | .tLslReg .. => .internal
  | .tLsrReg .. => .internal
  | .tAsrReg .. => .internal
  | .tAdc .. => .internal
  | .tSbc .. => .internal
  | .tRorReg .. => .internal
  | .tTst .. => .internal
  | .tNeg .. => .internal
  | .tCmp .. => .internal
  | .tCmn .. => .internal
  | .tOrr .. => .internal
  | .tMul .. => .internal
  | .tBic .. => .internal
  | .tMvn .. => .internal
  | .tAddHi .. => .internal
  | .tCmpHi .. => .internal
  | .tMovHi .. => .internal
  | .tBx .. => .branch
  | .tLdrPc .. => .transfer
  | .tStrReg .. => .transfer
  | .tStrbReg .. => .transfer
  | .tLdrReg .. => .transfer
  | .tLdrbReg .. => .transfer
  | .tStrhReg .. => .transfer
  | .tLdrhReg .. => .transfer
  | .tLdrsbReg .. => .transfer
  | .tLdrshReg .. => .transfer
  | .tStrImm .. => .transfer
  | .tLdrImm .. => .transfer
  | .tStrbImm .. => .transfer
  | .tLdrbImm .. => .transfer
  | .tStrhImm .. => .transfer
  | .tLdrhImm .. => .transfer
  | .tStrSp .. => .transfer
  | .tLdrSp .. => .transfer
  | .tAddPc .. => .internal
  | .tAddSp .. => .internal
  | .tAddSpImm .. => .internal
  | .tSubSpImm .. => .internal
  | .tPush .. => .transfer
  | .tPop .. => .transfer
  | .tStmia .. => .transfer
  | .tLdmia .. => .transfer
  | .tBeq .. => .branch
  | .tBne .. => .branch
  | .tBcs .. => .branch
  | .tBcc .. => .branch
  | .tBmi .. => .branch
  | .tBpl .. => .branch
  | .tBvs .. => .branch
  | .tBvc .. => .branch
  | .tBhi .. => .branch
  | .tBls .. => .branch
  | .tBge .. => .branch
  | .tBlt .. => .branch
  | .tBgt .. => .branch
  | .tBle .. => .branch
  | .tUndefCond .. => .other
  | .tSwi .. => .other
  | .tB .. => .branch
  | .tUndef11101 .. => .other
  | .tBlHigh .. => .branch
  | .tBlLow .. => .branch
  | .tUndefB1 .. => .other
  | .tUndefB2 .. => .other
  | .tUndefB6 .. => .other
  | .tUndefB8 .. => .other
  | .tUndefBC .. => .other
  | .tBxH1 .. => .other

end Sys2Proof.Machine
end

