-- ==== Sys2Proof/Machine/BlockSwap.lean ====
section
/-! DEFINITION. Block transfers and swap (42_arm_load_store.md R411 to R421). -/

namespace Sys2Proof.Machine

/-- The User bank forms need a mode with banked registers: in User and System mode 42 R414 and R415 call them unpredictable, and 93 gives
no treatment (its U7 has the forms with write-back only), so that the refusal is the model's (DESIGN CHOICE, log 9). -/
def guardUserBank (st : State) (body : Result) : Result :=
  if st.cpsr.m = modeUsr ∨ st.cpsr.m = modeSys then .refused .userBankInUserMode else body

/-- The SPSR form needs an SPSR (42 R416, U4). -/
def guardSpsr (st : State) (body : Result) : Result :=
  match st.spsrOf st.cpsr.m with
  | none => .refused .noSpsr
  | some _ => body

/-- SWP and SWPB (42 R420, R421): a locked read, a locked write, then Rd; an abort leaves Rd as it was. -/
def swapWith (size : Size) (rn rd rm : RegNum) (st : State) : Result :=
  let a := st.reg rn
  match dataRead st a size st.privileged true with
  | .refused x => .refused x
  | .abort s1 => .next (s1.takeException .dataAbort)
  | .done v s1 =>
    match dataWrite s1 a size (st.reg rm) st.privileged true with
    | .refused x => .refused x
    | .abort s2 => .next (s2.takeException .dataAbort)
    | .done _ s2 => .next ((s2.setReg rd (loadValue size false a v)).advance)

/-- The register restrictions of SWP (42 R420, U6, U7). -/
def guardSwap (rn rd rm : RegNum) (body : Result) : Result :=
  guardPc (rn == 15#4 || rd == 15#4 || rm == 15#4) (guardClash (rn == rd || rn == rm) body)

/-- LDM (42 R412). -/
def execLdm (cond : Cond) (p : Bool) (u : Bool) (w : Bool) (rn : RegNum) (regs : BitVec 16) (st : State) : Result :=
  conditionally cond st (guardBlock rn (regList regs) (loadBlock false false p u w rn (regList regs) st))

/-- STM (42 R413). -/
def execStm (cond : Cond) (p : Bool) (u : Bool) (w : Bool) (rn : RegNum) (regs : BitVec 16) (st : State) : Result :=
  conditionally cond st (guardBlock rn (regList regs) (storeBlock false p u w rn (regList regs) st))

/-- LDM of the User bank (42 R414). -/
def execLdmUser (cond : Cond) (p : Bool) (u : Bool) (w : Bool) (rn : RegNum) (regs : BitVec 15) (st : State) : Result :=
  conditionally cond st (guardBlock rn (regList (0#1 ++ regs)) (guardClash w (guardUserBank st
    (loadBlock true false p u w rn (regList (0#1 ++ regs)) st))))

/-- LDM with r15 and the SPSR (42 R416). -/
def execLdmRestore (cond : Cond) (p : Bool) (u : Bool) (w : Bool) (rn : RegNum) (regs : BitVec 15) (st : State) : Result :=
  conditionally cond st (guardBlock rn (regList (1#1 ++ regs)) (guardSpsr st
    (loadBlock false true p u w rn (regList (1#1 ++ regs)) st)))

/-- STM of the User bank (42 R415). -/
def execStmUser (cond : Cond) (p : Bool) (u : Bool) (w : Bool) (rn : RegNum) (regs : BitVec 16) (st : State) : Result :=
  conditionally cond st (guardBlock rn (regList regs) (guardClash w (guardUserBank st
    (storeBlock true p u w rn (regList regs) st))))

/-- SWP (42 R420). -/
def execSwp (cond : Cond) (rn : RegNum) (rd : RegNum) (rm : RegNum) (st : State) : Result :=
  conditionally cond st (guardSwap rn rd rm (swapWith .word rn rd rm st))

/-- SWPB (42 R421). -/
def execSwpb (cond : Cond) (rn : RegNum) (rd : RegNum) (rm : RegNum) (st : State) : Result :=
  conditionally cond st (guardSwap rn rd rm (swapWith .byte rn rd rm st))

end Sys2Proof.Machine
end

