-- ==== Sys2Proof/Machine/DataProcessing.lean ====
section
/-! DEFINITION. The sixteen ARM data processing instructions in their three operand forms (40_arm_data_processing.md). -/

namespace Sys2Proof.Machine

/-- AND with an immediate operand (40 R310). -/
def execAndImm (cond : Cond) (s : Bool) (rn : RegNum) (rd : RegNum) (rot : BitVec 4) (imm8 : BitVec 8)
    (st : State) : Result :=
  conditionally cond st (opAnd s rd (st.reg rn) (st.operandImm rot imm8) st)

/-- AND with a register shifted by an immediate (40 R310). -/
def execAndShift (cond : Cond) (s : Bool) (rn : RegNum) (rd : RegNum) (amount : BitVec 5) (shift : ShiftType) (rm : RegNum)
    (st : State) : Result :=
  conditionally cond st (opAnd s rd (st.reg rn) (st.operandShift amount shift rm) st)

/-- AND with a register shifted by a register (r15: 40 R307) (40 R310). -/
def execAndRegShift (cond : Cond) (s : Bool) (rn : RegNum) (rd : RegNum) (rs : RegNum) (shift : ShiftType) (rm : RegNum)
    (st : State) : Result :=
  conditionally cond st (guardPc (rs == 15#4 || rd == 15#4) (opAnd s rd (st.regLate rn) (st.operandRegShift rs shift rm) st))

/-- EOR with an immediate operand (40 R311). -/
def execEorImm (cond : Cond) (s : Bool) (rn : RegNum) (rd : RegNum) (rot : BitVec 4) (imm8 : BitVec 8)
    (st : State) : Result :=
  conditionally cond st (opEor s rd (st.reg rn) (st.operandImm rot imm8) st)

/-- EOR with a register shifted by an immediate (40 R311). -/
def execEorShift (cond : Cond) (s : Bool) (rn : RegNum) (rd : RegNum) (amount : BitVec 5) (shift : ShiftType) (rm : RegNum)
    (st : State) : Result :=
  conditionally cond st (opEor s rd (st.reg rn) (st.operandShift amount shift rm) st)

/-- EOR with a register shifted by a register (r15: 40 R307) (40 R311). -/
def execEorRegShift (cond : Cond) (s : Bool) (rn : RegNum) (rd : RegNum) (rs : RegNum) (shift : ShiftType) (rm : RegNum)
    (st : State) : Result :=
  conditionally cond st (guardPc (rs == 15#4 || rd == 15#4) (opEor s rd (st.regLate rn) (st.operandRegShift rs shift rm) st))

/-- SUB with an immediate operand (40 R312). -/
def execSubImm (cond : Cond) (s : Bool) (rn : RegNum) (rd : RegNum) (rot : BitVec 4) (imm8 : BitVec 8)
    (st : State) : Result :=
  conditionally cond st (opSub s rd (st.reg rn) (st.operandImm rot imm8) st)

/-- SUB with a register shifted by an immediate (40 R312). -/
def execSubShift (cond : Cond) (s : Bool) (rn : RegNum) (rd : RegNum) (amount : BitVec 5) (shift : ShiftType) (rm : RegNum)
    (st : State) : Result :=
  conditionally cond st (opSub s rd (st.reg rn) (st.operandShift amount shift rm) st)

/-- SUB with a register shifted by a register (r15: 40 R307) (40 R312). -/
def execSubRegShift (cond : Cond) (s : Bool) (rn : RegNum) (rd : RegNum) (rs : RegNum) (shift : ShiftType) (rm : RegNum)
    (st : State) : Result :=
  conditionally cond st (guardPc (rs == 15#4 || rd == 15#4) (opSub s rd (st.regLate rn) (st.operandRegShift rs shift rm) st))

/-- RSB with an immediate operand (40 R313). -/
def execRsbImm (cond : Cond) (s : Bool) (rn : RegNum) (rd : RegNum) (rot : BitVec 4) (imm8 : BitVec 8)
    (st : State) : Result :=
  conditionally cond st (opRsb s rd (st.reg rn) (st.operandImm rot imm8) st)

/-- RSB with a register shifted by an immediate (40 R313). -/
def execRsbShift (cond : Cond) (s : Bool) (rn : RegNum) (rd : RegNum) (amount : BitVec 5) (shift : ShiftType) (rm : RegNum)
    (st : State) : Result :=
  conditionally cond st (opRsb s rd (st.reg rn) (st.operandShift amount shift rm) st)

/-- RSB with a register shifted by a register (r15: 40 R307) (40 R313). -/
def execRsbRegShift (cond : Cond) (s : Bool) (rn : RegNum) (rd : RegNum) (rs : RegNum) (shift : ShiftType) (rm : RegNum)
    (st : State) : Result :=
  conditionally cond st (guardPc (rs == 15#4 || rd == 15#4) (opRsb s rd (st.regLate rn) (st.operandRegShift rs shift rm) st))

/-- ADD with an immediate operand (40 R314). -/
def execAddImm (cond : Cond) (s : Bool) (rn : RegNum) (rd : RegNum) (rot : BitVec 4) (imm8 : BitVec 8)
    (st : State) : Result :=
  conditionally cond st (opAdd s rd (st.reg rn) (st.operandImm rot imm8) st)

/-- ADD with a register shifted by an immediate (40 R314). -/
def execAddShift (cond : Cond) (s : Bool) (rn : RegNum) (rd : RegNum) (amount : BitVec 5) (shift : ShiftType) (rm : RegNum)
    (st : State) : Result :=
  conditionally cond st (opAdd s rd (st.reg rn) (st.operandShift amount shift rm) st)

/-- ADD with a register shifted by a register (r15: 40 R307) (40 R314). -/
def execAddRegShift (cond : Cond) (s : Bool) (rn : RegNum) (rd : RegNum) (rs : RegNum) (shift : ShiftType) (rm : RegNum)
    (st : State) : Result :=
  conditionally cond st (guardPc (rs == 15#4 || rd == 15#4) (opAdd s rd (st.regLate rn) (st.operandRegShift rs shift rm) st))

/-- ADC with an immediate operand (40 R315). -/
def execAdcImm (cond : Cond) (s : Bool) (rn : RegNum) (rd : RegNum) (rot : BitVec 4) (imm8 : BitVec 8)
    (st : State) : Result :=
  conditionally cond st (opAdc s rd (st.reg rn) (st.operandImm rot imm8) st)

/-- ADC with a register shifted by an immediate (40 R315). -/
def execAdcShift (cond : Cond) (s : Bool) (rn : RegNum) (rd : RegNum) (amount : BitVec 5) (shift : ShiftType) (rm : RegNum)
    (st : State) : Result :=
  conditionally cond st (opAdc s rd (st.reg rn) (st.operandShift amount shift rm) st)

/-- ADC with a register shifted by a register (r15: 40 R307) (40 R315). -/
def execAdcRegShift (cond : Cond) (s : Bool) (rn : RegNum) (rd : RegNum) (rs : RegNum) (shift : ShiftType) (rm : RegNum)
    (st : State) : Result :=
  conditionally cond st (guardPc (rs == 15#4 || rd == 15#4) (opAdc s rd (st.regLate rn) (st.operandRegShift rs shift rm) st))

/-- SBC with an immediate operand (40 R316). -/
def execSbcImm (cond : Cond) (s : Bool) (rn : RegNum) (rd : RegNum) (rot : BitVec 4) (imm8 : BitVec 8)
    (st : State) : Result :=
  conditionally cond st (opSbc s rd (st.reg rn) (st.operandImm rot imm8) st)

/-- SBC with a register shifted by an immediate (40 R316). -/
def execSbcShift (cond : Cond) (s : Bool) (rn : RegNum) (rd : RegNum) (amount : BitVec 5) (shift : ShiftType) (rm : RegNum)
    (st : State) : Result :=
  conditionally cond st (opSbc s rd (st.reg rn) (st.operandShift amount shift rm) st)

/-- SBC with a register shifted by a register (r15: 40 R307) (40 R316). -/
def execSbcRegShift (cond : Cond) (s : Bool) (rn : RegNum) (rd : RegNum) (rs : RegNum) (shift : ShiftType) (rm : RegNum)
    (st : State) : Result :=
  conditionally cond st (guardPc (rs == 15#4 || rd == 15#4) (opSbc s rd (st.regLate rn) (st.operandRegShift rs shift rm) st))

/-- RSC with an immediate operand (40 R317). -/
def execRscImm (cond : Cond) (s : Bool) (rn : RegNum) (rd : RegNum) (rot : BitVec 4) (imm8 : BitVec 8)
    (st : State) : Result :=
  conditionally cond st (opRsc s rd (st.reg rn) (st.operandImm rot imm8) st)

/-- RSC with a register shifted by an immediate (40 R317). -/
def execRscShift (cond : Cond) (s : Bool) (rn : RegNum) (rd : RegNum) (amount : BitVec 5) (shift : ShiftType) (rm : RegNum)
    (st : State) : Result :=
  conditionally cond st (opRsc s rd (st.reg rn) (st.operandShift amount shift rm) st)

/-- RSC with a register shifted by a register (r15: 40 R307) (40 R317). -/
def execRscRegShift (cond : Cond) (s : Bool) (rn : RegNum) (rd : RegNum) (rs : RegNum) (shift : ShiftType) (rm : RegNum)
    (st : State) : Result :=
  conditionally cond st (guardPc (rs == 15#4 || rd == 15#4) (opRsc s rd (st.regLate rn) (st.operandRegShift rs shift rm) st))

/-- TST with an immediate operand (40 R318). -/
def execTstImm (cond : Cond) (rn : RegNum) (rot : BitVec 4) (imm8 : BitVec 8) (st : State) : Result :=
  conditionally cond st (opTst (st.reg rn) (st.operandImm rot imm8) st)

/-- TST with a register shifted by an immediate (40 R318). -/
def execTstShift (cond : Cond) (rn : RegNum) (amount : BitVec 5) (shift : ShiftType) (rm : RegNum) (st : State) : Result :=
  conditionally cond st (opTst (st.reg rn) (st.operandShift amount shift rm) st)

/-- TST with a register shifted by a register (r15: 40 R307) (40 R318). -/
def execTstRegShift (cond : Cond) (rn : RegNum) (rs : RegNum) (shift : ShiftType) (rm : RegNum) (st : State) : Result :=
  conditionally cond st (guardPc (rs == 15#4) (opTst (st.regLate rn) (st.operandRegShift rs shift rm) st))

/-- TEQ with an immediate operand (40 R319). -/
def execTeqImm (cond : Cond) (rn : RegNum) (rot : BitVec 4) (imm8 : BitVec 8) (st : State) : Result :=
  conditionally cond st (opTeq (st.reg rn) (st.operandImm rot imm8) st)

/-- TEQ with a register shifted by an immediate (40 R319). -/
def execTeqShift (cond : Cond) (rn : RegNum) (amount : BitVec 5) (shift : ShiftType) (rm : RegNum) (st : State) : Result :=
  conditionally cond st (opTeq (st.reg rn) (st.operandShift amount shift rm) st)

/-- TEQ with a register shifted by a register (r15: 40 R307) (40 R319). -/
def execTeqRegShift (cond : Cond) (rn : RegNum) (rs : RegNum) (shift : ShiftType) (rm : RegNum) (st : State) : Result :=
  conditionally cond st (guardPc (rs == 15#4) (opTeq (st.regLate rn) (st.operandRegShift rs shift rm) st))

/-- CMP with an immediate operand (40 R320). -/
def execCmpImm (cond : Cond) (rn : RegNum) (rot : BitVec 4) (imm8 : BitVec 8) (st : State) : Result :=
  conditionally cond st (opCmp (st.reg rn) (st.operandImm rot imm8) st)

/-- CMP with a register shifted by an immediate (40 R320). -/
def execCmpShift (cond : Cond) (rn : RegNum) (amount : BitVec 5) (shift : ShiftType) (rm : RegNum) (st : State) : Result :=
  conditionally cond st (opCmp (st.reg rn) (st.operandShift amount shift rm) st)

/-- CMP with a register shifted by a register (r15: 40 R307) (40 R320). -/
def execCmpRegShift (cond : Cond) (rn : RegNum) (rs : RegNum) (shift : ShiftType) (rm : RegNum) (st : State) : Result :=
  conditionally cond st (guardPc (rs == 15#4) (opCmp (st.regLate rn) (st.operandRegShift rs shift rm) st))

/-- CMN with an immediate operand (40 R321). -/
def execCmnImm (cond : Cond) (rn : RegNum) (rot : BitVec 4) (imm8 : BitVec 8) (st : State) : Result :=
  conditionally cond st (opCmn (st.reg rn) (st.operandImm rot imm8) st)

/-- CMN with a register shifted by an immediate (40 R321). -/
def execCmnShift (cond : Cond) (rn : RegNum) (amount : BitVec 5) (shift : ShiftType) (rm : RegNum) (st : State) : Result :=
  conditionally cond st (opCmn (st.reg rn) (st.operandShift amount shift rm) st)

/-- CMN with a register shifted by a register (r15: 40 R307) (40 R321). -/
def execCmnRegShift (cond : Cond) (rn : RegNum) (rs : RegNum) (shift : ShiftType) (rm : RegNum) (st : State) : Result :=
  conditionally cond st (guardPc (rs == 15#4) (opCmn (st.regLate rn) (st.operandRegShift rs shift rm) st))

/-- ORR with an immediate operand (40 R322). -/
def execOrrImm (cond : Cond) (s : Bool) (rn : RegNum) (rd : RegNum) (rot : BitVec 4) (imm8 : BitVec 8)
    (st : State) : Result :=
  conditionally cond st (opOrr s rd (st.reg rn) (st.operandImm rot imm8) st)

/-- ORR with a register shifted by an immediate (40 R322). -/
def execOrrShift (cond : Cond) (s : Bool) (rn : RegNum) (rd : RegNum) (amount : BitVec 5) (shift : ShiftType) (rm : RegNum)
    (st : State) : Result :=
  conditionally cond st (opOrr s rd (st.reg rn) (st.operandShift amount shift rm) st)

/-- ORR with a register shifted by a register (r15: 40 R307) (40 R322). -/
def execOrrRegShift (cond : Cond) (s : Bool) (rn : RegNum) (rd : RegNum) (rs : RegNum) (shift : ShiftType) (rm : RegNum)
    (st : State) : Result :=
  conditionally cond st (guardPc (rs == 15#4 || rd == 15#4) (opOrr s rd (st.regLate rn) (st.operandRegShift rs shift rm) st))

/-- MOV with an immediate operand (40 R323). -/
def execMovImm (cond : Cond) (s : Bool) (rd : RegNum) (rot : BitVec 4) (imm8 : BitVec 8) (st : State) : Result :=
  conditionally cond st (opMov s rd (st.operandImm rot imm8) st)

/-- MOV with a register shifted by an immediate (40 R323). -/
def execMovShift (cond : Cond) (s : Bool) (rd : RegNum) (amount : BitVec 5) (shift : ShiftType) (rm : RegNum)
    (st : State) : Result :=
  conditionally cond st (opMov s rd (st.operandShift amount shift rm) st)

/-- MOV with a register shifted by a register (r15: 40 R307) (40 R323). -/
def execMovRegShift (cond : Cond) (s : Bool) (rd : RegNum) (rs : RegNum) (shift : ShiftType) (rm : RegNum)
    (st : State) : Result :=
  conditionally cond st (guardPc (rs == 15#4 || rd == 15#4) (opMov s rd (st.operandRegShift rs shift rm) st))

/-- BIC with an immediate operand (40 R324). -/
def execBicImm (cond : Cond) (s : Bool) (rn : RegNum) (rd : RegNum) (rot : BitVec 4) (imm8 : BitVec 8)
    (st : State) : Result :=
  conditionally cond st (opBic s rd (st.reg rn) (st.operandImm rot imm8) st)

/-- BIC with a register shifted by an immediate (40 R324). -/
def execBicShift (cond : Cond) (s : Bool) (rn : RegNum) (rd : RegNum) (amount : BitVec 5) (shift : ShiftType) (rm : RegNum)
    (st : State) : Result :=
  conditionally cond st (opBic s rd (st.reg rn) (st.operandShift amount shift rm) st)

/-- BIC with a register shifted by a register (r15: 40 R307) (40 R324). -/
def execBicRegShift (cond : Cond) (s : Bool) (rn : RegNum) (rd : RegNum) (rs : RegNum) (shift : ShiftType) (rm : RegNum)
    (st : State) : Result :=
  conditionally cond st (guardPc (rs == 15#4 || rd == 15#4) (opBic s rd (st.regLate rn) (st.operandRegShift rs shift rm) st))

/-- MVN with an immediate operand (40 R325). -/
def execMvnImm (cond : Cond) (s : Bool) (rd : RegNum) (rot : BitVec 4) (imm8 : BitVec 8) (st : State) : Result :=
  conditionally cond st (opMvn s rd (st.operandImm rot imm8) st)

/-- MVN with a register shifted by an immediate (40 R325). -/
def execMvnShift (cond : Cond) (s : Bool) (rd : RegNum) (amount : BitVec 5) (shift : ShiftType) (rm : RegNum)
    (st : State) : Result :=
  conditionally cond st (opMvn s rd (st.operandShift amount shift rm) st)

/-- MVN with a register shifted by a register (r15: 40 R307) (40 R325). -/
def execMvnRegShift (cond : Cond) (s : Bool) (rd : RegNum) (rs : RegNum) (shift : ShiftType) (rm : RegNum)
    (st : State) : Result :=
  conditionally cond st (guardPc (rs == 15#4 || rd == 15#4) (opMvn s rd (st.operandRegShift rs shift rm) st))

end Sys2Proof.Machine
end

