-- ==== Sys2Proof/Machine/LoadStore.lean ====
section
/-! DEFINITION. Single, halfword and signed transfers of ARM state (42_arm_load_store.md R390 to R410). -/

namespace Sys2Proof.Machine

/-- The offset of format A10 (42 R391). -/
def offset12 (imm12 : BitVec 12) : Word := imm12.setWidth 32

/-- The offset of format A11 (42 R391). -/
def scaledOffset (st : State) (amount : BitVec 5) (shift : ShiftType) (rm : RegNum) : Word :=
  (st.operandShift amount shift rm).value

/-- The offset of formats A12 (42 R406). -/
def offset8 (immHi immLo : BitVec 4) : Word := (immHi ++ immLo).setWidth 32

/-- P = 0 with W = 1 is no halfword transfer (30 R247, R252 (e), U5). -/
def guardHalfForm (p w : Bool) (body : Result) : Result := if !p && w then .refused .undefinedNotTrapped else body

/-- LDR, immediate offset, P = 1 (42 R398). -/
def execLdrImmPre (cond : Cond) (u : Bool) (w : Bool) (rn : RegNum) (rd : RegNum) (imm12 : BitVec 12)
    (st : State) : Result :=
  conditionally cond st (checkedLoad .word false st.privileged (preIndexed w u (st.reg rn) (offset12 imm12)) rn rd st)

/-- LDR, immediate offset, post-indexed (42 R398). -/
def execLdrImmPost (cond : Cond) (u : Bool) (rn : RegNum) (rd : RegNum) (imm12 : BitVec 12) (st : State) : Result :=
  conditionally cond st (checkedLoad .word false st.privileged (postIndexed u (st.reg rn) (offset12 imm12)) rn rd st)

/-- LDRT, immediate offset, post-indexed with User privilege (20 R119) (42 R402). -/
def execLdrtImm (cond : Cond) (u : Bool) (rn : RegNum) (rd : RegNum) (imm12 : BitVec 12) (st : State) : Result :=
  conditionally cond st (guardPc (rd == 15#4)
    (checkedLoad .word false false (postIndexed u (st.reg rn) (offset12 imm12)) rn rd st))

/-- LDR, register offset, P = 1 (42 R398). -/
def execLdrRegPre (cond : Cond) (u : Bool) (w : Bool) (rn : RegNum) (rd : RegNum) (amount : BitVec 5) (shift : ShiftType) (rm : RegNum)
    (st : State) : Result :=
  conditionally cond st (guardPc (rm == 15#4)
    (checkedLoad .word false st.privileged (preIndexed w u (st.reg rn) (scaledOffset st amount shift rm)) rn rd st))

/-- LDR, register offset, post-indexed (42 R398). -/
def execLdrRegPost (cond : Cond) (u : Bool) (rn : RegNum) (rd : RegNum) (amount : BitVec 5) (shift : ShiftType) (rm : RegNum)
    (st : State) : Result :=
  conditionally cond st (guardPc (rm == 15#4)
    (checkedLoad .word false st.privileged (postIndexed u (st.reg rn) (scaledOffset st amount shift rm)) rn rd st))

/-- LDRT, register offset, post-indexed with User privilege (20 R119) (42 R402). -/
def execLdrtReg (cond : Cond) (u : Bool) (rn : RegNum) (rd : RegNum) (amount : BitVec 5) (shift : ShiftType) (rm : RegNum)
    (st : State) : Result :=
  conditionally cond st (guardPc (rm == 15#4 || rd == 15#4)
    (checkedLoad .word false false (postIndexed u (st.reg rn) (scaledOffset st amount shift rm)) rn rd st))

/-- LDRB, immediate offset, P = 1 (42 R399). -/
def execLdrbImmPre (cond : Cond) (u : Bool) (w : Bool) (rn : RegNum) (rd : RegNum) (imm12 : BitVec 12)
    (st : State) : Result :=
  conditionally cond st (guardPc (rd == 15#4)
    (checkedLoad .byte false st.privileged (preIndexed w u (st.reg rn) (offset12 imm12)) rn rd st))

/-- LDRB, immediate offset, post-indexed (42 R399). -/
def execLdrbImmPost (cond : Cond) (u : Bool) (rn : RegNum) (rd : RegNum) (imm12 : BitVec 12) (st : State) : Result :=
  conditionally cond st (guardPc (rd == 15#4)
    (checkedLoad .byte false st.privileged (postIndexed u (st.reg rn) (offset12 imm12)) rn rd st))

/-- LDRBT, immediate offset, post-indexed with User privilege (20 R119) (42 R403). -/
def execLdrbtImm (cond : Cond) (u : Bool) (rn : RegNum) (rd : RegNum) (imm12 : BitVec 12) (st : State) : Result :=
  conditionally cond st (guardPc (rd == 15#4)
    (checkedLoad .byte false false (postIndexed u (st.reg rn) (offset12 imm12)) rn rd st))

/-- LDRB, register offset, P = 1 (42 R399). -/
def execLdrbRegPre (cond : Cond) (u : Bool) (w : Bool) (rn : RegNum) (rd : RegNum) (amount : BitVec 5) (shift : ShiftType) (rm : RegNum)
    (st : State) : Result :=
  conditionally cond st (guardPc (rm == 15#4 || rd == 15#4)
    (checkedLoad .byte false st.privileged (preIndexed w u (st.reg rn) (scaledOffset st amount shift rm)) rn rd st))

/-- LDRB, register offset, post-indexed (42 R399). -/
def execLdrbRegPost (cond : Cond) (u : Bool) (rn : RegNum) (rd : RegNum) (amount : BitVec 5) (shift : ShiftType) (rm : RegNum)
    (st : State) : Result :=
  conditionally cond st (guardPc (rm == 15#4 || rd == 15#4)
    (checkedLoad .byte false st.privileged (postIndexed u (st.reg rn) (scaledOffset st amount shift rm)) rn rd st))

/-- LDRBT, register offset, post-indexed with User privilege (20 R119) (42 R403). -/
def execLdrbtReg (cond : Cond) (u : Bool) (rn : RegNum) (rd : RegNum) (amount : BitVec 5) (shift : ShiftType) (rm : RegNum)
    (st : State) : Result :=
  conditionally cond st (guardPc (rm == 15#4 || rd == 15#4)
    (checkedLoad .byte false false (postIndexed u (st.reg rn) (scaledOffset st amount shift rm)) rn rd st))

/-- STR, immediate offset, P = 1 (42 R400). -/
def execStrImmPre (cond : Cond) (u : Bool) (w : Bool) (rn : RegNum) (rd : RegNum) (imm12 : BitVec 12)
    (st : State) : Result :=
  conditionally cond st (checkedStore .word st.privileged (preIndexed w u (st.reg rn) (offset12 imm12)) rn rd st)

/-- STR, immediate offset, post-indexed (42 R400). -/
def execStrImmPost (cond : Cond) (u : Bool) (rn : RegNum) (rd : RegNum) (imm12 : BitVec 12) (st : State) : Result :=
  conditionally cond st (checkedStore .word st.privileged (postIndexed u (st.reg rn) (offset12 imm12)) rn rd st)

/-- STRT, immediate offset, post-indexed with User privilege (20 R119) (42 R404). -/
def execStrtImm (cond : Cond) (u : Bool) (rn : RegNum) (rd : RegNum) (imm12 : BitVec 12) (st : State) : Result :=
  conditionally cond st (checkedStore .word false (postIndexed u (st.reg rn) (offset12 imm12)) rn rd st)

/-- STR, register offset, P = 1 (42 R400). -/
def execStrRegPre (cond : Cond) (u : Bool) (w : Bool) (rn : RegNum) (rd : RegNum) (amount : BitVec 5) (shift : ShiftType) (rm : RegNum)
    (st : State) : Result :=
  conditionally cond st (guardPc (rm == 15#4)
    (checkedStore .word st.privileged (preIndexed w u (st.reg rn) (scaledOffset st amount shift rm)) rn rd st))

/-- STR, register offset, post-indexed (42 R400). -/
def execStrRegPost (cond : Cond) (u : Bool) (rn : RegNum) (rd : RegNum) (amount : BitVec 5) (shift : ShiftType) (rm : RegNum)
    (st : State) : Result :=
  conditionally cond st (guardPc (rm == 15#4)
    (checkedStore .word st.privileged (postIndexed u (st.reg rn) (scaledOffset st amount shift rm)) rn rd st))

/-- STRT, register offset, post-indexed with User privilege (20 R119) (42 R404). -/
def execStrtReg (cond : Cond) (u : Bool) (rn : RegNum) (rd : RegNum) (amount : BitVec 5) (shift : ShiftType) (rm : RegNum)
    (st : State) : Result :=
  conditionally cond st (guardPc (rm == 15#4)
    (checkedStore .word false (postIndexed u (st.reg rn) (scaledOffset st amount shift rm)) rn rd st))

/-- STRB, immediate offset, P = 1 (42 R401). -/
def execStrbImmPre (cond : Cond) (u : Bool) (w : Bool) (rn : RegNum) (rd : RegNum) (imm12 : BitVec 12)
    (st : State) : Result :=
  conditionally cond st (guardPc (rd == 15#4)
    (checkedStore .byte st.privileged (preIndexed w u (st.reg rn) (offset12 imm12)) rn rd st))

/-- STRB, immediate offset, post-indexed (42 R401). -/
def execStrbImmPost (cond : Cond) (u : Bool) (rn : RegNum) (rd : RegNum) (imm12 : BitVec 12) (st : State) : Result :=
  conditionally cond st (guardPc (rd == 15#4)
    (checkedStore .byte st.privileged (postIndexed u (st.reg rn) (offset12 imm12)) rn rd st))

/-- STRBT, immediate offset, post-indexed with User privilege (20 R119) (42 R405). -/
def execStrbtImm (cond : Cond) (u : Bool) (rn : RegNum) (rd : RegNum) (imm12 : BitVec 12) (st : State) : Result :=
  conditionally cond st (guardPc (rd == 15#4) (checkedStore .byte false (postIndexed u (st.reg rn) (offset12 imm12)) rn rd st))

/-- STRB, register offset, P = 1 (42 R401). -/
def execStrbRegPre (cond : Cond) (u : Bool) (w : Bool) (rn : RegNum) (rd : RegNum) (amount : BitVec 5) (shift : ShiftType) (rm : RegNum)
    (st : State) : Result :=
  conditionally cond st (guardPc (rm == 15#4 || rd == 15#4)
    (checkedStore .byte st.privileged (preIndexed w u (st.reg rn) (scaledOffset st amount shift rm)) rn rd st))

/-- STRB, register offset, post-indexed (42 R401). -/
def execStrbRegPost (cond : Cond) (u : Bool) (rn : RegNum) (rd : RegNum) (amount : BitVec 5) (shift : ShiftType) (rm : RegNum)
    (st : State) : Result :=
  conditionally cond st (guardPc (rm == 15#4 || rd == 15#4)
    (checkedStore .byte st.privileged (postIndexed u (st.reg rn) (scaledOffset st amount shift rm)) rn rd st))

/-- STRBT, register offset, post-indexed with User privilege (20 R119) (42 R405). -/
def execStrbtReg (cond : Cond) (u : Bool) (rn : RegNum) (rd : RegNum) (amount : BitVec 5) (shift : ShiftType) (rm : RegNum)
    (st : State) : Result :=
  conditionally cond st (guardPc (rm == 15#4 || rd == 15#4)
    (checkedStore .byte false (postIndexed u (st.reg rn) (scaledOffset st amount shift rm)) rn rd st))

/-- LDRH, immediate offset (42 R406, R407). -/
def execLdrhImm (cond : Cond) (p : Bool) (u : Bool) (w : Bool) (rn : RegNum) (rd : RegNum) (immHi : BitVec 4) (immLo : BitVec 4)
    (st : State) : Result :=
  conditionally cond st (guardHalfForm p w (guardPc (rd == 15#4)
    (checkedLoad .half false st.privileged (indexed p w u (st.reg rn) (offset8 immHi immLo)) rn rd st)))

/-- LDRH, register offset (42 R406, R407). -/
def execLdrhReg (cond : Cond) (p : Bool) (u : Bool) (w : Bool) (rn : RegNum) (rd : RegNum) (rm : RegNum)
    (st : State) : Result :=
  conditionally cond st (guardHalfForm p w (guardPc (rd == 15#4 || rm == 15#4)
    (checkedLoad .half false st.privileged (indexed p w u (st.reg rn) (st.reg rm)) rn rd st)))

/-- LDRSB, immediate offset (42 R406, R408). -/
def execLdrsbImm (cond : Cond) (p : Bool) (u : Bool) (w : Bool) (rn : RegNum) (rd : RegNum) (immHi : BitVec 4) (immLo : BitVec 4)
    (st : State) : Result :=
  conditionally cond st (guardHalfForm p w (guardPc (rd == 15#4)
    (checkedLoad .byte true st.privileged (indexed p w u (st.reg rn) (offset8 immHi immLo)) rn rd st)))

/-- LDRSB, register offset (42 R406, R408). -/
def execLdrsbReg (cond : Cond) (p : Bool) (u : Bool) (w : Bool) (rn : RegNum) (rd : RegNum) (rm : RegNum)
    (st : State) : Result :=
  conditionally cond st (guardHalfForm p w (guardPc (rd == 15#4 || rm == 15#4)
    (checkedLoad .byte true st.privileged (indexed p w u (st.reg rn) (st.reg rm)) rn rd st)))

/-- LDRSH, immediate offset (42 R406, R409). -/
def execLdrshImm (cond : Cond) (p : Bool) (u : Bool) (w : Bool) (rn : RegNum) (rd : RegNum) (immHi : BitVec 4) (immLo : BitVec 4)
    (st : State) : Result :=
  conditionally cond st (guardHalfForm p w (guardPc (rd == 15#4)
    (checkedLoad .half true st.privileged (indexed p w u (st.reg rn) (offset8 immHi immLo)) rn rd st)))

/-- LDRSH, register offset (42 R406, R409). -/
def execLdrshReg (cond : Cond) (p : Bool) (u : Bool) (w : Bool) (rn : RegNum) (rd : RegNum) (rm : RegNum)
    (st : State) : Result :=
  conditionally cond st (guardHalfForm p w (guardPc (rd == 15#4 || rm == 15#4)
    (checkedLoad .half true st.privileged (indexed p w u (st.reg rn) (st.reg rm)) rn rd st)))

/-- STRH, immediate offset (42 R406, R410). -/
def execStrhImm (cond : Cond) (p : Bool) (u : Bool) (w : Bool) (rn : RegNum) (rd : RegNum) (immHi : BitVec 4) (immLo : BitVec 4)
    (st : State) : Result :=
  conditionally cond st (guardHalfForm p w (guardPc (rd == 15#4)
    (checkedStore .half st.privileged (indexed p w u (st.reg rn) (offset8 immHi immLo)) rn rd st)))

/-- STRH, register offset (42 R406, R410). -/
def execStrhReg (cond : Cond) (p : Bool) (u : Bool) (w : Bool) (rn : RegNum) (rd : RegNum) (rm : RegNum)
    (st : State) : Result :=
  conditionally cond st (guardHalfForm p w (guardPc (rd == 15#4 || rm == 15#4)
    (checkedStore .half st.privileged (indexed p w u (st.reg rn) (st.reg rm)) rn rd st)))

end Sys2Proof.Machine
end

