-- ==== Sys2Proof/Machine/Multiply.lean ====
section
/-! DEFINITION. The ARM multiplies (41_arm_multiply_psr_branch.md R350 to R356). -/

namespace Sys2Proof.Machine

/-- The end of MUL and MLA (41 R351, R352): C is a free value when flags are set. -/
def mulWrite (sets : Bool) (rd : RegNum) (r : Word) (st : State) : Result :=
  let s1 := (st.setReg rd r).advance
  if sets then .next ((s1.setCpsr (psrMul st.cpsr r st.drawn)).drew) else .next s1

/-- The end of the long multiplies (41 R353 to R356): C and V are free values when flags are set. -/
def mulLongWrite (sets : Bool) (rdHi rdLo : RegNum) (r : BitVec 64) (st : State) : Result :=
  let s1 := ((st.setReg rdLo (r.extractLsb' 0 32)).setReg rdHi (r.extractLsb' 32 32)).advance
  if sets then .next ((s1.setCpsr (psrMulLong st.cpsr r st.drawn)).drew) else .next s1

/-- The unsigned 64-bit product (41 R353). -/
def unsignedProduct (a b : Word) : BitVec 64 := BitVec.ofNat 64 (a.toNat * b.toNat)

/-- The signed 64-bit product (41 R355). -/
def signedProduct (a b : Word) : BitVec 64 := BitVec.ofInt 64 (a.toInt * b.toInt)

/-- The restrictions of the long multiplies (41 R350, U6, U21). -/
def guardLong (rdHi rdLo rs rm : RegNum) (body : Result) : Result :=
  guardPc (rdHi == 15#4 || rdLo == 15#4 || rs == 15#4 || rm == 15#4)
    (guardClash (rdHi == rdLo || rdHi == rm || rdLo == rm) body)

/-- MUL (41 R351). -/
def execMul (cond : Cond) (s : Bool) (rd : RegNum) (rs : RegNum) (rm : RegNum) (st : State) : Result :=
  conditionally cond st (guardPc (rd == 15#4 || rs == 15#4 || rm == 15#4) (guardClash (rd == rm)
    (mulWrite s rd (st.reg rm * st.reg rs) st)))

/-- MLA (41 R352). -/
def execMla (cond : Cond) (s : Bool) (rd : RegNum) (rn : RegNum) (rs : RegNum) (rm : RegNum) (st : State) : Result :=
  conditionally cond st (guardPc (rd == 15#4 || rn == 15#4 || rs == 15#4 || rm == 15#4) (guardClash (rd == rm)
    (mulWrite s rd (st.reg rm * st.reg rs + st.reg rn) st)))

/-- UMULL (41 R353). -/
def execUmull (cond : Cond) (s : Bool) (rdHi : RegNum) (rdLo : RegNum) (rs : RegNum) (rm : RegNum) (st : State) : Result :=
  conditionally cond st (guardLong rdHi rdLo rs rm (mulLongWrite s rdHi rdLo (unsignedProduct (st.reg rm) (st.reg rs)) st))

/-- UMLAL (41 R354). -/
def execUmlal (cond : Cond) (s : Bool) (rdHi : RegNum) (rdLo : RegNum) (rs : RegNum) (rm : RegNum) (st : State) : Result :=
  conditionally cond st (guardLong rdHi rdLo rs rm
    (mulLongWrite s rdHi rdLo (unsignedProduct (st.reg rm) (st.reg rs) + (st.reg rdHi ++ st.reg rdLo)) st))

/-- SMULL (41 R355). -/
def execSmull (cond : Cond) (s : Bool) (rdHi : RegNum) (rdLo : RegNum) (rs : RegNum) (rm : RegNum) (st : State) : Result :=
  conditionally cond st (guardLong rdHi rdLo rs rm (mulLongWrite s rdHi rdLo (signedProduct (st.reg rm) (st.reg rs)) st))

/-- SMLAL (41 R356). -/
def execSmlal (cond : Cond) (s : Bool) (rdHi : RegNum) (rdLo : RegNum) (rs : RegNum) (rm : RegNum) (st : State) : Result :=
  conditionally cond st (guardLong rdHi rdLo rs rm
    (mulLongWrite s rdHi rdLo (signedProduct (st.reg rm) (st.reg rs) + (st.reg rdHi ++ st.reg rdLo)) st))

end Sys2Proof.Machine
end

