-- ==== Sys2Proof/Machine/StatusBranch.lean ====
section
/-! DEFINITION. Status register access, branches, SWI and the undefined instruction (41_arm_multiply_psr_branch.md R358 to R375). -/

namespace Sys2Proof.Machine

/-- The bits an MSR field mask selects (41 R359). -/
def fieldBytes (mask : BitVec 4) : Word :=
  (if mask.getLsbD 3 then 0xFF#8 else 0#8) ++ (if mask.getLsbD 2 then 0xFF#8 else 0#8) ++
    (if mask.getLsbD 1 then 0xFF#8 else 0#8) ++ (if mask.getLsbD 0 then 0xFF#8 else 0#8)

/-- A PSR with the selected bytes of an operand (41 R360, R362). -/
def mergePsr (p : Psr) (bytes operand : Word) : Psr :=
  psrOfWord ((psrToWord p &&& ~~~bytes) ||| (operand &&& bytes))

/-- MSR (41 R359 to R362). In User mode only the flags byte of the CPSR changes, but in debug state any mode may be set (61 R717).
A change of T is refused (U1), as is the SPSR of a mode without one (U4). -/
def writeStatus (r : Bool) (mask : BitVec 4) (operand : Word) (st : State) : Result :=
  if r then
    match st.spsrOf st.cpsr.m with
    | none => .refused .noSpsr
    | some p => .next ((st.setSpsrOf st.cpsr.m (mergePsr p (fieldBytes mask) operand)).advance)
  else
    let bytes := if st.privileged || st.dbg.halted then fieldBytes mask else fieldBytes mask &&& 0xFF000000#32
    let p := mergePsr st.cpsr bytes operand
    if p.t = st.cpsr.t then .next ((st.setCpsr p).advance) else .refused .changesThumbBit

/-- The value of MRS (41 R358). -/
def readStatus (r : Bool) (st : State) : Option Psr := if r then st.spsrOf st.cpsr.m else some st.cpsr

/-- The target of B and BL (30 R251). -/
def branchTarget (st : State) (off24 : BitVec 24) : Word := st.pc + 8#32 + (off24 ++ 0#2).signExtend 32

/-- BX to a value: bit 0 selects the state (41 R368, 45 R541). -/
def branchExchange (v : Word) (st : State) : Result :=
  .next ((st.setCpsr { st.cpsr with t := v.getLsbD 0 }).branchTo v)

/-- MRS (41 R358); r15 as Rd is refused (U6). -/
def execMrs (cond : Cond) (r : Bool) (rd : RegNum) (st : State) : Result :=
  conditionally cond st (guardPc (rd == 15#4)
    (match readStatus r st with
      | none => .refused .noSpsr
      | some p => .next ((st.setReg rd (psrToWord p)).advance)))

/-- MSR with an immediate (41 R359 to R362). -/
def execMsrImm (cond : Cond) (r : Bool) (mask : BitVec 4) (rot : BitVec 4) (imm8 : BitVec 8) (st : State) : Result :=
  conditionally cond st (writeStatus r mask (st.operandImm rot imm8).value st)

/-- MSR with a register (41 R359 to R362). -/
def execMsrReg (cond : Cond) (r : Bool) (mask : BitVec 4) (rm : RegNum) (st : State) : Result :=
  conditionally cond st (writeStatus r mask (st.reg rm) st)

/-- BX (41 R368). -/
def execBx (cond : Cond) (rm : RegNum) (st : State) : Result :=
  conditionally cond st (branchExchange (st.reg rm) st)

/-- B (41 R365). -/
def execB (cond : Cond) (off24 : BitVec 24) (st : State) : Result :=
  conditionally cond st (.next (st.branchTo (branchTarget st off24)))

/-- BL (41 R366): r14 holds the address of the next instruction. -/
def execBl (cond : Cond) (off24 : BitVec 24) (st : State) : Result :=
  conditionally cond st (.next ((st.setReg 14#4 (st.pc + 4#32)).branchTo (branchTarget st off24)))

/-- SWI (41 R372, 60 R635). -/
def execSwi (cond : Cond) (_comment : BitVec 24) (st : State) : Result :=
  conditionally cond st (.next (st.takeException .swi))

/-- The undefined instruction of format A21 (41 R375, 60 R636). -/
def execUndefined (cond : Cond) (_payload : BitVec 20) (_payloadLo : BitVec 4) (st : State) : Result :=
  conditionally cond st (.next (st.takeException .undefined))

end Sys2Proof.Machine
end

