-- ==== Sys2Proof/Machine/ThumbAlu.lean ====
section
/-! DEFINITION. Thumb data processing (44_thumb_alu.md). -/

namespace Sys2Proof.Machine

/-- A low register number as a register number (10 R32). -/
def low (r : LowReg) : RegNum := r.setWidth 4

/-- A high register number of format T5 (44 R486). -/
def hiReg (h : Bool) (r : LowReg) : RegNum := BitVec.ofBool h ++ r

/-- A register operand of a Thumb instruction: no shift, the carry stays (44 R460). -/
def State.plain (st : State) (v : Word) : Shifted := { value := v, carry := st.cpsr.c }

/-- A low register shifted by an immediate (44 R463 to R465). -/
def State.thumbShift (st : State) (t : ShiftType) (amount : BitVec 5) (rs : LowReg) : Shifted :=
  shiftImm t amount (st.lowReg rs) st.cpsr.c

/-- A low register shifted by a low register (44 R476 to R478, R481). -/
def State.thumbShiftReg (st : State) (t : ShiftType) (rs rd : LowReg) : Shifted :=
  shiftReg t (shiftAmount (st.lowReg rs)) (st.lowReg rd) st.cpsr.c

/-- Format T5 with two low registers is refused (U20). -/
def guardHi (h1 h2 : Bool) (body : Result) : Result := if h1 || h2 then body else .refused .thumbLowRegisters

/-- The base of format T12 and T6: the PC with bit 1 cleared (44 R462). -/
def State.thumbPcBase (st : State) : Word := wordAlign (st.pc + 4#32)

/-- A word offset (30 R262). -/
def wordOffset {n : Nat} (x : BitVec n) : Word := (x.setWidth 32) <<< 2

/-- A register is written and no flag (44 R494 to R497). -/
def thumbWrite (rd : RegNum) (v : Word) (st : State) : Result := .next ((st.setReg rd v).advance)

/-- LSL by an immediate (44 R463). -/
def execTLslImm (imm5 : BitVec 5) (rs : LowReg) (rd : LowReg) (st : State) : Result :=
  opMov true (low rd) (st.thumbShift .lsl imm5 rs) st

/-- LSR by an immediate (44 R464). -/
def execTLsrImm (imm5 : BitVec 5) (rs : LowReg) (rd : LowReg) (st : State) : Result :=
  opMov true (low rd) (st.thumbShift .lsr imm5 rs) st

/-- ASR by an immediate (44 R465). -/
def execTAsrImm (imm5 : BitVec 5) (rs : LowReg) (rd : LowReg) (st : State) : Result :=
  opMov true (low rd) (st.thumbShift .asr imm5 rs) st

/-- ADD of two registers (44 R466). -/
def execTAddReg (rn : LowReg) (rs : LowReg) (rd : LowReg) (st : State) : Result :=
  opAdd true (low rd) (st.lowReg rs) (st.plain (st.lowReg rn)) st

/-- SUB of two registers (44 R467). -/
def execTSubReg (rn : LowReg) (rs : LowReg) (rd : LowReg) (st : State) : Result :=
  opSub true (low rd) (st.lowReg rs) (st.plain (st.lowReg rn)) st

/-- ADD of a 3-bit immediate (44 R468). -/
def execTAddImm3 (imm3 : BitVec 3) (rs : LowReg) (rd : LowReg) (st : State) : Result :=
  opAdd true (low rd) (st.lowReg rs) (st.plain (imm3.setWidth 32)) st

/-- SUB of a 3-bit immediate (44 R469). -/
def execTSubImm3 (imm3 : BitVec 3) (rs : LowReg) (rd : LowReg) (st : State) : Result :=
  opSub true (low rd) (st.lowReg rs) (st.plain (imm3.setWidth 32)) st

/-- MOV of an 8-bit immediate (44 R470). -/
def execTMovImm (rd : LowReg) (imm8 : BitVec 8) (st : State) : Result :=
  opMov true (low rd) (st.plain (imm8.setWidth 32)) st

/-- CMP with an 8-bit immediate (44 R471). -/
def execTCmpImm (rd : LowReg) (imm8 : BitVec 8) (st : State) : Result :=
  opCmp (st.lowReg rd) (st.plain (imm8.setWidth 32)) st

/-- ADD of an 8-bit immediate (44 R472). -/
def execTAddImm8 (rd : LowReg) (imm8 : BitVec 8) (st : State) : Result :=
  opAdd true (low rd) (st.lowReg rd) (st.plain (imm8.setWidth 32)) st

/-- SUB of an 8-bit immediate (44 R473). -/
def execTSubImm8 (rd : LowReg) (imm8 : BitVec 8) (st : State) : Result :=
  opSub true (low rd) (st.lowReg rd) (st.plain (imm8.setWidth 32)) st

/-- AND (44 R474). -/
def execTAnd (rs : LowReg) (rd : LowReg) (st : State) : Result :=
  opAnd true (low rd) (st.lowReg rd) (st.plain (st.lowReg rs)) st

/-- EOR (44 R475). -/
def execTEor (rs : LowReg) (rd : LowReg) (st : State) : Result :=
  opEor true (low rd) (st.lowReg rd) (st.plain (st.lowReg rs)) st

/-- LSL by a register (44 R476). -/
def execTLslReg (rs : LowReg) (rd : LowReg) (st : State) : Result :=
  opMov true (low rd) (st.thumbShiftReg .lsl rs rd) st

/-- LSR by a register (44 R477). -/
def execTLsrReg (rs : LowReg) (rd : LowReg) (st : State) : Result :=
  opMov true (low rd) (st.thumbShiftReg .lsr rs rd) st

/-- ASR by a register (44 R478). -/
def execTAsrReg (rs : LowReg) (rd : LowReg) (st : State) : Result :=
  opMov true (low rd) (st.thumbShiftReg .asr rs rd) st

/-- ADC (44 R479). -/
def execTAdc (rs : LowReg) (rd : LowReg) (st : State) : Result :=
  opAdc true (low rd) (st.lowReg rd) (st.plain (st.lowReg rs)) st

/-- SBC (44 R480). -/
def execTSbc (rs : LowReg) (rd : LowReg) (st : State) : Result :=
  opSbc true (low rd) (st.lowReg rd) (st.plain (st.lowReg rs)) st

/-- ROR by a register (44 R481). -/
def execTRorReg (rs : LowReg) (rd : LowReg) (st : State) : Result :=
  opMov true (low rd) (st.thumbShiftReg .ror rs rd) st

/-- TST (44 R482). -/
def execTTst (rs : LowReg) (rd : LowReg) (st : State) : Result :=
  opTst (st.lowReg rd) (st.plain (st.lowReg rs)) st

/-- NEG (44 R483): 0 minus Rs. -/
def execTNeg (rs : LowReg) (rd : LowReg) (st : State) : Result :=
  opRsb true (low rd) (st.lowReg rs) (st.plain 0#32) st

/-- CMP of low registers (44 R484). -/
def execTCmp (rs : LowReg) (rd : LowReg) (st : State) : Result :=
  opCmp (st.lowReg rd) (st.plain (st.lowReg rs)) st

/-- CMN (44 R485). -/
def execTCmn (rs : LowReg) (rd : LowReg) (st : State) : Result :=
  opCmn (st.lowReg rd) (st.plain (st.lowReg rs)) st

/-- ORR (44 R490). -/
def execTOrr (rs : LowReg) (rd : LowReg) (st : State) : Result :=
  opOrr true (low rd) (st.lowReg rd) (st.plain (st.lowReg rs)) st

/-- MUL (44 R491): C is a free value. Rd = Rs executes by R491's own formula, though its ARM equivalent `MULS Rd, Rs, Rd` of R460
would be refused (U21): DESIGN CHOICE, log 9. -/
def execTMul (rs : LowReg) (rd : LowReg) (st : State) : Result :=
  mulWrite true (low rd) (st.lowReg rs * st.lowReg rd) st

/-- BIC (44 R492). -/
def execTBic (rs : LowReg) (rd : LowReg) (st : State) : Result :=
  opBic true (low rd) (st.lowReg rd) (st.plain (st.lowReg rs)) st

/-- MVN (44 R493). -/
def execTMvn (rs : LowReg) (rd : LowReg) (st : State) : Result :=
  opMvn true (low rd) (st.plain (st.lowReg rs)) st

/-- ADD of high registers (44 R487). -/
def execTAddHi (h1 : Bool) (h2 : Bool) (rs : LowReg) (rd : LowReg) (st : State) : Result :=
  guardHi h1 h2 (opAdd false (hiReg h1 rd) (st.reg (hiReg h1 rd)) (st.plain (st.reg (hiReg h2 rs))) st)

/-- CMP of high registers (44 R488). -/
def execTCmpHi (h1 : Bool) (h2 : Bool) (rs : LowReg) (rd : LowReg) (st : State) : Result :=
  guardHi h1 h2 (opCmp (st.reg (hiReg h1 rd)) (st.plain (st.reg (hiReg h2 rs))) st)

/-- MOV of high registers (44 R489). -/
def execTMovHi (h1 : Bool) (h2 : Bool) (rs : LowReg) (rd : LowReg) (st : State) : Result :=
  guardHi h1 h2 (opMov false (hiReg h1 rd) (st.plain (st.reg (hiReg h2 rs))) st)

/-- ADD of an offset to the PC (44 R494). -/
def execTAddPc (rd : LowReg) (word8 : BitVec 8) (st : State) : Result :=
  thumbWrite (low rd) (st.thumbPcBase + wordOffset word8) st

/-- ADD of an offset to SP into a low register (44 R495). -/
def execTAddSp (rd : LowReg) (word8 : BitVec 8) (st : State) : Result :=
  thumbWrite (low rd) (st.reg 13#4 + wordOffset word8) st

/-- ADD of an offset to SP (44 R496). -/
def execTAddSpImm (word7 : BitVec 7) (st : State) : Result :=
  thumbWrite 13#4 (st.reg 13#4 + wordOffset word7) st

/-- ADD of a negative offset to SP (44 R497). -/
def execTSubSpImm (word7 : BitVec 7) (st : State) : Result :=
  thumbWrite 13#4 (st.reg 13#4 - wordOffset word7) st

end Sys2Proof.Machine
end

