-- ==== Sys2Proof/Machine/ThumbTransfer.lean ====
section
/-! DEFINITION. Thumb loads, stores and multiple transfers (45_thumb_mem_branch.md R510 to R531). -/

namespace Sys2Proof.Machine

/-- A Thumb load at an address; the base is never written back (45 R510). -/
def thumbLoad (size : Size) (signed : Bool) (a : Word) (rd : LowReg) (st : State) : Result :=
  loadSingle size signed st.privileged { addr := a, offAddr := a, writeback := false } 0#4 (low rd) st

/-- A Thumb store at an address (45 R510). -/
def thumbStore (size : Size) (a : Word) (rd : LowReg) (st : State) : Result :=
  storeSingle size st.privileged { addr := a, offAddr := a, writeback := false } 0#4 (st.lowReg rd) st

/-- A halfword offset (30 R262). -/
def halfOffset (x : BitVec 5) : Word := (x.setWidth 32) <<< 1

/-- The registers of PUSH: the low list and LR (45 R528). -/
def pushList (r : Bool) (regs : BitVec 8) : List RegNum := regList (0#1 ++ BitVec.ofBool r ++ 0#6 ++ regs)

/-- The registers of POP: the low list and PC (45 R529). -/
def popList (r : Bool) (regs : BitVec 8) : List RegNum := regList (BitVec.ofBool r ++ 0#7 ++ regs)

/-- LDR (45 R511). -/
def execTLdrPc (rd : LowReg) (word8 : BitVec 8) (st : State) : Result :=
  thumbLoad .word false (st.thumbPcBase + wordOffset word8) rd st

/-- STR (45 R512). -/
def execTStrReg (ro : LowReg) (rb : LowReg) (rd : LowReg) (st : State) : Result :=
  thumbStore .word (st.lowReg rb + st.lowReg ro) rd st

/-- STRB (45 R513). -/
def execTStrbReg (ro : LowReg) (rb : LowReg) (rd : LowReg) (st : State) : Result :=
  thumbStore .byte (st.lowReg rb + st.lowReg ro) rd st

/-- LDR (45 R514). -/
def execTLdrReg (ro : LowReg) (rb : LowReg) (rd : LowReg) (st : State) : Result :=
  thumbLoad .word false (st.lowReg rb + st.lowReg ro) rd st

/-- LDRB (45 R515). -/
def execTLdrbReg (ro : LowReg) (rb : LowReg) (rd : LowReg) (st : State) : Result :=
  thumbLoad .byte false (st.lowReg rb + st.lowReg ro) rd st

/-- STRH (45 R516). -/
def execTStrhReg (ro : LowReg) (rb : LowReg) (rd : LowReg) (st : State) : Result :=
  thumbStore .half (st.lowReg rb + st.lowReg ro) rd st

/-- LDRH (45 R517). -/
def execTLdrhReg (ro : LowReg) (rb : LowReg) (rd : LowReg) (st : State) : Result :=
  thumbLoad .half false (st.lowReg rb + st.lowReg ro) rd st

/-- LDRSB (45 R518). -/
def execTLdrsbReg (ro : LowReg) (rb : LowReg) (rd : LowReg) (st : State) : Result :=
  thumbLoad .byte true (st.lowReg rb + st.lowReg ro) rd st

/-- LDRSH (45 R519). -/
def execTLdrshReg (ro : LowReg) (rb : LowReg) (rd : LowReg) (st : State) : Result :=
  thumbLoad .half true (st.lowReg rb + st.lowReg ro) rd st

/-- STR (45 R520). -/
def execTStrImm (imm5 : BitVec 5) (rb : LowReg) (rd : LowReg) (st : State) : Result :=
  thumbStore .word (st.lowReg rb + wordOffset imm5) rd st

/-- LDR (45 R521). -/
def execTLdrImm (imm5 : BitVec 5) (rb : LowReg) (rd : LowReg) (st : State) : Result :=
  thumbLoad .word false (st.lowReg rb + wordOffset imm5) rd st

/-- STRB (45 R522). -/
def execTStrbImm (imm5 : BitVec 5) (rb : LowReg) (rd : LowReg) (st : State) : Result :=
  thumbStore .byte (st.lowReg rb + imm5.setWidth 32) rd st

/-- LDRB (45 R523). -/
def execTLdrbImm (imm5 : BitVec 5) (rb : LowReg) (rd : LowReg) (st : State) : Result :=
  thumbLoad .byte false (st.lowReg rb + imm5.setWidth 32) rd st

/-- STRH (45 R524). -/
def execTStrhImm (imm5 : BitVec 5) (rb : LowReg) (rd : LowReg) (st : State) : Result :=
  thumbStore .half (st.lowReg rb + halfOffset imm5) rd st

/-- LDRH (45 R525). -/
def execTLdrhImm (imm5 : BitVec 5) (rb : LowReg) (rd : LowReg) (st : State) : Result :=
  thumbLoad .half false (st.lowReg rb + halfOffset imm5) rd st

/-- STR (45 R526). -/
def execTStrSp (rd : LowReg) (word8 : BitVec 8) (st : State) : Result :=
  thumbStore .word (st.reg 13#4 + wordOffset word8) rd st

/-- LDR (45 R527). -/
def execTLdrSp (rd : LowReg) (word8 : BitVec 8) (st : State) : Result :=
  thumbLoad .word false (st.reg 13#4 + wordOffset word8) rd st

/-- PUSH: STMDB on SP (45 R528). -/
def execTPush (r : Bool) (regs : BitVec 8) (st : State) : Result :=
  guardBlock 13#4 (pushList r regs) (storeBlock false true false true 13#4 (pushList r regs) st)

/-- POP: LDMIA on SP (45 R529). -/
def execTPop (r : Bool) (regs : BitVec 8) (st : State) : Result :=
  guardBlock 13#4 (popList r regs) (loadBlock false false false true true 13#4 (popList r regs) st)

/-- STMIA (45 R530). -/
def execTStmia (rb : LowReg) (regs : BitVec 8) (st : State) : Result :=
  guardBlock (low rb) (regList (0#8 ++ regs)) (storeBlock false false true true (low rb) (regList (0#8 ++ regs)) st)

/-- LDMIA (45 R531). -/
def execTLdmia (rb : LowReg) (regs : BitVec 8) (st : State) : Result :=
  guardBlock (low rb) (regList (0#8 ++ regs)) (loadBlock false false false true true (low rb) (regList (0#8 ++ regs)) st)

end Sys2Proof.Machine
end

