-- ==== Sys2Proof/Machine/ThumbBranch.lean ====
section
/-! DEFINITION. Thumb branches, SWI and undefined instructions (45_thumb_mem_branch.md R535 to R543). -/

namespace Sys2Proof.Machine

/-- A Thumb conditional branch (45 R535). -/
def thumbCondBranch (c : Cond) (off8 : BitVec 8) (st : State) : Result :=
  if condPassed c st.cpsr then .next (st.branchTo (st.pc + 4#32 + (off8 ++ 0#1).signExtend 32)) else .next st.advance

/-- BEQ (45 R535). -/
def execTBeq (off8 : BitVec 8) (st : State) : Result :=
  thumbCondBranch .eq off8 st

/-- BNE (45 R535). -/
def execTBne (off8 : BitVec 8) (st : State) : Result :=
  thumbCondBranch .ne off8 st

/-- BCS (45 R535). -/
def execTBcs (off8 : BitVec 8) (st : State) : Result :=
  thumbCondBranch .cs off8 st

/-- BCC (45 R535). -/
def execTBcc (off8 : BitVec 8) (st : State) : Result :=
  thumbCondBranch .cc off8 st

/-- BMI (45 R535). -/
def execTBmi (off8 : BitVec 8) (st : State) : Result :=
  thumbCondBranch .mi off8 st

/-- BPL (45 R535). -/
def execTBpl (off8 : BitVec 8) (st : State) : Result :=
  thumbCondBranch .pl off8 st

/-- BVS (45 R535). -/
def execTBvs (off8 : BitVec 8) (st : State) : Result :=
  thumbCondBranch .vs off8 st

/-- BVC (45 R535). -/
def execTBvc (off8 : BitVec 8) (st : State) : Result :=
  thumbCondBranch .vc off8 st

/-- BHI (45 R535). -/
def execTBhi (off8 : BitVec 8) (st : State) : Result :=
  thumbCondBranch .hi off8 st

/-- BLS (45 R535). -/
def execTBls (off8 : BitVec 8) (st : State) : Result :=
  thumbCondBranch .ls off8 st

/-- BGE (45 R535). -/
def execTBge (off8 : BitVec 8) (st : State) : Result :=
  thumbCondBranch .ge off8 st

/-- BLT (45 R535). -/
def execTBlt (off8 : BitVec 8) (st : State) : Result :=
  thumbCondBranch .lt off8 st

/-- BGT (45 R535). -/
def execTBgt (off8 : BitVec 8) (st : State) : Result :=
  thumbCondBranch .gt off8 st

/-- BLE (45 R535). -/
def execTBle (off8 : BitVec 8) (st : State) : Result :=
  thumbCondBranch .le off8 st

/-- B (45 R536). -/
def execTB (off11 : BitVec 11) (st : State) : Result :=
  .next (st.branchTo (st.pc + 4#32 + (off11 ++ 0#1).signExtend 32))

/-- BL, first halfword (45 R537). -/
def execTBlHigh (off11 : BitVec 11) (st : State) : Result :=
  .next ((st.setReg 14#4 (st.pc + 4#32 + (off11 ++ 0#12).signExtend 32)).advance)

/-- BL, second halfword (45 R538). -/
def execTBlLow (off11 : BitVec 11) (st : State) : Result :=
  .next ((st.setReg 14#4 ((st.pc + 2#32) ||| 1#32)).branchTo (st.reg 14#4 + (off11 ++ 0#1).setWidth 32))

/-- BX (45 R541). -/
def execTBx (h2 : Bool) (rs : LowReg) (st : State) : Result :=
  branchExchange (st.reg (hiReg h2 rs)) st

/-- SWI (45 R542). -/
def execTSwi (_comment : BitVec 8) (st : State) : Result :=
  .next (st.takeException .swi)

/-- A Thumb undefined instruction (45 R543). -/
def execTUndefCond (_payload : BitVec 8) (st : State) : Result :=
  .next (st.takeException .undefined)

/-- A Thumb undefined instruction (45 R543). -/
def execTUndef11101 (_payload : BitVec 11) (st : State) : Result :=
  .next (st.takeException .undefined)

/-- A Thumb undefined instruction (45 R543). -/
def execTUndefB1 (_payload : BitVec 8) (st : State) : Result :=
  .next (st.takeException .undefined)

/-- A Thumb undefined instruction (45 R543). -/
def execTUndefB2 (_payload : BitVec 9) (st : State) : Result :=
  .next (st.takeException .undefined)

/-- A Thumb undefined instruction (45 R543). -/
def execTUndefB6 (_payload : BitVec 9) (st : State) : Result :=
  .next (st.takeException .undefined)

/-- A Thumb undefined instruction (45 R543). -/
def execTUndefB8 (_payload : BitVec 10) (st : State) : Result :=
  .next (st.takeException .undefined)

/-- A Thumb undefined instruction (45 R543). -/
def execTUndefBC (_payload : BitVec 9) (st : State) : Result :=
  .next (st.takeException .undefined)

/-- BX with H1 = 1: unpredictable, with the treatment "refuse" (45 R541, U20). -/
def execTBxH1 (_payload : BitVec 7) (_st : State) : Result := .refused .thumbBxH1

end Sys2Proof.Machine
end

