-- ==== Sys2Proof/Machine/Dispatch.lean ====
section
/-! DEFINITION. The dispatch: one arm for each instruction. -/

namespace Sys2Proof.Machine

/-- The meaning of an instruction. -/
def exec (i : Instr) (s : State) : Host.Outcome State Fault Refusal :=
  match i with
  | .andImm a b c d e f => Sys2Proof.Machine.execAndImm a b c d e f s
  | .andShift a b c d e f g => Sys2Proof.Machine.execAndShift a b c d e f g s
  | .andRegShift a b c d e f g => Sys2Proof.Machine.execAndRegShift a b c d e f g s
  | .eorImm a b c d e f => Sys2Proof.Machine.execEorImm a b c d e f s
  | .eorShift a b c d e f g => Sys2Proof.Machine.execEorShift a b c d e f g s
  | .eorRegShift a b c d e f g => Sys2Proof.Machine.execEorRegShift a b c d e f g s
  | .subImm a b c d e f => Sys2Proof.Machine.execSubImm a b c d e f s
  | .subShift a b c d e f g => Sys2Proof.Machine.execSubShift a b c d e f g s
  | .subRegShift a b c d e f g => Sys2Proof.Machine.execSubRegShift a b c d e f g s
  | .rsbImm a b c d e f => Sys2Proof.Machine.execRsbImm a b c d e f s
  | .rsbShift a b c d e f g => Sys2Proof.Machine.execRsbShift a b c d e f g s
  | .rsbRegShift a b c d e f g => Sys2Proof.Machine.execRsbRegShift a b c d e f g s
  | .addImm a b c d e f => Sys2Proof.Machine.execAddImm a b c d e f s
  | .addShift a b c d e f g => Sys2Proof.Machine.execAddShift a b c d e f g s
  | .addRegShift a b c d e f g => Sys2Proof.Machine.execAddRegShift a b c d e f g s
  | .adcImm a b c d e f => Sys2Proof.Machine.execAdcImm a b c d e f s
  | .adcShift a b c d e f g => Sys2Proof.Machine.execAdcShift a b c d e f g s
  | .adcRegShift a b c d e f g => Sys2Proof.Machine.execAdcRegShift a b c d e f g s
  | .sbcImm a b c d e f => Sys2Proof.Machine.execSbcImm a b c d e f s
  | .sbcShift a b c d e f g => Sys2Proof.Machine.execSbcShift a b c d e f g s
  | .sbcRegShift a b c d e f g => Sys2Proof.Machine.execSbcRegShift a b c d e f g s
  | .rscImm a b c d e f => Sys2Proof.Machine.execRscImm a b c d e f s
  | .rscShift a b c d e f g => Sys2Proof.Machine.execRscShift a b c d e f g s
  | .rscRegShift a b c d e f g => Sys2Proof.Machine.execRscRegShift a b c d e f g s
  | .tstImm a b c d => Sys2Proof.Machine.execTstImm a b c d s
  | .tstShift a b c d e => Sys2Proof.Machine.execTstShift a b c d e s
  | .tstRegShift a b c d e => Sys2Proof.Machine.execTstRegShift a b c d e s
  | .teqImm a b c d => Sys2Proof.Machine.execTeqImm a b c d s
  | .teqShift a b c d e => Sys2Proof.Machine.execTeqShift a b c d e s
  | .teqRegShift a b c d e => Sys2Proof.Machine.execTeqRegShift a b c d e s
  | .cmpImm a b c d => Sys2Proof.Machine.execCmpImm a b c d s
  | .cmpShift a b c d e => Sys2Proof.Machine.execCmpShift a b c d e s
  | .cmpRegShift a b c d e => Sys2Proof.Machine.execCmpRegShift a b c d e s
  | .cmnImm a b c d => Sys2Proof.Machine.execCmnImm a b c d s
  | .cmnShift a b c d e => Sys2Proof.Machine.execCmnShift a b c d e s
  | .cmnRegShift a b c d e => Sys2Proof.Machine.execCmnRegShift a b c d e s
  | .orrImm a b c d e f => Sys2Proof.Machine.execOrrImm a b c d e f s
  | .orrShift a b c d e f g => Sys2Proof.Machine.execOrrShift a b c d e f g s
  | .orrRegShift a b c d e f g => Sys2Proof.Machine.execOrrRegShift a b c d e f g s
  | .movImm a b c d e => Sys2Proof.Machine.execMovImm a b c d e s
  | .movShift a b c d e f => Sys2Proof.Machine.execMovShift a b c d e f s
  | .movRegShift a b c d e f => Sys2Proof.Machine.execMovRegShift a b c d e f s
  | .bicImm a b c d e f => Sys2Proof.Machine.execBicImm a b c d e f s
  | .bicShift a b c d e f g => Sys2Proof.Machine.execBicShift a b c d e f g s
  | .bicRegShift a b c d e f g => Sys2Proof.Machine.execBicRegShift a b c d e f g s
  | .mvnImm a b c d e => Sys2Proof.Machine.execMvnImm a b c d e s
  | .mvnShift a b c d e f => Sys2Proof.Machine.execMvnShift a b c d e f s
  | .mvnRegShift a b c d e f => Sys2Proof.Machine.execMvnRegShift a b c d e f s
  | .mul a b c d e => Sys2Proof.Machine.execMul a b c d e s
  | .mla a b c d e f => Sys2Proof.Machine.execMla a b c d e f s
  | .umull a b c d e f => Sys2Proof.Machine.execUmull a b c d e f s
  | .umlal a b c d e f => Sys2Proof.Machine.execUmlal a b c d e f s
  | .smull a b c d e f => Sys2Proof.Machine.execSmull a b c d e f s
  | .smlal a b c d e f => Sys2Proof.Machine.execSmlal a b c d e f s
  | .mrs a b c => Sys2Proof.Machine.execMrs a b c s
  | .msrImm a b c d e => Sys2Proof.Machine.execMsrImm a b c d e s
  | .msrReg a b c d => Sys2Proof.Machine.execMsrReg a b c d s
  | .bx a b => Sys2Proof.Machine.execBx a b s
  | .ldrImmPre a b c d e f => Sys2Proof.Machine.execLdrImmPre a b c d e f s
  | .ldrImmPost a b c d e => Sys2Proof.Machine.execLdrImmPost a b c d e s
  | .ldrtImm a b c d e => Sys2Proof.Machine.execLdrtImm a b c d e s
  | .ldrRegPre a b c d e f g h => Sys2Proof.Machine.execLdrRegPre a b c d e f g h s
  | .ldrRegPost a b c d e f g => Sys2Proof.Machine.execLdrRegPost a b c d e f g s
  | .ldrtReg a b c d e f g => Sys2Proof.Machine.execLdrtReg a b c d e f g s
  | .ldrbImmPre a b c d e f => Sys2Proof.Machine.execLdrbImmPre a b c d e f s
  | .ldrbImmPost a b c d e => Sys2Proof.Machine.execLdrbImmPost a b c d e s
  | .ldrbtImm a b c d e => Sys2Proof.Machine.execLdrbtImm a b c d e s
  | .ldrbRegPre a b c d e f g h => Sys2Proof.Machine.execLdrbRegPre a b c d e f g h s
  | .ldrbRegPost a b c d e f g => Sys2Proof.Machine.execLdrbRegPost a b c d e f g s
  | .ldrbtReg a b c d e f g => Sys2Proof.Machine.execLdrbtReg a b c d e f g s
  | .strImmPre a b c d e f => Sys2Proof.Machine.execStrImmPre a b c d e f s
  | .strImmPost a b c d e => Sys2Proof.Machine.execStrImmPost a b c d e s
  | .strtImm a b c d e => Sys2Proof.Machine.execStrtImm a b c d e s
  | .strRegPre a b c d e f g h => Sys2Proof.Machine.execStrRegPre a b c d e f g h s
  | .strRegPost a b c d e f g => Sys2Proof.Machine.execStrRegPost a b c d e f g s
  | .strtReg a b c d e f g => Sys2Proof.Machine.execStrtReg a b c d e f g s
  | .strbImmPre a b c d e f => Sys2Proof.Machine.execStrbImmPre a b c d e f s
  | .strbImmPost a b c d e => Sys2Proof.Machine.execStrbImmPost a b c d e s
  | .strbtImm a b c d e => Sys2Proof.Machine.execStrbtImm a b c d e s
  | .strbRegPre a b c d e f g h => Sys2Proof.Machine.execStrbRegPre a b c d e f g h s
  | .strbRegPost a b c d e f g => Sys2Proof.Machine.execStrbRegPost a b c d e f g s
  | .strbtReg a b c d e f g => Sys2Proof.Machine.execStrbtReg a b c d e f g s
  | .ldrhImm a b c d e f g h => Sys2Proof.Machine.execLdrhImm a b c d e f g h s
  | .ldrhReg a b c d e f g => Sys2Proof.Machine.execLdrhReg a b c d e f g s
  | .ldrsbImm a b c d e f g h => Sys2Proof.Machine.execLdrsbImm a b c d e f g h s
  | .ldrsbReg a b c d e f g => Sys2Proof.Machine.execLdrsbReg a b c d e f g s
  | .ldrshImm a b c d e f g h => Sys2Proof.Machine.execLdrshImm a b c d e f g h s
  | .ldrshReg a b c d e f g => Sys2Proof.Machine.execLdrshReg a b c d e f g s
  | .strhImm a b c d e f g h => Sys2Proof.Machine.execStrhImm a b c d e f g h s
  | .strhReg a b c d e f g => Sys2Proof.Machine.execStrhReg a b c d e f g s
  | .ldm a b c d e f => Sys2Proof.Machine.execLdm a b c d e f s
  | .stm a b c d e f => Sys2Proof.Machine.execStm a b c d e f s
  | .ldmUser a b c d e f => Sys2Proof.Machine.execLdmUser a b c d e f s
  | .ldmRestore a b c d e f => Sys2Proof.Machine.execLdmRestore a b c d e f s
  | .stmUser a b c d e f => Sys2Proof.Machine.execStmUser a b c d e f s
  | .swp a b c d => Sys2Proof.Machine.execSwp a b c d s
  | .swpb a b c d => Sys2Proof.Machine.execSwpb a b c d s
  | .b a b => Sys2Proof.Machine.execB a b s
  | .bl a b => Sys2Proof.Machine.execBl a b s
  | .swi a b => Sys2Proof.Machine.execSwi a b s
  | .cdp a b c d e f g => Sys2Proof.Machine.execCdp a b c d e f g s
  | .mcr a b c d e f g => Sys2Proof.Machine.execMcr a b c d e f g s
  | .mrc a b c d e f g => Sys2Proof.Machine.execMrc a b c d e f g s
  | .ldc a b c d e f g h k => Sys2Proof.Machine.execLdc a b c d e f g h k s
  | .stc a b c d e f g h k => Sys2Proof.Machine.execStc a b c d e f g h k s
  | .undefined a b c => Sys2Proof.Machine.execUndefined a b c s
  | .mrcId a b => Sys2Proof.Machine.execMrcId a b s
  | .mrcControl a b => Sys2Proof.Machine.execMrcControl a b s
  | .mcrControl a b => Sys2Proof.Machine.execMcrControl a b s
  | .mrcTtb a b => Sys2Proof.Machine.execMrcTtb a b s
  | .mcrTtb a b => Sys2Proof.Machine.execMcrTtb a b s
  | .mrcDacr a b => Sys2Proof.Machine.execMrcDacr a b s
  | .mcrDacr a b => Sys2Proof.Machine.execMcrDacr a b s
  | .mrcFsr a b => Sys2Proof.Machine.execMrcFsr a b s
  | .mcrFsr a b => Sys2Proof.Machine.execMcrFsr a b s
  | .mrcFar a b => Sys2Proof.Machine.execMrcFar a b s
  | .mcrFar a b => Sys2Proof.Machine.execMcrFar a b s
  | .mcrInvCache a b => Sys2Proof.Machine.execMcrInvCache a b s
  | .mcrInvTlbC5 a b => Sys2Proof.Machine.execMcrInvTlbC5 a b s
  | .mcrInvTlbEntryC5 a b => Sys2Proof.Machine.execMcrInvTlbEntryC5 a b s
  | .mcrInvTlbC6 a b => Sys2Proof.Machine.execMcrInvTlbC6 a b s
  | .mcrInvTlbEntryC6 a b => Sys2Proof.Machine.execMcrInvTlbEntryC6 a b s
  | .mcrInvTlbC7 a b => Sys2Proof.Machine.execMcrInvTlbC7 a b s
  | .mcrInvTlbEntryC7 a b => Sys2Proof.Machine.execMcrInvTlbEntryC7 a b s
  | .mcrCacheBase0 a b => Sys2Proof.Machine.execMcrCacheBase0 a b s
  | .mcrCacheVictim0 a b => Sys2Proof.Machine.execMcrCacheVictim0 a b s
  | .mcrCacheBase1 a b => Sys2Proof.Machine.execMcrCacheBase1 a b s
  | .mcrCacheVictim1 a b => Sys2Proof.Machine.execMcrCacheVictim1 a b s
  | .mrcTlbLockdown a b => Sys2Proof.Machine.execMrcTlbLockdown a b s
  | .mcrTlbLockdown a b => Sys2Proof.Machine.execMcrTlbLockdown a b s
  | .mrcPid a b => Sys2Proof.Machine.execMrcPid a b s
  | .mcrPid a b => Sys2Proof.Machine.execMcrPid a b s
  | .mrcProcId a b => Sys2Proof.Machine.execMrcProcId a b s
  | .mcrProcId a b => Sys2Proof.Machine.execMcrProcId a b s
  | .mcrTestState a b => Sys2Proof.Machine.execMcrTestState a b s
  | .mrcTestState a b => Sys2Proof.Machine.execMrcTestState a b s
  | .mcrC15C a b => Sys2Proof.Machine.execMcrC15C a b s
  | .mrcC15C a b => Sys2Proof.Machine.execMrcC15C a b s
  | .mcrCacheCamRead a b => Sys2Proof.Machine.execMcrCacheCamRead a b s
  | .mcrCacheCamWrite a b => Sys2Proof.Machine.execMcrCacheCamWrite a b s
  | .mcrCacheRamRead a b => Sys2Proof.Machine.execMcrCacheRamRead a b s
  | .mcrCacheRamWrite a b => Sys2Proof.Machine.execMcrCacheRamWrite a b s
  | .mcrCacheCamMatch a b => Sys2Proof.Machine.execMcrCacheCamMatch a b s
  | .mrcC15M a b => Sys2Proof.Machine.execMrcC15M a b s
  | .mrcC15MAlt a b => Sys2Proof.Machine.execMrcC15MAlt a b s
  | .mcrTlbCamRead a b => Sys2Proof.Machine.execMcrTlbCamRead a b s
  | .mcrTlbCamWrite a b => Sys2Proof.Machine.execMcrTlbCamWrite a b s
  | .mcrTlbRam1Read a b => Sys2Proof.Machine.execMcrTlbRam1Read a b s
  | .mcrTlbRam1Write a b => Sys2Proof.Machine.execMcrTlbRam1Write a b s
  | .mcrTlbRam2Read a b => Sys2Proof.Machine.execMcrTlbRam2Read a b s
  | .mcrTlbRam2Write a b => Sys2Proof.Machine.execMcrTlbRam2Write a b s
  | .mcrTlbCamMatch a b => Sys2Proof.Machine.execMcrTlbCamMatch a b s
  | .mrcDccControl a b c d e => Sys2Proof.Machine.execMrcDccControl a b c d e s
  | .mrcDccData a b c d e => Sys2Proof.Machine.execMrcDccData a b c d e s
  | .mcrDccData a b c d e => Sys2Proof.Machine.execMcrDccData a b c d e s
  | .mrcAbortStatus a b c d e => Sys2Proof.Machine.execMrcAbortStatus a b c d e s
  | .mcrAbortStatus a b c d e => Sys2Proof.Machine.execMcrAbortStatus a b c d e s
  | .tLslImm a b c => Sys2Proof.Machine.execTLslImm a b c s
  | .tLsrImm a b c => Sys2Proof.Machine.execTLsrImm a b c s
  | .tAsrImm a b c => Sys2Proof.Machine.execTAsrImm a b c s
  | .tAddReg a b c => Sys2Proof.Machine.execTAddReg a b c s
  | .tSubReg a b c => Sys2Proof.Machine.execTSubReg a b c s
  | .tAddImm3 a b c => Sys2Proof.Machine.execTAddImm3 a b c s
  | .tSubImm3 a b c => Sys2Proof.Machine.execTSubImm3 a b c s
  | .tMovImm a b => Sys2Proof.Machine.execTMovImm a b s
  | .tCmpImm a b => Sys2Proof.Machine.execTCmpImm a b s
  | .tAddImm8 a b => Sys2Proof.Machine.execTAddImm8 a b s
  | .tSubImm8 a b => Sys2Proof.Machine.execTSubImm8 a b s
  | .tAnd a b => Sys2Proof.Machine.execTAnd a b s
  | .tEor a b => Sys2Proof.Machine.execTEor a b s
  | .tLslReg a b => Sys2Proof.Machine.execTLslReg a b s
  | .tLsrReg a b => Sys2Proof.Machine.execTLsrReg a b s
  | .tAsrReg a b => Sys2Proof.Machine.execTAsrReg a b s
  | .tAdc a b => Sys2Proof.Machine.execTAdc a b s
  | .tSbc a b => Sys2Proof.Machine.execTSbc a b s
  | .tRorReg a b => Sys2Proof.Machine.execTRorReg a b s
  | .tTst a b => Sys2Proof.Machine.execTTst a b s
  | .tNeg a b => Sys2Proof.Machine.execTNeg a b s
  | .tCmp a b => Sys2Proof.Machine.execTCmp a b s
  | .tCmn a b => Sys2Proof.Machine.execTCmn a b s
  | .tOrr a b => Sys2Proof.Machine.execTOrr a b s
  | .tMul a b => Sys2Proof.Machine.execTMul a b s
  | .tBic a b => Sys2Proof.Machine.execTBic a b s
  | .tMvn a b => Sys2Proof.Machine.execTMvn a b s
  | .tAddHi a b c d => Sys2Proof.Machine.execTAddHi a b c d s
  | .tCmpHi a b c d => Sys2Proof.Machine.execTCmpHi a b c d s
  | .tMovHi a b c d => Sys2Proof.Machine.execTMovHi a b c d s
  | .tBx a b => Sys2Proof.Machine.execTBx a b s
  | .tLdrPc a b => Sys2Proof.Machine.execTLdrPc a b s
  | .tStrReg a b c => Sys2Proof.Machine.execTStrReg a b c s
  | .tStrbReg a b c => Sys2Proof.Machine.execTStrbReg a b c s
  | .tLdrReg a b c => Sys2Proof.Machine.execTLdrReg a b c s
  | .tLdrbReg a b c => Sys2Proof.Machine.execTLdrbReg a b c s
  | .tStrhReg a b c => Sys2Proof.Machine.execTStrhReg a b c s
  | .tLdrhReg a b c => Sys2Proof.Machine.execTLdrhReg a b c s
  | .tLdrsbReg a b c => Sys2Proof.Machine.execTLdrsbReg a b c s
  | .tLdrshReg a b c => Sys2Proof.Machine.execTLdrshReg a b c s
  | .tStrImm a b c => Sys2Proof.Machine.execTStrImm a b c s
  | .tLdrImm a b c => Sys2Proof.Machine.execTLdrImm a b c s
  | .tStrbImm a b c => Sys2Proof.Machine.execTStrbImm a b c s
  | .tLdrbImm a b c => Sys2Proof.Machine.execTLdrbImm a b c s
  | .tStrhImm a b c => Sys2Proof.Machine.execTStrhImm a b c s
  | .tLdrhImm a b c => Sys2Proof.Machine.execTLdrhImm a b c s
  | .tStrSp a b => Sys2Proof.Machine.execTStrSp a b s
  | .tLdrSp a b => Sys2Proof.Machine.execTLdrSp a b s
  | .tAddPc a b => Sys2Proof.Machine.execTAddPc a b s
  | .tAddSp a b => Sys2Proof.Machine.execTAddSp a b s
  | .tAddSpImm a => Sys2Proof.Machine.execTAddSpImm a s
  | .tSubSpImm a => Sys2Proof.Machine.execTSubSpImm a s
  | .tPush a b => Sys2Proof.Machine.execTPush a b s
  | .tPop a b => Sys2Proof.Machine.execTPop a b s
  | .tStmia a b => Sys2Proof.Machine.execTStmia a b s
  | .tLdmia a b => Sys2Proof.Machine.execTLdmia a b s
  | .tBeq a => Sys2Proof.Machine.execTBeq a s
  | .tBne a => Sys2Proof.Machine.execTBne a s
  | .tBcs a => Sys2Proof.Machine.execTBcs a s
  | .tBcc a => Sys2Proof.Machine.execTBcc a s
  | .tBmi a => Sys2Proof.Machine.execTBmi a s
  | .tBpl a => Sys2Proof.Machine.execTBpl a s
  | .tBvs a => Sys2Proof.Machine.execTBvs a s
  | .tBvc a => Sys2Proof.Machine.execTBvc a s
  | .tBhi a => Sys2Proof.Machine.execTBhi a s
  | .tBls a => Sys2Proof.Machine.execTBls a s
  | .tBge a => Sys2Proof.Machine.execTBge a s
  | .tBlt a => Sys2Proof.Machine.execTBlt a s
  | .tBgt a => Sys2Proof.Machine.execTBgt a s
  | .tBle a => Sys2Proof.Machine.execTBle a s
  | .tUndefCond a => Sys2Proof.Machine.execTUndefCond a s
  | .tSwi a => Sys2Proof.Machine.execTSwi a s
  | .tB a => Sys2Proof.Machine.execTB a s
  | .tUndef11101 a => Sys2Proof.Machine.execTUndef11101 a s
  | .tBlHigh a => Sys2Proof.Machine.execTBlHigh a s
  | .tBlLow a => Sys2Proof.Machine.execTBlLow a s
  | .tUndefB1 a => Sys2Proof.Machine.execTUndefB1 a s
  | .tUndefB2 a => Sys2Proof.Machine.execTUndefB2 a s
  | .tUndefB6 a => Sys2Proof.Machine.execTUndefB6 a s
  | .tUndefB8 a => Sys2Proof.Machine.execTUndefB8 a s
  | .tUndefBC a => Sys2Proof.Machine.execTUndefBC a s
  | .tBxH1 a => Sys2Proof.Machine.execTBxH1 a s

end Sys2Proof.Machine
end

