-- ==== Sys2Proof/WellFormed.lean ====
section
/-! DEFINITION. Well-formed instructions: the operand restrictions whose violation the spec calls unpredictable with the
treatment "refuse" and that the instruction's own fields decide (93_implementation_defined.md U5, U6, U7, U20, U21), and the
canonical choice between a generic MCR or MRC and the row of the opcode table that names its operation. -/

namespace Sys2Proof

/-- The CP15 register transfers that have a row of their own in the opcode table (46 R561, R562): bits [27:16] and bits
[11:0] of each. -/
def cp15AliasWords : List (BitVec 12 × BitVec 12) :=
  [(0b111000010000#12, 0b111100010000#12),
   (0b111000010001#12, 0b111100010000#12),
   (0b111000000001#12, 0b111100010000#12),
   (0b111000010010#12, 0b111100010000#12),
   (0b111000000010#12, 0b111100010000#12),
   (0b111000010011#12, 0b111100010000#12),
   (0b111000000011#12, 0b111100010000#12),
   (0b111000010101#12, 0b111100010000#12)]
  ++ [(0b111000000101#12, 0b111100010000#12),
   (0b111000010110#12, 0b111100010000#12),
   (0b111000000110#12, 0b111100010000#12),
   (0b111000000111#12, 0b111100010111#12),
   (0b111000001000#12, 0b111100010101#12),
   (0b111000001000#12, 0b111100110101#12),
   (0b111000001000#12, 0b111100010110#12),
   (0b111000001000#12, 0b111100110110#12)]
  ++ [(0b111000001000#12, 0b111100010111#12),
   (0b111000001000#12, 0b111100110111#12),
   (0b111000001001#12, 0b111100010000#12),
   (0b111000001001#12, 0b111100010001#12),
   (0b111000001001#12, 0b111100110000#12),
   (0b111000001001#12, 0b111100110001#12),
   (0b111000011010#12, 0b111100010000#12),
   (0b111000001010#12, 0b111100010000#12)]
  ++ [(0b111000011101#12, 0b111100010000#12),
   (0b111000001101#12, 0b111100010000#12),
   (0b111000011101#12, 0b111100110000#12),
   (0b111000001101#12, 0b111100110000#12),
   (0b111011101111#12, 0b111111111111#12),
   (0b111011111111#12, 0b111111111111#12),
   (0b111001101111#12, 0b111100010011#12),
   (0b111001111111#12, 0b111100010011#12)]
  ++ [(0b111001001111#12, 0b111101010111#12),
   (0b111001001111#12, 0b111111010111#12),
   (0b111001001111#12, 0b111101011011#12),
   (0b111001001111#12, 0b111111011011#12),
   (0b111001001111#12, 0b111110110111#12),
   (0b111010011111#12, 0b111100010011#12),
   (0b111010011111#12, 0b111111010011#12),
   (0b111010001111#12, 0b111110010111#12)]
  ++ [(0b111010001111#12, 0b111100010111#12),
   (0b111010001111#12, 0b111110011011#12),
   (0b111010001111#12, 0b111100011011#12),
   (0b111010001111#12, 0b111110110011#12),
   (0b111010001111#12, 0b111100110011#12),
   (0b111010001111#12, 0b111110011101#12)]

/-- The CP14 register transfers that have a row of their own (46 R605: only CRn and the direction are decoded). -/
def isCp14Alias (hi lo : BitVec 12) : Bool :=
  (lo.extractLsb' 8 4 == 14#4) && (lo.getLsbD 4) &&
    (hi.extractLsb' 0 5 == 0b10000#5 || hi.extractLsb' 0 5 == 0b10001#5 || hi.extractLsb' 0 5 == 0b00001#5 ||
      hi.extractLsb' 0 5 == 0b10010#5 || hi.extractLsb' 0 5 == 0b00010#5)

/-- Bits [27:16] and [11:0] of an MCR or MRC word belong to a row of the table that names the CP15 or CP14 operation. -/
def isTransferAlias (hi lo : BitVec 12) : Bool :=
  cp15AliasWords.contains (hi, lo) || isCp14Alias hi lo

/-- Register restrictions of the long multiplies (41 R350, U6, U21). -/
def longRegsOk (rdHi rdLo rs rm : RegNum) : Bool :=
  rdHi != 15#4 && rdLo != 15#4 && rs != 15#4 && rm != 15#4 && rdHi != rdLo && rdHi != rm && rdLo != rm

/-- A base register that is written back is neither r15 nor the data register (42 R395, R396, U6, U7). -/
def baseOk (writeback : Bool) (rn rd : RegNum) : Bool :=
  !writeback || (rn != 15#4 && rn != rd)

/-- The static operand restrictions of each instruction. -/
def Instr.wellFormed : Instr → Bool
  | .andImm ..=> true
  | .andShift ..=> true
  | .andRegShift _ _ _ rd rs _ _ => rs != 15#4 && rd != 15#4
  | .eorImm ..=> true
  | .eorShift ..=> true
  | .eorRegShift _ _ _ rd rs _ _ => rs != 15#4 && rd != 15#4
  | .subImm ..=> true
  | .subShift ..=> true
  | .subRegShift _ _ _ rd rs _ _ => rs != 15#4 && rd != 15#4
  | .rsbImm ..=> true
  | .rsbShift ..=> true
  | .rsbRegShift _ _ _ rd rs _ _ => rs != 15#4 && rd != 15#4
  | .addImm ..=> true
  | .addShift ..=> true
  | .addRegShift _ _ _ rd rs _ _ => rs != 15#4 && rd != 15#4
  | .adcImm ..=> true
  | .adcShift ..=> true
  | .adcRegShift _ _ _ rd rs _ _ => rs != 15#4 && rd != 15#4
  | .sbcImm ..=> true
  | .sbcShift ..=> true
  | .sbcRegShift _ _ _ rd rs _ _ => rs != 15#4 && rd != 15#4
  | .rscImm ..=> true
  | .rscShift ..=> true
  | .rscRegShift _ _ _ rd rs _ _ => rs != 15#4 && rd != 15#4
  | .tstImm ..=> true
  | .tstShift ..=> true
  | .tstRegShift _ _ rs _ _ => rs != 15#4
  | .teqImm ..=> true
  | .teqShift ..=> true
  | .teqRegShift _ _ rs _ _ => rs != 15#4
  | .cmpImm ..=> true
  | .cmpShift ..=> true
  | .cmpRegShift _ _ rs _ _ => rs != 15#4
  | .cmnImm ..=> true
  | .cmnShift ..=> true
  | .cmnRegShift _ _ rs _ _ => rs != 15#4
  | .orrImm ..=> true
  | .orrShift ..=> true
  | .orrRegShift _ _ _ rd rs _ _ => rs != 15#4 && rd != 15#4
  | .movImm ..=> true
  | .movShift ..=> true
  | .movRegShift _ _ rd rs _ _ => rs != 15#4 && rd != 15#4
  | .bicImm ..=> true
  | .bicShift ..=> true
  | .bicRegShift _ _ _ rd rs _ _ => rs != 15#4 && rd != 15#4
  | .mvnImm ..=> true
  | .mvnShift ..=> true
  | .mvnRegShift _ _ rd rs _ _ => rs != 15#4 && rd != 15#4
  | .mul _ _ rd rs rm => rd != 15#4 && rs != 15#4 && rm != 15#4 && rd != rm
  | .mla _ _ rd rn rs rm => rd != 15#4 && rn != 15#4 && rs != 15#4 && rm != 15#4 && rd != rm
  | .umull _ _ rdHi rdLo rs rm => longRegsOk rdHi rdLo rs rm
  | .umlal _ _ rdHi rdLo rs rm => longRegsOk rdHi rdLo rs rm
  | .smull _ _ rdHi rdLo rs rm => longRegsOk rdHi rdLo rs rm
  | .smlal _ _ rdHi rdLo rs rm => longRegsOk rdHi rdLo rs rm
  | .mrs _ _ rd => rd != 15#4
  | .msrImm ..=> true
  | .msrReg ..=> true
  | .bx ..=> true
  | .ldrImmPre _ _ w rn rd _ => baseOk w rn rd
  | .ldrImmPost _ _ rn rd _ => baseOk true rn rd
  | .ldrtImm _ _ rn rd _ => baseOk true rn rd && rd != 15#4
  | .ldrRegPre _ _ w rn rd _ _ rm => baseOk w rn rd && rm != 15#4
  | .ldrRegPost _ _ rn rd _ _ rm => baseOk true rn rd && rm != 15#4
  | .ldrtReg _ _ rn rd _ _ rm => baseOk true rn rd && rm != 15#4 && rd != 15#4
  | .ldrbImmPre _ _ w rn rd _ => baseOk w rn rd && rd != 15#4
  | .ldrbImmPost _ _ rn rd _ => baseOk true rn rd && rd != 15#4
  | .ldrbtImm _ _ rn rd _ => baseOk true rn rd && rd != 15#4
  | .ldrbRegPre _ _ w rn rd _ _ rm => baseOk w rn rd && rm != 15#4 && rd != 15#4
  | .ldrbRegPost _ _ rn rd _ _ rm => baseOk true rn rd && rm != 15#4 && rd != 15#4
  | .ldrbtReg _ _ rn rd _ _ rm => baseOk true rn rd && rm != 15#4 && rd != 15#4
  | .strImmPre _ _ w rn rd _ => baseOk w rn rd
  | .strImmPost _ _ rn rd _ => baseOk true rn rd
  | .strtImm _ _ rn rd _ => baseOk true rn rd
  | .strRegPre _ _ w rn rd _ _ rm => baseOk w rn rd && rm != 15#4
  | .strRegPost _ _ rn rd _ _ rm => baseOk true rn rd && rm != 15#4
  | .strtReg _ _ rn rd _ _ rm => baseOk true rn rd && rm != 15#4
  | .strbImmPre _ _ w rn rd _ => baseOk w rn rd && rd != 15#4
  | .strbImmPost _ _ rn rd _ => baseOk true rn rd && rd != 15#4
  | .strbtImm _ _ rn rd _ => baseOk true rn rd && rd != 15#4
  | .strbRegPre _ _ w rn rd _ _ rm => baseOk w rn rd && rm != 15#4 && rd != 15#4
  | .strbRegPost _ _ rn rd _ _ rm => baseOk true rn rd && rm != 15#4 && rd != 15#4
  | .strbtReg _ _ rn rd _ _ rm => baseOk true rn rd && rm != 15#4 && rd != 15#4
  | .ldrhImm _ p _ w rn rd _ _ => (p || !w) && baseOk (!p || w) rn rd && rd != 15#4
  | .ldrhReg _ p _ w rn rd rm => (p || !w) && baseOk (!p || w) rn rd && rd != 15#4 && rm != 15#4
  | .ldrsbImm _ p _ w rn rd _ _ => (p || !w) && baseOk (!p || w) rn rd && rd != 15#4
  | .ldrsbReg _ p _ w rn rd rm => (p || !w) && baseOk (!p || w) rn rd && rd != 15#4 && rm != 15#4
  | .ldrshImm _ p _ w rn rd _ _ => (p || !w) && baseOk (!p || w) rn rd && rd != 15#4
  | .ldrshReg _ p _ w rn rd rm => (p || !w) && baseOk (!p || w) rn rd && rd != 15#4 && rm != 15#4
  | .strhImm _ p _ w rn rd _ _ => (p || !w) && baseOk (!p || w) rn rd && rd != 15#4
  | .strhReg _ p _ w rn rd rm => (p || !w) && baseOk (!p || w) rn rd && rd != 15#4 && rm != 15#4
  | .ldm _ _ _ _ rn regs => rn != 15#4 && regs != 0
  | .stm _ _ _ _ rn regs => rn != 15#4 && regs != 0
  | .ldmUser _ _ _ w rn regs => rn != 15#4 && regs != 0 && !w
  | .ldmRestore _ _ _ _ rn _ => rn != 15#4
  | .stmUser _ _ _ w rn regs => rn != 15#4 && regs != 0 && !w
  | .swp _ rn rd rm => rn != 15#4 && rd != 15#4 && rm != 15#4 && rn != rd && rn != rm
  | .swpb _ rn rd rm => rn != 15#4 && rd != 15#4 && rm != 15#4 && rn != rd && rn != rm
  | .b ..=> true
  | .bl ..=> true
  | .swi ..=> true
  | .cdp ..=> true
  | .mcr _ op1 crn _ cp op2 crm => !isTransferAlias (0b1110#4 ++ op1 ++ 0b0#1 ++ crn) (cp ++ op2 ++ 0b1#1 ++ crm)
  | .mrc _ op1 crn _ cp op2 crm => !isTransferAlias (0b1110#4 ++ op1 ++ 0b1#1 ++ crn) (cp ++ op2 ++ 0b1#1 ++ crm)
  | .ldc _ p _ _ w rn _ _ _ => rn != 15#4 || (p && !w)
  | .stc _ p _ _ w rn _ _ _ => rn != 15#4 || (p && !w)
  | .undefined ..=> true
  | .mrcId ..=> true
  | .mrcControl ..=> true
  | .mcrControl ..=> true
  | .mrcTtb ..=> true
  | .mcrTtb ..=> true
  | .mrcDacr ..=> true
  | .mcrDacr ..=> true
  | .mrcFsr ..=> true
  | .mcrFsr ..=> true
  | .mrcFar ..=> true
  | .mcrFar ..=> true
  | .mcrInvCache ..=> true
  | .mcrInvTlbC5 ..=> true
  | .mcrInvTlbEntryC5 ..=> true
  | .mcrInvTlbC6 ..=> true
  | .mcrInvTlbEntryC6 ..=> true
  | .mcrInvTlbC7 ..=> true
  | .mcrInvTlbEntryC7 ..=> true
  | .mcrCacheBase0 ..=> true
  | .mcrCacheVictim0 ..=> true
  | .mcrCacheBase1 ..=> true
  | .mcrCacheVictim1 ..=> true
  | .mrcTlbLockdown ..=> true
  | .mcrTlbLockdown ..=> true
  | .mrcPid ..=> true
  | .mcrPid ..=> true
  | .mrcProcId ..=> true
  | .mcrProcId ..=> true
  | .mcrTestState ..=> true
  | .mrcTestState ..=> true
  | .mcrC15C ..=> true
  | .mrcC15C ..=> true
  | .mcrCacheCamRead ..=> true
  | .mcrCacheCamWrite ..=> true
  | .mcrCacheRamRead ..=> true
  | .mcrCacheRamWrite ..=> true
  | .mcrCacheCamMatch ..=> true
  | .mrcC15M ..=> true
  | .mrcC15MAlt ..=> true
  | .mcrTlbCamRead ..=> true
  | .mcrTlbCamWrite ..=> true
  | .mcrTlbRam1Read ..=> true
  | .mcrTlbRam1Write ..=> true
  | .mcrTlbRam2Read ..=> true
  | .mcrTlbRam2Write ..=> true
  | .mcrTlbCamMatch ..=> true
  | .mrcDccControl ..=> true
  | .mrcDccData ..=> true
  | .mcrDccData ..=> true
  | .mrcAbortStatus ..=> true
  | .mcrAbortStatus ..=> true
  | .tLslImm ..=> true
  | .tLsrImm ..=> true
  | .tAsrImm ..=> true
  | .tAddReg ..=> true
  | .tSubReg ..=> true
  | .tAddImm3 ..=> true
  | .tSubImm3 ..=> true
  | .tMovImm ..=> true
  | .tCmpImm ..=> true
  | .tAddImm8 ..=> true
  | .tSubImm8 ..=> true
  | .tAnd ..=> true
  | .tEor ..=> true
  | .tLslReg ..=> true
  | .tLsrReg ..=> true
  | .tAsrReg ..=> true
  | .tAdc ..=> true
  | .tSbc ..=> true
  | .tRorReg ..=> true
  | .tTst ..=> true
  | .tNeg ..=> true
  | .tCmp ..=> true
  | .tCmn ..=> true
  | .tOrr ..=> true
  | .tMul ..=> true
  | .tBic ..=> true
  | .tMvn ..=> true
  | .tAddHi h1 h2 _ _ => h1 || h2
  | .tCmpHi h1 h2 _ _ => h1 || h2
  | .tMovHi h1 h2 _ _ => h1 || h2
  | .tBx ..=> true
  | .tLdrPc ..=> true
  | .tStrReg ..=> true
  | .tStrbReg ..=> true
  | .tLdrReg ..=> true
  | .tLdrbReg ..=> true
  | .tStrhReg ..=> true
  | .tLdrhReg ..=> true
  | .tLdrsbReg ..=> true
  | .tLdrshReg ..=> true
  | .tStrImm ..=> true
  | .tLdrImm ..=> true
  | .tStrbImm ..=> true
  | .tLdrbImm ..=> true
  | .tStrhImm ..=> true
  | .tLdrhImm ..=> true
  | .tStrSp ..=> true
  | .tLdrSp ..=> true
  | .tAddPc ..=> true
  | .tAddSp ..=> true
  | .tAddSpImm ..=> true
  | .tSubSpImm ..=> true
  | .tPush r regs => r || regs != 0
  | .tPop r regs => r || regs != 0
  | .tStmia _ regs => regs != 0
  | .tLdmia _ regs => regs != 0
  | .tBeq ..=> true
  | .tBne ..=> true
  | .tBcs ..=> true
  | .tBcc ..=> true
  | .tBmi ..=> true
  | .tBpl ..=> true
  | .tBvs ..=> true
  | .tBvc ..=> true
  | .tBhi ..=> true
  | .tBls ..=> true
  | .tBge ..=> true
  | .tBlt ..=> true
  | .tBgt ..=> true
  | .tBle ..=> true
  | .tUndefCond ..=> true
  | .tSwi ..=> true
  | .tB ..=> true
  | .tUndef11101 ..=> true
  | .tBlHigh ..=> true
  | .tBlLow ..=> true
  | .tUndefB1 ..=> true
  | .tUndefB2 ..=> true
  | .tUndefB6 ..=> true
  | .tUndefB8 ..=> true
  | .tUndefBC ..=> true
  | .tBxH1 _ => false

end Sys2Proof
end

