-- ==== Sys2Proof/Decode.lean ====
section
/-! DEFINITION. Decoding (30_encoding.md R238, R264) and encoding (R236, R261), both written from the spec's format tables. -/

namespace Sys2Proof

/-- The condition numbers of R233. -/
def Cond.toBits : Cond → BitVec 4
  | .eq => 0b0000#4
  | .ne => 0b0001#4
  | .cs => 0b0010#4
  | .cc => 0b0011#4
  | .mi => 0b0100#4
  | .pl => 0b0101#4
  | .vs => 0b0110#4
  | .vc => 0b0111#4
  | .hi => 0b1000#4
  | .ls => 0b1001#4
  | .ge => 0b1010#4
  | .lt => 0b1011#4
  | .gt => 0b1100#4
  | .le => 0b1101#4
  | .al => 0b1110#4
  | .nv => 0b1111#4

/-- The condition of a 4-bit field (R233, R234). -/
def Cond.ofBits (b : BitVec 4) : Cond :=
  match b with
  | 0b0000#4 => .eq
  | 0b0001#4 => .ne
  | 0b0010#4 => .cs
  | 0b0011#4 => .cc
  | 0b0100#4 => .mi
  | 0b0101#4 => .pl
  | 0b0110#4 => .vs
  | 0b0111#4 => .vc
  | 0b1000#4 => .hi
  | 0b1001#4 => .ls
  | 0b1010#4 => .ge
  | 0b1011#4 => .lt
  | 0b1100#4 => .gt
  | 0b1101#4 => .le
  | 0b1110#4 => .al
  | _ => .nv

/-- The shift type numbers of R242. -/
def ShiftType.toBits : ShiftType → BitVec 2
  | .lsl => 0b00#2
  | .lsr => 0b01#2
  | .asr => 0b10#2
  | .ror => 0b11#2

/-- The shift type of a 2-bit field (R242). -/
def ShiftType.ofBits (b : BitVec 2) : ShiftType :=
  match b with
  | 0b00#2 => .lsl
  | 0b01#2 => .lsr
  | 0b10#2 => .asr
  | _ => .ror

/-- The words R252 lists: neither defined nor trapping (treatment "refuse", U5). The constructors are its groups (a) to (e). -/
inductive DecodeError where
  /-- (a): opcode TST, TEQ, CMP, CMN without S that is not MRS, MSR or BX. -/
  | statusSpace
  /-- (b): the immediate form of (a) that is not MSR. -/
  | statusImmSpace
  /-- (c): multiply space with bit 22 set. -/
  | multiplySpace
  /-- (d): swap space that is not SWP or SWPB. -/
  | swapSpace
  /-- (e): a store with SH = b10 or b11. -/
  | signedStoreSpace
  deriving DecidableEq, Repr

/-- The condition field of an ARM word, bits [31:28]. -/
def condOf (x : BitVec 32) : Cond := Cond.ofBits (x.extractLsb' 28 4)

/-- Data processing, format A1, by the opcode field (R240). -/
def decodeDpImm (x : BitVec 32) : Instr :=
  match x.extractLsb' 21 4 with
  | 0b0000#4 => .andImm (condOf x) (x.getLsbD 20) (x.extractLsb' 16 4) (x.extractLsb' 12 4) (x.extractLsb' 8 4) (x.extractLsb' 0 8)
  | 0b0001#4 => .eorImm (condOf x) (x.getLsbD 20) (x.extractLsb' 16 4) (x.extractLsb' 12 4) (x.extractLsb' 8 4) (x.extractLsb' 0 8)
  | 0b0010#4 => .subImm (condOf x) (x.getLsbD 20) (x.extractLsb' 16 4) (x.extractLsb' 12 4) (x.extractLsb' 8 4) (x.extractLsb' 0 8)
  | 0b0011#4 => .rsbImm (condOf x) (x.getLsbD 20) (x.extractLsb' 16 4) (x.extractLsb' 12 4) (x.extractLsb' 8 4) (x.extractLsb' 0 8)
  | 0b0100#4 => .addImm (condOf x) (x.getLsbD 20) (x.extractLsb' 16 4) (x.extractLsb' 12 4) (x.extractLsb' 8 4) (x.extractLsb' 0 8)
  | 0b0101#4 => .adcImm (condOf x) (x.getLsbD 20) (x.extractLsb' 16 4) (x.extractLsb' 12 4) (x.extractLsb' 8 4) (x.extractLsb' 0 8)
  | 0b0110#4 => .sbcImm (condOf x) (x.getLsbD 20) (x.extractLsb' 16 4) (x.extractLsb' 12 4) (x.extractLsb' 8 4) (x.extractLsb' 0 8)
  | 0b0111#4 => .rscImm (condOf x) (x.getLsbD 20) (x.extractLsb' 16 4) (x.extractLsb' 12 4) (x.extractLsb' 8 4) (x.extractLsb' 0 8)
  | 0b1000#4 => .tstImm (condOf x) (x.extractLsb' 16 4) (x.extractLsb' 8 4) (x.extractLsb' 0 8)
  | 0b1001#4 => .teqImm (condOf x) (x.extractLsb' 16 4) (x.extractLsb' 8 4) (x.extractLsb' 0 8)
  | 0b1010#4 => .cmpImm (condOf x) (x.extractLsb' 16 4) (x.extractLsb' 8 4) (x.extractLsb' 0 8)
  | 0b1011#4 => .cmnImm (condOf x) (x.extractLsb' 16 4) (x.extractLsb' 8 4) (x.extractLsb' 0 8)
  | 0b1100#4 => .orrImm (condOf x) (x.getLsbD 20) (x.extractLsb' 16 4) (x.extractLsb' 12 4) (x.extractLsb' 8 4) (x.extractLsb' 0 8)
  | 0b1101#4 => .movImm (condOf x) (x.getLsbD 20) (x.extractLsb' 12 4) (x.extractLsb' 8 4) (x.extractLsb' 0 8)
  | 0b1110#4 => .bicImm (condOf x) (x.getLsbD 20) (x.extractLsb' 16 4) (x.extractLsb' 12 4) (x.extractLsb' 8 4) (x.extractLsb' 0 8)
  | _ => .mvnImm (condOf x) (x.getLsbD 20) (x.extractLsb' 12 4) (x.extractLsb' 8 4) (x.extractLsb' 0 8)

/-- Data processing, format A2, by the opcode field (R240). -/
def decodeDpShift (x : BitVec 32) : Instr :=
  match x.extractLsb' 21 4 with
  | 0b0000#4 => .andShift (condOf x) (x.getLsbD 20) (x.extractLsb' 16 4) (x.extractLsb' 12 4) (x.extractLsb' 7 5) (ShiftType.ofBits (x.extractLsb' 5 2)) (x.extractLsb' 0 4)
  | 0b0001#4 => .eorShift (condOf x) (x.getLsbD 20) (x.extractLsb' 16 4) (x.extractLsb' 12 4) (x.extractLsb' 7 5) (ShiftType.ofBits (x.extractLsb' 5 2)) (x.extractLsb' 0 4)
  | 0b0010#4 => .subShift (condOf x) (x.getLsbD 20) (x.extractLsb' 16 4) (x.extractLsb' 12 4) (x.extractLsb' 7 5) (ShiftType.ofBits (x.extractLsb' 5 2)) (x.extractLsb' 0 4)
  | 0b0011#4 => .rsbShift (condOf x) (x.getLsbD 20) (x.extractLsb' 16 4) (x.extractLsb' 12 4) (x.extractLsb' 7 5) (ShiftType.ofBits (x.extractLsb' 5 2)) (x.extractLsb' 0 4)
  | 0b0100#4 => .addShift (condOf x) (x.getLsbD 20) (x.extractLsb' 16 4) (x.extractLsb' 12 4) (x.extractLsb' 7 5) (ShiftType.ofBits (x.extractLsb' 5 2)) (x.extractLsb' 0 4)
  | 0b0101#4 => .adcShift (condOf x) (x.getLsbD 20) (x.extractLsb' 16 4) (x.extractLsb' 12 4) (x.extractLsb' 7 5) (ShiftType.ofBits (x.extractLsb' 5 2)) (x.extractLsb' 0 4)
  | 0b0110#4 => .sbcShift (condOf x) (x.getLsbD 20) (x.extractLsb' 16 4) (x.extractLsb' 12 4) (x.extractLsb' 7 5) (ShiftType.ofBits (x.extractLsb' 5 2)) (x.extractLsb' 0 4)
  | 0b0111#4 => .rscShift (condOf x) (x.getLsbD 20) (x.extractLsb' 16 4) (x.extractLsb' 12 4) (x.extractLsb' 7 5) (ShiftType.ofBits (x.extractLsb' 5 2)) (x.extractLsb' 0 4)
  | 0b1000#4 => .tstShift (condOf x) (x.extractLsb' 16 4) (x.extractLsb' 7 5) (ShiftType.ofBits (x.extractLsb' 5 2)) (x.extractLsb' 0 4)
  | 0b1001#4 => .teqShift (condOf x) (x.extractLsb' 16 4) (x.extractLsb' 7 5) (ShiftType.ofBits (x.extractLsb' 5 2)) (x.extractLsb' 0 4)
  | 0b1010#4 => .cmpShift (condOf x) (x.extractLsb' 16 4) (x.extractLsb' 7 5) (ShiftType.ofBits (x.extractLsb' 5 2)) (x.extractLsb' 0 4)
  | 0b1011#4 => .cmnShift (condOf x) (x.extractLsb' 16 4) (x.extractLsb' 7 5) (ShiftType.ofBits (x.extractLsb' 5 2)) (x.extractLsb' 0 4)
  | 0b1100#4 => .orrShift (condOf x) (x.getLsbD 20) (x.extractLsb' 16 4) (x.extractLsb' 12 4) (x.extractLsb' 7 5) (ShiftType.ofBits (x.extractLsb' 5 2)) (x.extractLsb' 0 4)
  | 0b1101#4 => .movShift (condOf x) (x.getLsbD 20) (x.extractLsb' 12 4) (x.extractLsb' 7 5) (ShiftType.ofBits (x.extractLsb' 5 2)) (x.extractLsb' 0 4)
  | 0b1110#4 => .bicShift (condOf x) (x.getLsbD 20) (x.extractLsb' 16 4) (x.extractLsb' 12 4) (x.extractLsb' 7 5) (ShiftType.ofBits (x.extractLsb' 5 2)) (x.extractLsb' 0 4)
  | _ => .mvnShift (condOf x) (x.getLsbD 20) (x.extractLsb' 12 4) (x.extractLsb' 7 5) (ShiftType.ofBits (x.extractLsb' 5 2)) (x.extractLsb' 0 4)

/-- Data processing, format A3, by the opcode field (R240). -/
def decodeDpRegShift (x : BitVec 32) : Instr :=
  match x.extractLsb' 21 4 with
  | 0b0000#4 => .andRegShift (condOf x) (x.getLsbD 20) (x.extractLsb' 16 4) (x.extractLsb' 12 4) (x.extractLsb' 8 4) (ShiftType.ofBits (x.extractLsb' 5 2)) (x.extractLsb' 0 4)
  | 0b0001#4 => .eorRegShift (condOf x) (x.getLsbD 20) (x.extractLsb' 16 4) (x.extractLsb' 12 4) (x.extractLsb' 8 4) (ShiftType.ofBits (x.extractLsb' 5 2)) (x.extractLsb' 0 4)
  | 0b0010#4 => .subRegShift (condOf x) (x.getLsbD 20) (x.extractLsb' 16 4) (x.extractLsb' 12 4) (x.extractLsb' 8 4) (ShiftType.ofBits (x.extractLsb' 5 2)) (x.extractLsb' 0 4)
  | 0b0011#4 => .rsbRegShift (condOf x) (x.getLsbD 20) (x.extractLsb' 16 4) (x.extractLsb' 12 4) (x.extractLsb' 8 4) (ShiftType.ofBits (x.extractLsb' 5 2)) (x.extractLsb' 0 4)
  | 0b0100#4 => .addRegShift (condOf x) (x.getLsbD 20) (x.extractLsb' 16 4) (x.extractLsb' 12 4) (x.extractLsb' 8 4) (ShiftType.ofBits (x.extractLsb' 5 2)) (x.extractLsb' 0 4)
  | 0b0101#4 => .adcRegShift (condOf x) (x.getLsbD 20) (x.extractLsb' 16 4) (x.extractLsb' 12 4) (x.extractLsb' 8 4) (ShiftType.ofBits (x.extractLsb' 5 2)) (x.extractLsb' 0 4)
  | 0b0110#4 => .sbcRegShift (condOf x) (x.getLsbD 20) (x.extractLsb' 16 4) (x.extractLsb' 12 4) (x.extractLsb' 8 4) (ShiftType.ofBits (x.extractLsb' 5 2)) (x.extractLsb' 0 4)
  | 0b0111#4 => .rscRegShift (condOf x) (x.getLsbD 20) (x.extractLsb' 16 4) (x.extractLsb' 12 4) (x.extractLsb' 8 4) (ShiftType.ofBits (x.extractLsb' 5 2)) (x.extractLsb' 0 4)
  | 0b1000#4 => .tstRegShift (condOf x) (x.extractLsb' 16 4) (x.extractLsb' 8 4) (ShiftType.ofBits (x.extractLsb' 5 2)) (x.extractLsb' 0 4)
  | 0b1001#4 => .teqRegShift (condOf x) (x.extractLsb' 16 4) (x.extractLsb' 8 4) (ShiftType.ofBits (x.extractLsb' 5 2)) (x.extractLsb' 0 4)
  | 0b1010#4 => .cmpRegShift (condOf x) (x.extractLsb' 16 4) (x.extractLsb' 8 4) (ShiftType.ofBits (x.extractLsb' 5 2)) (x.extractLsb' 0 4)
  | 0b1011#4 => .cmnRegShift (condOf x) (x.extractLsb' 16 4) (x.extractLsb' 8 4) (ShiftType.ofBits (x.extractLsb' 5 2)) (x.extractLsb' 0 4)
  | 0b1100#4 => .orrRegShift (condOf x) (x.getLsbD 20) (x.extractLsb' 16 4) (x.extractLsb' 12 4) (x.extractLsb' 8 4) (ShiftType.ofBits (x.extractLsb' 5 2)) (x.extractLsb' 0 4)
  | 0b1101#4 => .movRegShift (condOf x) (x.getLsbD 20) (x.extractLsb' 12 4) (x.extractLsb' 8 4) (ShiftType.ofBits (x.extractLsb' 5 2)) (x.extractLsb' 0 4)
  | 0b1110#4 => .bicRegShift (condOf x) (x.getLsbD 20) (x.extractLsb' 16 4) (x.extractLsb' 12 4) (x.extractLsb' 8 4) (ShiftType.ofBits (x.extractLsb' 5 2)) (x.extractLsb' 0 4)
  | _ => .mvnRegShift (condOf x) (x.getLsbD 20) (x.extractLsb' 12 4) (x.extractLsb' 8 4) (ShiftType.ofBits (x.extractLsb' 5 2)) (x.extractLsb' 0 4)

/-- Multiply, swap and the space around them: bits [7:4] = b1001 (R238). -/
def decodeMultiplySwap (x : BitVec 32) : Except DecodeError Instr :=
  if x.extractLsb' 22 3 = 0b000#3 then
    .ok (if x.getLsbD 21 then .mla (condOf x) (x.getLsbD 20) (x.extractLsb' 16 4) (x.extractLsb' 12 4) (x.extractLsb' 8 4) (x.extractLsb' 0 4)
      else .mul (condOf x) (x.getLsbD 20) (x.extractLsb' 16 4) (x.extractLsb' 8 4) (x.extractLsb' 0 4))
  else if x.extractLsb' 23 2 = 0b01#2 then
    .ok (match x.extractLsb' 21 2 with
      | 0b00#2 => .umull (condOf x) (x.getLsbD 20) (x.extractLsb' 16 4) (x.extractLsb' 12 4) (x.extractLsb' 8 4) (x.extractLsb' 0 4)
      | 0b01#2 => .umlal (condOf x) (x.getLsbD 20) (x.extractLsb' 16 4) (x.extractLsb' 12 4) (x.extractLsb' 8 4) (x.extractLsb' 0 4)
      | 0b10#2 => .smull (condOf x) (x.getLsbD 20) (x.extractLsb' 16 4) (x.extractLsb' 12 4) (x.extractLsb' 8 4) (x.extractLsb' 0 4)
      | _ => .smlal (condOf x) (x.getLsbD 20) (x.extractLsb' 16 4) (x.extractLsb' 12 4) (x.extractLsb' 8 4) (x.extractLsb' 0 4))
  else if x.extractLsb' 23 2 = 0b10#2 ∧ x.extractLsb' 20 2 = 0b00#2 then
    .ok (if x.getLsbD 22 then .swpb (condOf x) (x.extractLsb' 16 4) (x.extractLsb' 12 4) (x.extractLsb' 0 4)
      else .swp (condOf x) (x.extractLsb' 16 4) (x.extractLsb' 12 4) (x.extractLsb' 0 4))
  else if x.getLsbD 24 then .error .swapSpace
  else .error .multiplySpace

/-- Halfword and signed transfers: bits [7] and [4] set, SH not 0 (R238, R247). -/
def decodeHalfword (x : BitVec 32) : Except DecodeError Instr :=
  if x.getLsbD 20 then
    .ok (match x.extractLsb' 5 2 with
      | 0b01#2 =>
        if x.getLsbD 22 then .ldrhImm (condOf x) (x.getLsbD 24) (x.getLsbD 23) (x.getLsbD 21) (x.extractLsb' 16 4) (x.extractLsb' 12 4) (x.extractLsb' 8 4) (x.extractLsb' 0 4)
        else .ldrhReg (condOf x) (x.getLsbD 24) (x.getLsbD 23) (x.getLsbD 21) (x.extractLsb' 16 4) (x.extractLsb' 12 4) (x.extractLsb' 0 4)
      | 0b10#2 =>
        if x.getLsbD 22 then .ldrsbImm (condOf x) (x.getLsbD 24) (x.getLsbD 23) (x.getLsbD 21) (x.extractLsb' 16 4) (x.extractLsb' 12 4) (x.extractLsb' 8 4) (x.extractLsb' 0 4)
        else .ldrsbReg (condOf x) (x.getLsbD 24) (x.getLsbD 23) (x.getLsbD 21) (x.extractLsb' 16 4) (x.extractLsb' 12 4) (x.extractLsb' 0 4)
      | _ =>
        if x.getLsbD 22 then .ldrshImm (condOf x) (x.getLsbD 24) (x.getLsbD 23) (x.getLsbD 21) (x.extractLsb' 16 4) (x.extractLsb' 12 4) (x.extractLsb' 8 4) (x.extractLsb' 0 4)
        else .ldrshReg (condOf x) (x.getLsbD 24) (x.getLsbD 23) (x.getLsbD 21) (x.extractLsb' 16 4) (x.extractLsb' 12 4) (x.extractLsb' 0 4))
  else if x.extractLsb' 5 2 = 0b01#2 then
    .ok (if x.getLsbD 22 then .strhImm (condOf x) (x.getLsbD 24) (x.getLsbD 23) (x.getLsbD 21) (x.extractLsb' 16 4) (x.extractLsb' 12 4) (x.extractLsb' 8 4) (x.extractLsb' 0 4)
      else .strhReg (condOf x) (x.getLsbD 24) (x.getLsbD 23) (x.getLsbD 21) (x.extractLsb' 16 4) (x.extractLsb' 12 4) (x.extractLsb' 0 4))
  else .error .signedStoreSpace

/-- MRS, MSR register, BX and the space around them (R238). -/
def decodeStatus (x : BitVec 32) : Except DecodeError Instr :=
  if x.extractLsb' 4 4 = 0b0000#4 then
    .ok (if x.getLsbD 21 then .msrReg (condOf x) (x.getLsbD 22) (x.extractLsb' 16 4) (x.extractLsb' 0 4)
      else .mrs (condOf x) (x.getLsbD 22) (x.extractLsb' 12 4))
  else if x.extractLsb' 4 24 = 0x12FFF1#24 then .ok (.bx (condOf x) (x.extractLsb' 0 4))
  else .error .statusSpace

/-- Single word and byte transfers, immediate offset (format A10; R245, R246). -/
def decodeLoadStoreImm (x : BitVec 32) : Instr :=
  match x.extractLsb' 20 1 ++ x.extractLsb' 22 1 with
  | 0b10#2 =>
    if x.getLsbD 24 then .ldrImmPre (condOf x) (x.getLsbD 23) (x.getLsbD 21) (x.extractLsb' 16 4) (x.extractLsb' 12 4) (x.extractLsb' 0 12)
    else if x.getLsbD 21 then .ldrtImm (condOf x) (x.getLsbD 23) (x.extractLsb' 16 4) (x.extractLsb' 12 4) (x.extractLsb' 0 12)
    else .ldrImmPost (condOf x) (x.getLsbD 23) (x.extractLsb' 16 4) (x.extractLsb' 12 4) (x.extractLsb' 0 12)
  | 0b11#2 =>
    if x.getLsbD 24 then .ldrbImmPre (condOf x) (x.getLsbD 23) (x.getLsbD 21) (x.extractLsb' 16 4) (x.extractLsb' 12 4) (x.extractLsb' 0 12)
    else if x.getLsbD 21 then .ldrbtImm (condOf x) (x.getLsbD 23) (x.extractLsb' 16 4) (x.extractLsb' 12 4) (x.extractLsb' 0 12)
    else .ldrbImmPost (condOf x) (x.getLsbD 23) (x.extractLsb' 16 4) (x.extractLsb' 12 4) (x.extractLsb' 0 12)
  | 0b00#2 =>
    if x.getLsbD 24 then .strImmPre (condOf x) (x.getLsbD 23) (x.getLsbD 21) (x.extractLsb' 16 4) (x.extractLsb' 12 4) (x.extractLsb' 0 12)
    else if x.getLsbD 21 then .strtImm (condOf x) (x.getLsbD 23) (x.extractLsb' 16 4) (x.extractLsb' 12 4) (x.extractLsb' 0 12)
    else .strImmPost (condOf x) (x.getLsbD 23) (x.extractLsb' 16 4) (x.extractLsb' 12 4) (x.extractLsb' 0 12)
  | _ =>
    if x.getLsbD 24 then .strbImmPre (condOf x) (x.getLsbD 23) (x.getLsbD 21) (x.extractLsb' 16 4) (x.extractLsb' 12 4) (x.extractLsb' 0 12)
    else if x.getLsbD 21 then .strbtImm (condOf x) (x.getLsbD 23) (x.extractLsb' 16 4) (x.extractLsb' 12 4) (x.extractLsb' 0 12)
    else .strbImmPost (condOf x) (x.getLsbD 23) (x.extractLsb' 16 4) (x.extractLsb' 12 4) (x.extractLsb' 0 12)

/-- Single word and byte transfers, register offset (format A11; R245, R246). -/
def decodeLoadStoreReg (x : BitVec 32) : Instr :=
  match x.extractLsb' 20 1 ++ x.extractLsb' 22 1 with
  | 0b10#2 =>
    if x.getLsbD 24 then .ldrRegPre (condOf x) (x.getLsbD 23) (x.getLsbD 21) (x.extractLsb' 16 4) (x.extractLsb' 12 4) (x.extractLsb' 7 5) (ShiftType.ofBits (x.extractLsb' 5 2)) (x.extractLsb' 0 4)
    else if x.getLsbD 21 then .ldrtReg (condOf x) (x.getLsbD 23) (x.extractLsb' 16 4) (x.extractLsb' 12 4) (x.extractLsb' 7 5) (ShiftType.ofBits (x.extractLsb' 5 2)) (x.extractLsb' 0 4)
    else .ldrRegPost (condOf x) (x.getLsbD 23) (x.extractLsb' 16 4) (x.extractLsb' 12 4) (x.extractLsb' 7 5) (ShiftType.ofBits (x.extractLsb' 5 2)) (x.extractLsb' 0 4)
  | 0b11#2 =>
    if x.getLsbD 24 then .ldrbRegPre (condOf x) (x.getLsbD 23) (x.getLsbD 21) (x.extractLsb' 16 4) (x.extractLsb' 12 4) (x.extractLsb' 7 5) (ShiftType.ofBits (x.extractLsb' 5 2)) (x.extractLsb' 0 4)
    else if x.getLsbD 21 then .ldrbtReg (condOf x) (x.getLsbD 23) (x.extractLsb' 16 4) (x.extractLsb' 12 4) (x.extractLsb' 7 5) (ShiftType.ofBits (x.extractLsb' 5 2)) (x.extractLsb' 0 4)
    else .ldrbRegPost (condOf x) (x.getLsbD 23) (x.extractLsb' 16 4) (x.extractLsb' 12 4) (x.extractLsb' 7 5) (ShiftType.ofBits (x.extractLsb' 5 2)) (x.extractLsb' 0 4)
  | 0b00#2 =>
    if x.getLsbD 24 then .strRegPre (condOf x) (x.getLsbD 23) (x.getLsbD 21) (x.extractLsb' 16 4) (x.extractLsb' 12 4) (x.extractLsb' 7 5) (ShiftType.ofBits (x.extractLsb' 5 2)) (x.extractLsb' 0 4)
    else if x.getLsbD 21 then .strtReg (condOf x) (x.getLsbD 23) (x.extractLsb' 16 4) (x.extractLsb' 12 4) (x.extractLsb' 7 5) (ShiftType.ofBits (x.extractLsb' 5 2)) (x.extractLsb' 0 4)
    else .strRegPost (condOf x) (x.getLsbD 23) (x.extractLsb' 16 4) (x.extractLsb' 12 4) (x.extractLsb' 7 5) (ShiftType.ofBits (x.extractLsb' 5 2)) (x.extractLsb' 0 4)
  | _ =>
    if x.getLsbD 24 then .strbRegPre (condOf x) (x.getLsbD 23) (x.getLsbD 21) (x.extractLsb' 16 4) (x.extractLsb' 12 4) (x.extractLsb' 7 5) (ShiftType.ofBits (x.extractLsb' 5 2)) (x.extractLsb' 0 4)
    else if x.getLsbD 21 then .strbtReg (condOf x) (x.getLsbD 23) (x.extractLsb' 16 4) (x.extractLsb' 12 4) (x.extractLsb' 7 5) (ShiftType.ofBits (x.extractLsb' 5 2)) (x.extractLsb' 0 4)
    else .strbRegPost (condOf x) (x.getLsbD 23) (x.extractLsb' 16 4) (x.extractLsb' 12 4) (x.extractLsb' 7 5) (ShiftType.ofBits (x.extractLsb' 5 2)) (x.extractLsb' 0 4)

/-- Block transfers (format A15; R248). -/
def decodeBlock (x : BitVec 32) : Instr :=
  match x.extractLsb' 20 1 ++ x.extractLsb' 22 1 with
  | 0b10#2 => .ldm (condOf x) (x.getLsbD 24) (x.getLsbD 23) (x.getLsbD 21) (x.extractLsb' 16 4) (x.extractLsb' 0 16)
  | 0b00#2 => .stm (condOf x) (x.getLsbD 24) (x.getLsbD 23) (x.getLsbD 21) (x.extractLsb' 16 4) (x.extractLsb' 0 16)
  | 0b01#2 => .stmUser (condOf x) (x.getLsbD 24) (x.getLsbD 23) (x.getLsbD 21) (x.extractLsb' 16 4) (x.extractLsb' 0 16)
  | _ =>
    if x.getLsbD 15 then .ldmRestore (condOf x) (x.getLsbD 24) (x.getLsbD 23) (x.getLsbD 21) (x.extractLsb' 16 4) (x.extractLsb' 0 15)
    else .ldmUser (condOf x) (x.getLsbD 24) (x.getLsbD 23) (x.getLsbD 21) (x.extractLsb' 16 4) (x.extractLsb' 0 15)

/-- The CP15 transfers with a row of their own, by bits [27:16] and [11:0] (46 R561, R562). -/
def decodeCp15 (x : BitVec 32) : Option Instr :=
  match x.extractLsb' 16 12, x.extractLsb' 0 12 with
  | 0b111000010000#12, 0b111100010000#12 => some (.mrcId (condOf x) (x.extractLsb' 12 4))
  | 0b111000010001#12, 0b111100010000#12 => some (.mrcControl (condOf x) (x.extractLsb' 12 4))
  | 0b111000000001#12, 0b111100010000#12 => some (.mcrControl (condOf x) (x.extractLsb' 12 4))
  | 0b111000010010#12, 0b111100010000#12 => some (.mrcTtb (condOf x) (x.extractLsb' 12 4))
  | 0b111000000010#12, 0b111100010000#12 => some (.mcrTtb (condOf x) (x.extractLsb' 12 4))
  | 0b111000010011#12, 0b111100010000#12 => some (.mrcDacr (condOf x) (x.extractLsb' 12 4))
  | 0b111000000011#12, 0b111100010000#12 => some (.mcrDacr (condOf x) (x.extractLsb' 12 4))
  | 0b111000010101#12, 0b111100010000#12 => some (.mrcFsr (condOf x) (x.extractLsb' 12 4))
  | 0b111000000101#12, 0b111100010000#12 => some (.mcrFsr (condOf x) (x.extractLsb' 12 4))
  | 0b111000010110#12, 0b111100010000#12 => some (.mrcFar (condOf x) (x.extractLsb' 12 4))
  | 0b111000000110#12, 0b111100010000#12 => some (.mcrFar (condOf x) (x.extractLsb' 12 4))
  | 0b111000000111#12, 0b111100010111#12 => some (.mcrInvCache (condOf x) (x.extractLsb' 12 4))
  | 0b111000001000#12, 0b111100010101#12 => some (.mcrInvTlbC5 (condOf x) (x.extractLsb' 12 4))
  | 0b111000001000#12, 0b111100110101#12 => some (.mcrInvTlbEntryC5 (condOf x) (x.extractLsb' 12 4))
  | 0b111000001000#12, 0b111100010110#12 => some (.mcrInvTlbC6 (condOf x) (x.extractLsb' 12 4))
  | 0b111000001000#12, 0b111100110110#12 => some (.mcrInvTlbEntryC6 (condOf x) (x.extractLsb' 12 4))
  | 0b111000001000#12, 0b111100010111#12 => some (.mcrInvTlbC7 (condOf x) (x.extractLsb' 12 4))
  | 0b111000001000#12, 0b111100110111#12 => some (.mcrInvTlbEntryC7 (condOf x) (x.extractLsb' 12 4))
  | 0b111000001001#12, 0b111100010000#12 => some (.mcrCacheBase0 (condOf x) (x.extractLsb' 12 4))
  | 0b111000001001#12, 0b111100010001#12 => some (.mcrCacheVictim0 (condOf x) (x.extractLsb' 12 4))
  | 0b111000001001#12, 0b111100110000#12 => some (.mcrCacheBase1 (condOf x) (x.extractLsb' 12 4))
  | 0b111000001001#12, 0b111100110001#12 => some (.mcrCacheVictim1 (condOf x) (x.extractLsb' 12 4))
  | 0b111000011010#12, 0b111100010000#12 => some (.mrcTlbLockdown (condOf x) (x.extractLsb' 12 4))
  | 0b111000001010#12, 0b111100010000#12 => some (.mcrTlbLockdown (condOf x) (x.extractLsb' 12 4))
  | 0b111000011101#12, 0b111100010000#12 => some (.mrcPid (condOf x) (x.extractLsb' 12 4))
  | 0b111000001101#12, 0b111100010000#12 => some (.mcrPid (condOf x) (x.extractLsb' 12 4))
  | 0b111000011101#12, 0b111100110000#12 => some (.mrcProcId (condOf x) (x.extractLsb' 12 4))
  | 0b111000001101#12, 0b111100110000#12 => some (.mcrProcId (condOf x) (x.extractLsb' 12 4))
  | 0b111011101111#12, 0b111111111111#12 => some (.mcrTestState (condOf x) (x.extractLsb' 12 4))
  | 0b111011111111#12, 0b111111111111#12 => some (.mrcTestState (condOf x) (x.extractLsb' 12 4))
  | 0b111001101111#12, 0b111100010011#12 => some (.mcrC15C (condOf x) (x.extractLsb' 12 4))
  | 0b111001111111#12, 0b111100010011#12 => some (.mrcC15C (condOf x) (x.extractLsb' 12 4))
  | 0b111001001111#12, 0b111101010111#12 => some (.mcrCacheCamRead (condOf x) (x.extractLsb' 12 4))
  | 0b111001001111#12, 0b111111010111#12 => some (.mcrCacheCamWrite (condOf x) (x.extractLsb' 12 4))
  | 0b111001001111#12, 0b111101011011#12 => some (.mcrCacheRamRead (condOf x) (x.extractLsb' 12 4))
  | 0b111001001111#12, 0b111111011011#12 => some (.mcrCacheRamWrite (condOf x) (x.extractLsb' 12 4))
  | 0b111001001111#12, 0b111110110111#12 => some (.mcrCacheCamMatch (condOf x) (x.extractLsb' 12 4))
  | 0b111010011111#12, 0b111100010011#12 => some (.mrcC15M (condOf x) (x.extractLsb' 12 4))
  | 0b111010011111#12, 0b111111010011#12 => some (.mrcC15MAlt (condOf x) (x.extractLsb' 12 4))
  | 0b111010001111#12, 0b111110010111#12 => some (.mcrTlbCamRead (condOf x) (x.extractLsb' 12 4))
  | 0b111010001111#12, 0b111100010111#12 => some (.mcrTlbCamWrite (condOf x) (x.extractLsb' 12 4))
  | 0b111010001111#12, 0b111110011011#12 => some (.mcrTlbRam1Read (condOf x) (x.extractLsb' 12 4))
  | 0b111010001111#12, 0b111100011011#12 => some (.mcrTlbRam1Write (condOf x) (x.extractLsb' 12 4))
  | 0b111010001111#12, 0b111110110011#12 => some (.mcrTlbRam2Read (condOf x) (x.extractLsb' 12 4))
  | 0b111010001111#12, 0b111100110011#12 => some (.mcrTlbRam2Write (condOf x) (x.extractLsb' 12 4))
  | 0b111010001111#12, 0b111110011101#12 => some (.mcrTlbCamMatch (condOf x) (x.extractLsb' 12 4))
  | _, _ => none

/-- The CP14 transfers with a row of their own, by the direction and CRn (46 R605). -/
def decodeCp14 (x : BitVec 32) : Option Instr :=
  match x.extractLsb' 16 5 with
  | 0b10000#5 => some (.mrcDccControl (condOf x) (x.extractLsb' 21 3) (x.extractLsb' 12 4) (x.extractLsb' 5 3) (x.extractLsb' 0 4))
  | 0b10001#5 => some (.mrcDccData (condOf x) (x.extractLsb' 21 3) (x.extractLsb' 12 4) (x.extractLsb' 5 3) (x.extractLsb' 0 4))
  | 0b00001#5 => some (.mcrDccData (condOf x) (x.extractLsb' 21 3) (x.extractLsb' 12 4) (x.extractLsb' 5 3) (x.extractLsb' 0 4))
  | 0b10010#5 => some (.mrcAbortStatus (condOf x) (x.extractLsb' 21 3) (x.extractLsb' 12 4) (x.extractLsb' 5 3) (x.extractLsb' 0 4))
  | 0b00010#5 => some (.mcrAbortStatus (condOf x) (x.extractLsb' 21 3) (x.extractLsb' 12 4) (x.extractLsb' 5 3) (x.extractLsb' 0 4))
  | _ => none

/-- A coprocessor register transfer that is no named row (R253). -/
def decodeGenericTransfer (x : BitVec 32) : Instr :=
  if x.getLsbD 20 then .mrc (condOf x) (x.extractLsb' 21 3) (x.extractLsb' 16 4) (x.extractLsb' 12 4) (x.extractLsb' 8 4) (x.extractLsb' 5 3) (x.extractLsb' 0 4)
  else .mcr (condOf x) (x.extractLsb' 21 3) (x.extractLsb' 16 4) (x.extractLsb' 12 4) (x.extractLsb' 8 4) (x.extractLsb' 5 3) (x.extractLsb' 0 4)

/-- Coprocessor register transfers (format A17, R253): the named row where the table has one. -/
def decodeTransfer (x : BitVec 32) : Instr :=
  if isTransferAlias (x.extractLsb' 16 12) (x.extractLsb' 0 12) then
    ((if x.extractLsb' 8 4 = 15#4 then decodeCp15 x else decodeCp14 x).getD (decodeGenericTransfer x))
  else decodeGenericTransfer x

/-- Decoding of an ARM word, the order of R238. -/
def decodeArm (x : BitVec 32) : Except DecodeError Instr :=
  match x.extractLsb' 25 3 with
  | 0b000#3 =>
    if x.getLsbD 4 && x.getLsbD 7 then
      if x.extractLsb' 5 2 = 0b00#2 then decodeMultiplySwap x else decodeHalfword x
    else if x.extractLsb' 23 2 = 0b10#2 ∧ x.getLsbD 20 = false then decodeStatus x
    else if x.getLsbD 4 then .ok (decodeDpRegShift x)
    else .ok (decodeDpShift x)
  | 0b001#3 =>
    if x.extractLsb' 23 2 = 0b10#2 ∧ x.getLsbD 20 = false then
      if x.getLsbD 21 then .ok (.msrImm (condOf x) (x.getLsbD 22) (x.extractLsb' 16 4) (x.extractLsb' 8 4) (x.extractLsb' 0 8))
      else .error .statusImmSpace
    else .ok (decodeDpImm x)
  | 0b010#3 => .ok (decodeLoadStoreImm x)
  | 0b011#3 => .ok (if x.getLsbD 4 then .undefined (condOf x) (x.extractLsb' 5 20) (x.extractLsb' 0 4) else decodeLoadStoreReg x)
  | 0b100#3 => .ok (decodeBlock x)
  | 0b101#3 => .ok (if x.getLsbD 24 then .bl (condOf x) (x.extractLsb' 0 24) else .b (condOf x) (x.extractLsb' 0 24))
  | 0b110#3 =>
    .ok (if x.getLsbD 20 then .ldc (condOf x) (x.getLsbD 24) (x.getLsbD 23) (x.getLsbD 22) (x.getLsbD 21) (x.extractLsb' 16 4) (x.extractLsb' 12 4) (x.extractLsb' 8 4) (x.extractLsb' 0 8)
      else .stc (condOf x) (x.getLsbD 24) (x.getLsbD 23) (x.getLsbD 22) (x.getLsbD 21) (x.extractLsb' 16 4) (x.extractLsb' 12 4) (x.extractLsb' 8 4) (x.extractLsb' 0 8))
  | _ =>
    if x.getLsbD 24 then .ok (.swi (condOf x) (x.extractLsb' 0 24))
    else if x.getLsbD 4 then .ok (decodeTransfer x)
    else .ok (.cdp (condOf x) (x.extractLsb' 20 4) (x.extractLsb' 16 4) (x.extractLsb' 12 4) (x.extractLsb' 8 4) (x.extractLsb' 5 3) (x.extractLsb' 0 4))

/-- Formats T1 and T2 (R262, R264). -/
def decodeThumbShiftAdd (x : BitVec 16) : Instr :=
  match x.extractLsb' 11 2 with
  | 0b00#2 => .tLslImm (x.extractLsb' 6 5) (x.extractLsb' 3 3) (x.extractLsb' 0 3)
  | 0b01#2 => .tLsrImm (x.extractLsb' 6 5) (x.extractLsb' 3 3) (x.extractLsb' 0 3)
  | 0b10#2 => .tAsrImm (x.extractLsb' 6 5) (x.extractLsb' 3 3) (x.extractLsb' 0 3)
  | _ => 
    match x.extractLsb' 9 2 with
    | 0b00#2 => .tAddReg (x.extractLsb' 6 3) (x.extractLsb' 3 3) (x.extractLsb' 0 3)
    | 0b01#2 => .tSubReg (x.extractLsb' 6 3) (x.extractLsb' 3 3) (x.extractLsb' 0 3)
    | 0b10#2 => .tAddImm3 (x.extractLsb' 6 3) (x.extractLsb' 3 3) (x.extractLsb' 0 3)
    | _ => .tSubImm3 (x.extractLsb' 6 3) (x.extractLsb' 3 3) (x.extractLsb' 0 3)

/-- Format T3 (R262). -/
def decodeThumbImm8 (x : BitVec 16) : Instr :=
  match x.extractLsb' 11 2 with
  | 0b00#2 => .tMovImm (x.extractLsb' 8 3) (x.extractLsb' 0 8)
  | 0b01#2 => .tCmpImm (x.extractLsb' 8 3) (x.extractLsb' 0 8)
  | 0b10#2 => .tAddImm8 (x.extractLsb' 8 3) (x.extractLsb' 0 8)
  | _ => .tSubImm8 (x.extractLsb' 8 3) (x.extractLsb' 0 8)

/-- Format T4 (R262). -/
def decodeThumbAlu (x : BitVec 16) : Instr :=
  match x.extractLsb' 6 4 with
  | 0b0000#4 => .tAnd (x.extractLsb' 3 3) (x.extractLsb' 0 3)
  | 0b0001#4 => .tEor (x.extractLsb' 3 3) (x.extractLsb' 0 3)
  | 0b0010#4 => .tLslReg (x.extractLsb' 3 3) (x.extractLsb' 0 3)
  | 0b0011#4 => .tLsrReg (x.extractLsb' 3 3) (x.extractLsb' 0 3)
  | 0b0100#4 => .tAsrReg (x.extractLsb' 3 3) (x.extractLsb' 0 3)
  | 0b0101#4 => .tAdc (x.extractLsb' 3 3) (x.extractLsb' 0 3)
  | 0b0110#4 => .tSbc (x.extractLsb' 3 3) (x.extractLsb' 0 3)
  | 0b0111#4 => .tRorReg (x.extractLsb' 3 3) (x.extractLsb' 0 3)
  | 0b1000#4 => .tTst (x.extractLsb' 3 3) (x.extractLsb' 0 3)
  | 0b1001#4 => .tNeg (x.extractLsb' 3 3) (x.extractLsb' 0 3)
  | 0b1010#4 => .tCmp (x.extractLsb' 3 3) (x.extractLsb' 0 3)
  | 0b1011#4 => .tCmn (x.extractLsb' 3 3) (x.extractLsb' 0 3)
  | 0b1100#4 => .tOrr (x.extractLsb' 3 3) (x.extractLsb' 0 3)
  | 0b1101#4 => .tMul (x.extractLsb' 3 3) (x.extractLsb' 0 3)
  | 0b1110#4 => .tBic (x.extractLsb' 3 3) (x.extractLsb' 0 3)
  | _ => .tMvn (x.extractLsb' 3 3) (x.extractLsb' 0 3)

/-- Format T5 (R262, R265): BX with H1 = 1 is the row named unpredictable. -/
def decodeThumbHi (x : BitVec 16) : Instr :=
  match x.extractLsb' 8 2 with
  | 0b00#2 => .tAddHi (x.getLsbD 7) (x.getLsbD 6) (x.extractLsb' 3 3) (x.extractLsb' 0 3)
  | 0b01#2 => .tCmpHi (x.getLsbD 7) (x.getLsbD 6) (x.extractLsb' 3 3) (x.extractLsb' 0 3)
  | 0b10#2 => .tMovHi (x.getLsbD 7) (x.getLsbD 6) (x.extractLsb' 3 3) (x.extractLsb' 0 3)
  | _ => if x.getLsbD 7 then .tBxH1 (x.extractLsb' 0 7) else .tBx (x.getLsbD 6) (x.extractLsb' 3 3)

/-- Formats T7 and T8 (R262): by bits [11:9]. -/
def decodeThumbRegOffset (x : BitVec 16) : Instr :=
  match x.extractLsb' 9 3 with
  | 0b000#3 => .tStrReg (x.extractLsb' 6 3) (x.extractLsb' 3 3) (x.extractLsb' 0 3)
  | 0b010#3 => .tStrbReg (x.extractLsb' 6 3) (x.extractLsb' 3 3) (x.extractLsb' 0 3)
  | 0b100#3 => .tLdrReg (x.extractLsb' 6 3) (x.extractLsb' 3 3) (x.extractLsb' 0 3)
  | 0b110#3 => .tLdrbReg (x.extractLsb' 6 3) (x.extractLsb' 3 3) (x.extractLsb' 0 3)
  | 0b001#3 => .tStrhReg (x.extractLsb' 6 3) (x.extractLsb' 3 3) (x.extractLsb' 0 3)
  | 0b101#3 => .tLdrhReg (x.extractLsb' 6 3) (x.extractLsb' 3 3) (x.extractLsb' 0 3)
  | 0b011#3 => .tLdrsbReg (x.extractLsb' 6 3) (x.extractLsb' 3 3) (x.extractLsb' 0 3)
  | _ => .tLdrshReg (x.extractLsb' 6 3) (x.extractLsb' 3 3) (x.extractLsb' 0 3)

/-- Format T9 (R262). -/
def decodeThumbImmOffset (x : BitVec 16) : Instr :=
  match x.extractLsb' 11 2 with
  | 0b00#2 => .tStrImm (x.extractLsb' 6 5) (x.extractLsb' 3 3) (x.extractLsb' 0 3)
  | 0b01#2 => .tLdrImm (x.extractLsb' 6 5) (x.extractLsb' 3 3) (x.extractLsb' 0 3)
  | 0b10#2 => .tStrbImm (x.extractLsb' 6 5) (x.extractLsb' 3 3) (x.extractLsb' 0 3)
  | _ => .tLdrbImm (x.extractLsb' 6 5) (x.extractLsb' 3 3) (x.extractLsb' 0 3)

/-- Formats T10 and T11 (R262). -/
def decodeThumbHalfSp (x : BitVec 16) : Instr :=
  match x.extractLsb' 11 2 with
  | 0b00#2 => .tStrhImm (x.extractLsb' 6 5) (x.extractLsb' 3 3) (x.extractLsb' 0 3)
  | 0b01#2 => .tLdrhImm (x.extractLsb' 6 5) (x.extractLsb' 3 3) (x.extractLsb' 0 3)
  | 0b10#2 => .tStrSp (x.extractLsb' 8 3) (x.extractLsb' 0 8)
  | _ => .tLdrSp (x.extractLsb' 8 3) (x.extractLsb' 0 8)

/-- Formats T13, T14 and the undefined space of R265 (a): bits [15:12] = b1011. -/
def decodeThumbMisc (x : BitVec 16) : Instr :=
  match x.extractLsb' 8 4 with
  | 0b0000#4 => if x.getLsbD 7 then .tSubSpImm (x.extractLsb' 0 7) else .tAddSpImm (x.extractLsb' 0 7)
  | 0b0001#4 => .tUndefB1 (x.extractLsb' 0 8)
  | 0b0010#4 => .tUndefB2 (x.extractLsb' 0 9)
  | 0b0011#4 => .tUndefB2 (x.extractLsb' 0 9)
  | 0b0100#4 => .tPush (x.getLsbD 8) (x.extractLsb' 0 8)
  | 0b0101#4 => .tPush (x.getLsbD 8) (x.extractLsb' 0 8)
  | 0b0110#4 => .tUndefB6 (x.extractLsb' 0 9)
  | 0b0111#4 => .tUndefB6 (x.extractLsb' 0 9)
  | 0b1100#4 => .tPop (x.getLsbD 8) (x.extractLsb' 0 8)
  | 0b1101#4 => .tPop (x.getLsbD 8) (x.extractLsb' 0 8)
  | 0b1110#4 => .tUndefBC (x.extractLsb' 0 9)
  | 0b1111#4 => .tUndefBC (x.extractLsb' 0 9)
  | _ => .tUndefB8 (x.extractLsb' 0 10)

/-- Formats T16, T17 and the undefined condition b1110 (R264, R265). -/
def decodeThumbCondBranch (x : BitVec 16) : Instr :=
  match x.extractLsb' 8 4 with
  | 0b0000#4 => .tBeq (x.extractLsb' 0 8)
  | 0b0001#4 => .tBne (x.extractLsb' 0 8)
  | 0b0010#4 => .tBcs (x.extractLsb' 0 8)
  | 0b0011#4 => .tBcc (x.extractLsb' 0 8)
  | 0b0100#4 => .tBmi (x.extractLsb' 0 8)
  | 0b0101#4 => .tBpl (x.extractLsb' 0 8)
  | 0b0110#4 => .tBvs (x.extractLsb' 0 8)
  | 0b0111#4 => .tBvc (x.extractLsb' 0 8)
  | 0b1000#4 => .tBhi (x.extractLsb' 0 8)
  | 0b1001#4 => .tBls (x.extractLsb' 0 8)
  | 0b1010#4 => .tBge (x.extractLsb' 0 8)
  | 0b1011#4 => .tBlt (x.extractLsb' 0 8)
  | 0b1100#4 => .tBgt (x.extractLsb' 0 8)
  | 0b1101#4 => .tBle (x.extractLsb' 0 8)
  | 0b1110#4 => .tUndefCond (x.extractLsb' 0 8)
  | _ => .tSwi (x.extractLsb' 0 8)

/-- Decoding of a Thumb halfword, the order of R264. -/
def decodeThumb (x : BitVec 16) : Instr :=
  match x.extractLsb' 13 3 with
  | 0b000#3 => decodeThumbShiftAdd x
  | 0b001#3 => decodeThumbImm8 x
  | 0b010#3 =>
    if x.getLsbD 12 then decodeThumbRegOffset x
    else if x.getLsbD 11 then .tLdrPc (x.extractLsb' 8 3) (x.extractLsb' 0 8)
    else if x.getLsbD 10 then decodeThumbHi x
    else decodeThumbAlu x
  | 0b011#3 => decodeThumbImmOffset x
  | 0b100#3 => decodeThumbHalfSp x
  | 0b101#3 =>
    if x.getLsbD 12 then decodeThumbMisc x
    else if x.getLsbD 11 then .tAddSp (x.extractLsb' 8 3) (x.extractLsb' 0 8)
    else .tAddPc (x.extractLsb' 8 3) (x.extractLsb' 0 8)
  | 0b110#3 =>
    if x.getLsbD 12 then decodeThumbCondBranch x
    else if x.getLsbD 11 then .tLdmia (x.extractLsb' 8 3) (x.extractLsb' 0 8)
    else .tStmia (x.extractLsb' 8 3) (x.extractLsb' 0 8)
  | _ =>
    match x.extractLsb' 11 2 with
    | 0b00#2 => .tB (x.extractLsb' 0 11)
    | 0b01#2 => .tUndef11101 (x.extractLsb' 0 11)
    | 0b10#2 => .tBlHigh (x.extractLsb' 0 11)
    | _ => .tBlLow (x.extractLsb' 0 11)

/-- The word of an instruction: 32 bits in ARM state, 16 in Thumb state (R230). -/
inductive Encoding where
  | arm (x : BitVec 32)
  | thumb (x : BitVec 16)
  deriving DecidableEq, Repr

/-- Decoding of either kind of word. -/
def decode : Encoding → Except DecodeError Instr
  | .arm x => decodeArm x
  | .thumb x => .ok (decodeThumb x)

/-- The word of an instruction, field by field in the order of its row (R236, R261); SBZ fields are 0 and SBO fields 1. -/
def encode : Instr → Encoding
  | .andImm cond s rn rd rot imm8 =>
    .arm (cond.toBits ++ 0b0010000#7 ++ BitVec.ofBool s ++ rn ++ rd ++ rot ++ imm8)
  | .andShift cond s rn rd amount shift rm =>
    .arm (cond.toBits ++ 0b0000000#7 ++ BitVec.ofBool s ++ rn ++ rd ++ amount ++ shift.toBits ++ 0b0#1 ++ rm)
  | .andRegShift cond s rn rd rs shift rm =>
    .arm (cond.toBits ++ 0b0000000#7 ++ BitVec.ofBool s ++ rn ++ rd ++ rs ++ 0b0#1 ++ shift.toBits ++ 0b1#1 ++ rm)
  | .eorImm cond s rn rd rot imm8 =>
    .arm (cond.toBits ++ 0b0010001#7 ++ BitVec.ofBool s ++ rn ++ rd ++ rot ++ imm8)
  | .eorShift cond s rn rd amount shift rm =>
    .arm (cond.toBits ++ 0b0000001#7 ++ BitVec.ofBool s ++ rn ++ rd ++ amount ++ shift.toBits ++ 0b0#1 ++ rm)
  | .eorRegShift cond s rn rd rs shift rm =>
    .arm (cond.toBits ++ 0b0000001#7 ++ BitVec.ofBool s ++ rn ++ rd ++ rs ++ 0b0#1 ++ shift.toBits ++ 0b1#1 ++ rm)
  | .subImm cond s rn rd rot imm8 =>
    .arm (cond.toBits ++ 0b0010010#7 ++ BitVec.ofBool s ++ rn ++ rd ++ rot ++ imm8)
  | .subShift cond s rn rd amount shift rm =>
    .arm (cond.toBits ++ 0b0000010#7 ++ BitVec.ofBool s ++ rn ++ rd ++ amount ++ shift.toBits ++ 0b0#1 ++ rm)
  | .subRegShift cond s rn rd rs shift rm =>
    .arm (cond.toBits ++ 0b0000010#7 ++ BitVec.ofBool s ++ rn ++ rd ++ rs ++ 0b0#1 ++ shift.toBits ++ 0b1#1 ++ rm)
  | .rsbImm cond s rn rd rot imm8 =>
    .arm (cond.toBits ++ 0b0010011#7 ++ BitVec.ofBool s ++ rn ++ rd ++ rot ++ imm8)
  | .rsbShift cond s rn rd amount shift rm =>
    .arm (cond.toBits ++ 0b0000011#7 ++ BitVec.ofBool s ++ rn ++ rd ++ amount ++ shift.toBits ++ 0b0#1 ++ rm)
  | .rsbRegShift cond s rn rd rs shift rm =>
    .arm (cond.toBits ++ 0b0000011#7 ++ BitVec.ofBool s ++ rn ++ rd ++ rs ++ 0b0#1 ++ shift.toBits ++ 0b1#1 ++ rm)
  | .addImm cond s rn rd rot imm8 =>
    .arm (cond.toBits ++ 0b0010100#7 ++ BitVec.ofBool s ++ rn ++ rd ++ rot ++ imm8)
  | .addShift cond s rn rd amount shift rm =>
    .arm (cond.toBits ++ 0b0000100#7 ++ BitVec.ofBool s ++ rn ++ rd ++ amount ++ shift.toBits ++ 0b0#1 ++ rm)
  | .addRegShift cond s rn rd rs shift rm =>
    .arm (cond.toBits ++ 0b0000100#7 ++ BitVec.ofBool s ++ rn ++ rd ++ rs ++ 0b0#1 ++ shift.toBits ++ 0b1#1 ++ rm)
  | .adcImm cond s rn rd rot imm8 =>
    .arm (cond.toBits ++ 0b0010101#7 ++ BitVec.ofBool s ++ rn ++ rd ++ rot ++ imm8)
  | .adcShift cond s rn rd amount shift rm =>
    .arm (cond.toBits ++ 0b0000101#7 ++ BitVec.ofBool s ++ rn ++ rd ++ amount ++ shift.toBits ++ 0b0#1 ++ rm)
  | .adcRegShift cond s rn rd rs shift rm =>
    .arm (cond.toBits ++ 0b0000101#7 ++ BitVec.ofBool s ++ rn ++ rd ++ rs ++ 0b0#1 ++ shift.toBits ++ 0b1#1 ++ rm)
  | .sbcImm cond s rn rd rot imm8 =>
    .arm (cond.toBits ++ 0b0010110#7 ++ BitVec.ofBool s ++ rn ++ rd ++ rot ++ imm8)
  | .sbcShift cond s rn rd amount shift rm =>
    .arm (cond.toBits ++ 0b0000110#7 ++ BitVec.ofBool s ++ rn ++ rd ++ amount ++ shift.toBits ++ 0b0#1 ++ rm)
  | .sbcRegShift cond s rn rd rs shift rm =>
    .arm (cond.toBits ++ 0b0000110#7 ++ BitVec.ofBool s ++ rn ++ rd ++ rs ++ 0b0#1 ++ shift.toBits ++ 0b1#1 ++ rm)
  | .rscImm cond s rn rd rot imm8 =>
    .arm (cond.toBits ++ 0b0010111#7 ++ BitVec.ofBool s ++ rn ++ rd ++ rot ++ imm8)
  | .rscShift cond s rn rd amount shift rm =>
    .arm (cond.toBits ++ 0b0000111#7 ++ BitVec.ofBool s ++ rn ++ rd ++ amount ++ shift.toBits ++ 0b0#1 ++ rm)
  | .rscRegShift cond s rn rd rs shift rm =>
    .arm (cond.toBits ++ 0b0000111#7 ++ BitVec.ofBool s ++ rn ++ rd ++ rs ++ 0b0#1 ++ shift.toBits ++ 0b1#1 ++ rm)
  | .tstImm cond rn rot imm8 =>
    .arm (cond.toBits ++ 0b00110001#8 ++ rn ++ 0b0000#4 ++ rot ++ imm8)
  | .tstShift cond rn amount shift rm =>
    .arm (cond.toBits ++ 0b00010001#8 ++ rn ++ 0b0000#4 ++ amount ++ shift.toBits ++ 0b0#1 ++ rm)
  | .tstRegShift cond rn rs shift rm =>
    .arm (cond.toBits ++ 0b00010001#8 ++ rn ++ 0b0000#4 ++ rs ++ 0b0#1 ++ shift.toBits ++ 0b1#1 ++ rm)
  | .teqImm cond rn rot imm8 =>
    .arm (cond.toBits ++ 0b00110011#8 ++ rn ++ 0b0000#4 ++ rot ++ imm8)
  | .teqShift cond rn amount shift rm =>
    .arm (cond.toBits ++ 0b00010011#8 ++ rn ++ 0b0000#4 ++ amount ++ shift.toBits ++ 0b0#1 ++ rm)
  | .teqRegShift cond rn rs shift rm =>
    .arm (cond.toBits ++ 0b00010011#8 ++ rn ++ 0b0000#4 ++ rs ++ 0b0#1 ++ shift.toBits ++ 0b1#1 ++ rm)
  | .cmpImm cond rn rot imm8 =>
    .arm (cond.toBits ++ 0b00110101#8 ++ rn ++ 0b0000#4 ++ rot ++ imm8)
  | .cmpShift cond rn amount shift rm =>
    .arm (cond.toBits ++ 0b00010101#8 ++ rn ++ 0b0000#4 ++ amount ++ shift.toBits ++ 0b0#1 ++ rm)
  | .cmpRegShift cond rn rs shift rm =>
    .arm (cond.toBits ++ 0b00010101#8 ++ rn ++ 0b0000#4 ++ rs ++ 0b0#1 ++ shift.toBits ++ 0b1#1 ++ rm)
  | .cmnImm cond rn rot imm8 =>
    .arm (cond.toBits ++ 0b00110111#8 ++ rn ++ 0b0000#4 ++ rot ++ imm8)
  | .cmnShift cond rn amount shift rm =>
    .arm (cond.toBits ++ 0b00010111#8 ++ rn ++ 0b0000#4 ++ amount ++ shift.toBits ++ 0b0#1 ++ rm)
  | .cmnRegShift cond rn rs shift rm =>
    .arm (cond.toBits ++ 0b00010111#8 ++ rn ++ 0b0000#4 ++ rs ++ 0b0#1 ++ shift.toBits ++ 0b1#1 ++ rm)
  | .orrImm cond s rn rd rot imm8 =>
    .arm (cond.toBits ++ 0b0011100#7 ++ BitVec.ofBool s ++ rn ++ rd ++ rot ++ imm8)
  | .orrShift cond s rn rd amount shift rm =>
    .arm (cond.toBits ++ 0b0001100#7 ++ BitVec.ofBool s ++ rn ++ rd ++ amount ++ shift.toBits ++ 0b0#1 ++ rm)
  | .orrRegShift cond s rn rd rs shift rm =>
    .arm (cond.toBits ++ 0b0001100#7 ++ BitVec.ofBool s ++ rn ++ rd ++ rs ++ 0b0#1 ++ shift.toBits ++ 0b1#1 ++ rm)
  | .movImm cond s rd rot imm8 =>
    .arm (cond.toBits ++ 0b0011101#7 ++ BitVec.ofBool s ++ 0b0000#4 ++ rd ++ rot ++ imm8)
  | .movShift cond s rd amount shift rm =>
    .arm (cond.toBits ++ 0b0001101#7 ++ BitVec.ofBool s ++ 0b0000#4 ++ rd ++ amount ++ shift.toBits ++ 0b0#1 ++ rm)
  | .movRegShift cond s rd rs shift rm =>
    .arm (cond.toBits ++ 0b0001101#7 ++ BitVec.ofBool s ++ 0b0000#4 ++ rd ++ rs ++ 0b0#1 ++ shift.toBits ++ 0b1#1 ++ rm)
  | .bicImm cond s rn rd rot imm8 =>
    .arm (cond.toBits ++ 0b0011110#7 ++ BitVec.ofBool s ++ rn ++ rd ++ rot ++ imm8)
  | .bicShift cond s rn rd amount shift rm =>
    .arm (cond.toBits ++ 0b0001110#7 ++ BitVec.ofBool s ++ rn ++ rd ++ amount ++ shift.toBits ++ 0b0#1 ++ rm)
  | .bicRegShift cond s rn rd rs shift rm =>
    .arm (cond.toBits ++ 0b0001110#7 ++ BitVec.ofBool s ++ rn ++ rd ++ rs ++ 0b0#1 ++ shift.toBits ++ 0b1#1 ++ rm)
  | .mvnImm cond s rd rot imm8 =>
    .arm (cond.toBits ++ 0b0011111#7 ++ BitVec.ofBool s ++ 0b0000#4 ++ rd ++ rot ++ imm8)
  | .mvnShift cond s rd amount shift rm =>
    .arm (cond.toBits ++ 0b0001111#7 ++ BitVec.ofBool s ++ 0b0000#4 ++ rd ++ amount ++ shift.toBits ++ 0b0#1 ++ rm)
  | .mvnRegShift cond s rd rs shift rm =>
    .arm (cond.toBits ++ 0b0001111#7 ++ BitVec.ofBool s ++ 0b0000#4 ++ rd ++ rs ++ 0b0#1 ++ shift.toBits ++ 0b1#1 ++ rm)
  | .mul cond s rd rs rm =>
    .arm (cond.toBits ++ 0b0000000#7 ++ BitVec.ofBool s ++ rd ++ 0b0000#4 ++ rs ++ 0b1001#4 ++ rm)
  | .mla cond s rd rn rs rm =>
    .arm (cond.toBits ++ 0b0000001#7 ++ BitVec.ofBool s ++ rd ++ rn ++ rs ++ 0b1001#4 ++ rm)
  | .umull cond s rdHi rdLo rs rm =>
    .arm (cond.toBits ++ 0b0000100#7 ++ BitVec.ofBool s ++ rdHi ++ rdLo ++ rs ++ 0b1001#4 ++ rm)
  | .umlal cond s rdHi rdLo rs rm =>
    .arm (cond.toBits ++ 0b0000101#7 ++ BitVec.ofBool s ++ rdHi ++ rdLo ++ rs ++ 0b1001#4 ++ rm)
  | .smull cond s rdHi rdLo rs rm =>
    .arm (cond.toBits ++ 0b0000110#7 ++ BitVec.ofBool s ++ rdHi ++ rdLo ++ rs ++ 0b1001#4 ++ rm)
  | .smlal cond s rdHi rdLo rs rm =>
    .arm (cond.toBits ++ 0b0000111#7 ++ BitVec.ofBool s ++ rdHi ++ rdLo ++ rs ++ 0b1001#4 ++ rm)
  | .mrs cond r rd =>
    .arm (cond.toBits ++ 0b00010#5 ++ BitVec.ofBool r ++ 0b00#2 ++ 0b1111#4 ++ rd ++ 0b0000#4 ++ 0b0000#4 ++ 0b0000#4)
  | .msrImm cond r mask rot imm8 =>
    .arm (cond.toBits ++ 0b00110#5 ++ BitVec.ofBool r ++ 0b10#2 ++ mask ++ 0b1111#4 ++ rot ++ imm8)
  | .msrReg cond r mask rm =>
    .arm (cond.toBits ++ 0b00010#5 ++ BitVec.ofBool r ++ 0b10#2 ++ mask ++ 0b1111#4 ++ 0b0000#4 ++ 0b0000#4 ++ rm)
  | .bx cond rm =>
    .arm (cond.toBits ++ 0b000100101111111111110001#24 ++ rm)
  | .ldrImmPre cond u w rn rd imm12 =>
    .arm (cond.toBits ++ 0b0101#4 ++ BitVec.ofBool u ++ 0b0#1 ++ BitVec.ofBool w ++ 0b1#1 ++ rn ++ rd ++ imm12)
  | .ldrImmPost cond u rn rd imm12 =>
    .arm (cond.toBits ++ 0b0100#4 ++ BitVec.ofBool u ++ 0b001#3 ++ rn ++ rd ++ imm12)
  | .ldrtImm cond u rn rd imm12 =>
    .arm (cond.toBits ++ 0b0100#4 ++ BitVec.ofBool u ++ 0b011#3 ++ rn ++ rd ++ imm12)
  | .ldrRegPre cond u w rn rd amount shift rm =>
    .arm (cond.toBits ++ 0b0111#4 ++ BitVec.ofBool u ++ 0b0#1 ++ BitVec.ofBool w ++ 0b1#1 ++ rn ++ rd ++ amount ++ shift.toBits ++ 0b0#1 ++ rm)
  | .ldrRegPost cond u rn rd amount shift rm =>
    .arm (cond.toBits ++ 0b0110#4 ++ BitVec.ofBool u ++ 0b001#3 ++ rn ++ rd ++ amount ++ shift.toBits ++ 0b0#1 ++ rm)
  | .ldrtReg cond u rn rd amount shift rm =>
    .arm (cond.toBits ++ 0b0110#4 ++ BitVec.ofBool u ++ 0b011#3 ++ rn ++ rd ++ amount ++ shift.toBits ++ 0b0#1 ++ rm)
  | .ldrbImmPre cond u w rn rd imm12 =>
    .arm (cond.toBits ++ 0b0101#4 ++ BitVec.ofBool u ++ 0b1#1 ++ BitVec.ofBool w ++ 0b1#1 ++ rn ++ rd ++ imm12)
  | .ldrbImmPost cond u rn rd imm12 =>
    .arm (cond.toBits ++ 0b0100#4 ++ BitVec.ofBool u ++ 0b101#3 ++ rn ++ rd ++ imm12)
  | .ldrbtImm cond u rn rd imm12 =>
    .arm (cond.toBits ++ 0b0100#4 ++ BitVec.ofBool u ++ 0b111#3 ++ rn ++ rd ++ imm12)
  | .ldrbRegPre cond u w rn rd amount shift rm =>
    .arm (cond.toBits ++ 0b0111#4 ++ BitVec.ofBool u ++ 0b1#1 ++ BitVec.ofBool w ++ 0b1#1 ++ rn ++ rd ++ amount ++ shift.toBits ++ 0b0#1 ++ rm)
  | .ldrbRegPost cond u rn rd amount shift rm =>
    .arm (cond.toBits ++ 0b0110#4 ++ BitVec.ofBool u ++ 0b101#3 ++ rn ++ rd ++ amount ++ shift.toBits ++ 0b0#1 ++ rm)
  | .ldrbtReg cond u rn rd amount shift rm =>
    .arm (cond.toBits ++ 0b0110#4 ++ BitVec.ofBool u ++ 0b111#3 ++ rn ++ rd ++ amount ++ shift.toBits ++ 0b0#1 ++ rm)
  | .strImmPre cond u w rn rd imm12 =>
    .arm (cond.toBits ++ 0b0101#4 ++ BitVec.ofBool u ++ 0b0#1 ++ BitVec.ofBool w ++ 0b0#1 ++ rn ++ rd ++ imm12)
  | .strImmPost cond u rn rd imm12 =>
    .arm (cond.toBits ++ 0b0100#4 ++ BitVec.ofBool u ++ 0b000#3 ++ rn ++ rd ++ imm12)
  | .strtImm cond u rn rd imm12 =>
    .arm (cond.toBits ++ 0b0100#4 ++ BitVec.ofBool u ++ 0b010#3 ++ rn ++ rd ++ imm12)
  | .strRegPre cond u w rn rd amount shift rm =>
    .arm (cond.toBits ++ 0b0111#4 ++ BitVec.ofBool u ++ 0b0#1 ++ BitVec.ofBool w ++ 0b0#1 ++ rn ++ rd ++ amount ++ shift.toBits ++ 0b0#1 ++ rm)
  | .strRegPost cond u rn rd amount shift rm =>
    .arm (cond.toBits ++ 0b0110#4 ++ BitVec.ofBool u ++ 0b000#3 ++ rn ++ rd ++ amount ++ shift.toBits ++ 0b0#1 ++ rm)
  | .strtReg cond u rn rd amount shift rm =>
    .arm (cond.toBits ++ 0b0110#4 ++ BitVec.ofBool u ++ 0b010#3 ++ rn ++ rd ++ amount ++ shift.toBits ++ 0b0#1 ++ rm)
  | .strbImmPre cond u w rn rd imm12 =>
    .arm (cond.toBits ++ 0b0101#4 ++ BitVec.ofBool u ++ 0b1#1 ++ BitVec.ofBool w ++ 0b0#1 ++ rn ++ rd ++ imm12)
  | .strbImmPost cond u rn rd imm12 =>
    .arm (cond.toBits ++ 0b0100#4 ++ BitVec.ofBool u ++ 0b100#3 ++ rn ++ rd ++ imm12)
  | .strbtImm cond u rn rd imm12 =>
    .arm (cond.toBits ++ 0b0100#4 ++ BitVec.ofBool u ++ 0b110#3 ++ rn ++ rd ++ imm12)
  | .strbRegPre cond u w rn rd amount shift rm =>
    .arm (cond.toBits ++ 0b0111#4 ++ BitVec.ofBool u ++ 0b1#1 ++ BitVec.ofBool w ++ 0b0#1 ++ rn ++ rd ++ amount ++ shift.toBits ++ 0b0#1 ++ rm)
  | .strbRegPost cond u rn rd amount shift rm =>
    .arm (cond.toBits ++ 0b0110#4 ++ BitVec.ofBool u ++ 0b100#3 ++ rn ++ rd ++ amount ++ shift.toBits ++ 0b0#1 ++ rm)
  | .strbtReg cond u rn rd amount shift rm =>
    .arm (cond.toBits ++ 0b0110#4 ++ BitVec.ofBool u ++ 0b110#3 ++ rn ++ rd ++ amount ++ shift.toBits ++ 0b0#1 ++ rm)
  | .ldrhImm cond p u w rn rd immHi immLo =>
    .arm (cond.toBits ++ 0b000#3 ++ BitVec.ofBool p ++ BitVec.ofBool u ++ 0b1#1 ++ BitVec.ofBool w ++ 0b1#1 ++ rn ++ rd ++ immHi ++ 0b1011#4 ++ immLo)
  | .ldrhReg cond p u w rn rd rm =>
    .arm (cond.toBits ++ 0b000#3 ++ BitVec.ofBool p ++ BitVec.ofBool u ++ 0b0#1 ++ BitVec.ofBool w ++ 0b1#1 ++ rn ++ rd ++ 0b0000#4 ++ 0b1011#4 ++ rm)
  | .ldrsbImm cond p u w rn rd immHi immLo =>
    .arm (cond.toBits ++ 0b000#3 ++ BitVec.ofBool p ++ BitVec.ofBool u ++ 0b1#1 ++ BitVec.ofBool w ++ 0b1#1 ++ rn ++ rd ++ immHi ++ 0b1101#4 ++ immLo)
  | .ldrsbReg cond p u w rn rd rm =>
    .arm (cond.toBits ++ 0b000#3 ++ BitVec.ofBool p ++ BitVec.ofBool u ++ 0b0#1 ++ BitVec.ofBool w ++ 0b1#1 ++ rn ++ rd ++ 0b0000#4 ++ 0b1101#4 ++ rm)
  | .ldrshImm cond p u w rn rd immHi immLo =>
    .arm (cond.toBits ++ 0b000#3 ++ BitVec.ofBool p ++ BitVec.ofBool u ++ 0b1#1 ++ BitVec.ofBool w ++ 0b1#1 ++ rn ++ rd ++ immHi ++ 0b1111#4 ++ immLo)
  | .ldrshReg cond p u w rn rd rm =>
    .arm (cond.toBits ++ 0b000#3 ++ BitVec.ofBool p ++ BitVec.ofBool u ++ 0b0#1 ++ BitVec.ofBool w ++ 0b1#1 ++ rn ++ rd ++ 0b0000#4 ++ 0b1111#4 ++ rm)
  | .strhImm cond p u w rn rd immHi immLo =>
    .arm (cond.toBits ++ 0b000#3 ++ BitVec.ofBool p ++ BitVec.ofBool u ++ 0b1#1 ++ BitVec.ofBool w ++ 0b0#1 ++ rn ++ rd ++ immHi ++ 0b1011#4 ++ immLo)
  | .strhReg cond p u w rn rd rm =>
    .arm (cond.toBits ++ 0b000#3 ++ BitVec.ofBool p ++ BitVec.ofBool u ++ 0b0#1 ++ BitVec.ofBool w ++ 0b0#1 ++ rn ++ rd ++ 0b0000#4 ++ 0b1011#4 ++ rm)
  | .ldm cond p u w rn regs =>
    .arm (cond.toBits ++ 0b100#3 ++ BitVec.ofBool p ++ BitVec.ofBool u ++ 0b0#1 ++ BitVec.ofBool w ++ 0b1#1 ++ rn ++ regs)
  | .stm cond p u w rn regs =>
    .arm (cond.toBits ++ 0b100#3 ++ BitVec.ofBool p ++ BitVec.ofBool u ++ 0b0#1 ++ BitVec.ofBool w ++ 0b0#1 ++ rn ++ regs)
  | .ldmUser cond p u w rn regs =>
    .arm (cond.toBits ++ 0b100#3 ++ BitVec.ofBool p ++ BitVec.ofBool u ++ 0b1#1 ++ BitVec.ofBool w ++ 0b1#1 ++ rn ++ 0b0#1 ++ regs)
  | .ldmRestore cond p u w rn regs =>
    .arm (cond.toBits ++ 0b100#3 ++ BitVec.ofBool p ++ BitVec.ofBool u ++ 0b1#1 ++ BitVec.ofBool w ++ 0b1#1 ++ rn ++ 0b1#1 ++ regs)
  | .stmUser cond p u w rn regs =>
    .arm (cond.toBits ++ 0b100#3 ++ BitVec.ofBool p ++ BitVec.ofBool u ++ 0b1#1 ++ BitVec.ofBool w ++ 0b0#1 ++ rn ++ regs)
  | .swp cond rn rd rm =>
    .arm (cond.toBits ++ 0b00010000#8 ++ rn ++ rd ++ 0b0000#4 ++ 0b1001#4 ++ rm)
  | .swpb cond rn rd rm =>
    .arm (cond.toBits ++ 0b00010100#8 ++ rn ++ rd ++ 0b0000#4 ++ 0b1001#4 ++ rm)
  | .b cond off24 =>
    .arm (cond.toBits ++ 0b1010#4 ++ off24)
  | .bl cond off24 =>
    .arm (cond.toBits ++ 0b1011#4 ++ off24)
  | .swi cond comment =>
    .arm (cond.toBits ++ 0b1111#4 ++ comment)
  | .cdp cond op1 crn crd cp op2 crm =>
    .arm (cond.toBits ++ 0b1110#4 ++ op1 ++ crn ++ crd ++ cp ++ op2 ++ 0b0#1 ++ crm)
  | .mcr cond op1 crn rd cp op2 crm =>
    .arm (cond.toBits ++ 0b1110#4 ++ op1 ++ 0b0#1 ++ crn ++ rd ++ cp ++ op2 ++ 0b1#1 ++ crm)
  | .mrc cond op1 crn rd cp op2 crm =>
    .arm (cond.toBits ++ 0b1110#4 ++ op1 ++ 0b1#1 ++ crn ++ rd ++ cp ++ op2 ++ 0b1#1 ++ crm)
  | .ldc cond p u n w rn crd cp off8 =>
    .arm (cond.toBits ++ 0b110#3 ++ BitVec.ofBool p ++ BitVec.ofBool u ++ BitVec.ofBool n ++ BitVec.ofBool w ++ 0b1#1 ++ rn ++ crd ++ cp ++ off8)
  | .stc cond p u n w rn crd cp off8 =>
    .arm (cond.toBits ++ 0b110#3 ++ BitVec.ofBool p ++ BitVec.ofBool u ++ BitVec.ofBool n ++ BitVec.ofBool w ++ 0b0#1 ++ rn ++ crd ++ cp ++ off8)
  | .undefined cond payload payloadLo =>
    .arm (cond.toBits ++ 0b011#3 ++ payload ++ 0b1#1 ++ payloadLo)
  | .mrcId cond rd =>
    .arm (cond.toBits ++ 0b111000010000#12 ++ rd ++ 0b111100010000#12)
  | .mrcControl cond rd =>
    .arm (cond.toBits ++ 0b111000010001#12 ++ rd ++ 0b111100010000#12)
  | .mcrControl cond rd =>
    .arm (cond.toBits ++ 0b111000000001#12 ++ rd ++ 0b111100010000#12)
  | .mrcTtb cond rd =>
    .arm (cond.toBits ++ 0b111000010010#12 ++ rd ++ 0b111100010000#12)
  | .mcrTtb cond rd =>
    .arm (cond.toBits ++ 0b111000000010#12 ++ rd ++ 0b111100010000#12)
  | .mrcDacr cond rd =>
    .arm (cond.toBits ++ 0b111000010011#12 ++ rd ++ 0b111100010000#12)
  | .mcrDacr cond rd =>
    .arm (cond.toBits ++ 0b111000000011#12 ++ rd ++ 0b111100010000#12)
  | .mrcFsr cond rd =>
    .arm (cond.toBits ++ 0b111000010101#12 ++ rd ++ 0b111100010000#12)
  | .mcrFsr cond rd =>
    .arm (cond.toBits ++ 0b111000000101#12 ++ rd ++ 0b111100010000#12)
  | .mrcFar cond rd =>
    .arm (cond.toBits ++ 0b111000010110#12 ++ rd ++ 0b111100010000#12)
  | .mcrFar cond rd =>
    .arm (cond.toBits ++ 0b111000000110#12 ++ rd ++ 0b111100010000#12)
  | .mcrInvCache cond rd =>
    .arm (cond.toBits ++ 0b111000000111#12 ++ rd ++ 0b111100010111#12)
  | .mcrInvTlbC5 cond rd =>
    .arm (cond.toBits ++ 0b111000001000#12 ++ rd ++ 0b111100010101#12)
  | .mcrInvTlbEntryC5 cond rd =>
    .arm (cond.toBits ++ 0b111000001000#12 ++ rd ++ 0b111100110101#12)
  | .mcrInvTlbC6 cond rd =>
    .arm (cond.toBits ++ 0b111000001000#12 ++ rd ++ 0b111100010110#12)
  | .mcrInvTlbEntryC6 cond rd =>
    .arm (cond.toBits ++ 0b111000001000#12 ++ rd ++ 0b111100110110#12)
  | .mcrInvTlbC7 cond rd =>
    .arm (cond.toBits ++ 0b111000001000#12 ++ rd ++ 0b111100010111#12)
  | .mcrInvTlbEntryC7 cond rd =>
    .arm (cond.toBits ++ 0b111000001000#12 ++ rd ++ 0b111100110111#12)
  | .mcrCacheBase0 cond rd =>
    .arm (cond.toBits ++ 0b111000001001#12 ++ rd ++ 0b111100010000#12)
  | .mcrCacheVictim0 cond rd =>
    .arm (cond.toBits ++ 0b111000001001#12 ++ rd ++ 0b111100010001#12)
  | .mcrCacheBase1 cond rd =>
    .arm (cond.toBits ++ 0b111000001001#12 ++ rd ++ 0b111100110000#12)
  | .mcrCacheVictim1 cond rd =>
    .arm (cond.toBits ++ 0b111000001001#12 ++ rd ++ 0b111100110001#12)
  | .mrcTlbLockdown cond rd =>
    .arm (cond.toBits ++ 0b111000011010#12 ++ rd ++ 0b111100010000#12)
  | .mcrTlbLockdown cond rd =>
    .arm (cond.toBits ++ 0b111000001010#12 ++ rd ++ 0b111100010000#12)
  | .mrcPid cond rd =>
    .arm (cond.toBits ++ 0b111000011101#12 ++ rd ++ 0b111100010000#12)
  | .mcrPid cond rd =>
    .arm (cond.toBits ++ 0b111000001101#12 ++ rd ++ 0b111100010000#12)
  | .mrcProcId cond rd =>
    .arm (cond.toBits ++ 0b111000011101#12 ++ rd ++ 0b111100110000#12)
  | .mcrProcId cond rd =>
    .arm (cond.toBits ++ 0b111000001101#12 ++ rd ++ 0b111100110000#12)
  | .mcrTestState cond rd =>
    .arm (cond.toBits ++ 0b111011101111#12 ++ rd ++ 0b111111111111#12)
  | .mrcTestState cond rd =>
    .arm (cond.toBits ++ 0b111011111111#12 ++ rd ++ 0b111111111111#12)
  | .mcrC15C cond rd =>
    .arm (cond.toBits ++ 0b111001101111#12 ++ rd ++ 0b111100010011#12)
  | .mrcC15C cond rd =>
    .arm (cond.toBits ++ 0b111001111111#12 ++ rd ++ 0b111100010011#12)
  | .mcrCacheCamRead cond rd =>
    .arm (cond.toBits ++ 0b111001001111#12 ++ rd ++ 0b111101010111#12)
  | .mcrCacheCamWrite cond rd =>
    .arm (cond.toBits ++ 0b111001001111#12 ++ rd ++ 0b111111010111#12)
  | .mcrCacheRamRead cond rd =>
    .arm (cond.toBits ++ 0b111001001111#12 ++ rd ++ 0b111101011011#12)
  | .mcrCacheRamWrite cond rd =>
    .arm (cond.toBits ++ 0b111001001111#12 ++ rd ++ 0b111111011011#12)
  | .mcrCacheCamMatch cond rd =>
    .arm (cond.toBits ++ 0b111001001111#12 ++ rd ++ 0b111110110111#12)
  | .mrcC15M cond rd =>
    .arm (cond.toBits ++ 0b111010011111#12 ++ rd ++ 0b111100010011#12)
  | .mrcC15MAlt cond rd =>
    .arm (cond.toBits ++ 0b111010011111#12 ++ rd ++ 0b111111010011#12)
  | .mcrTlbCamRead cond rd =>
    .arm (cond.toBits ++ 0b111010001111#12 ++ rd ++ 0b111110010111#12)
  | .mcrTlbCamWrite cond rd =>
    .arm (cond.toBits ++ 0b111010001111#12 ++ rd ++ 0b111100010111#12)
  | .mcrTlbRam1Read cond rd =>
    .arm (cond.toBits ++ 0b111010001111#12 ++ rd ++ 0b111110011011#12)
  | .mcrTlbRam1Write cond rd =>
    .arm (cond.toBits ++ 0b111010001111#12 ++ rd ++ 0b111100011011#12)
  | .mcrTlbRam2Read cond rd =>
    .arm (cond.toBits ++ 0b111010001111#12 ++ rd ++ 0b111110110011#12)
  | .mcrTlbRam2Write cond rd =>
    .arm (cond.toBits ++ 0b111010001111#12 ++ rd ++ 0b111100110011#12)
  | .mcrTlbCamMatch cond rd =>
    .arm (cond.toBits ++ 0b111010001111#12 ++ rd ++ 0b111110011101#12)
  | .mrcDccControl cond op1 rd op2 crm =>
    .arm (cond.toBits ++ 0b1110#4 ++ op1 ++ 0b10000#5 ++ rd ++ 0b1110#4 ++ op2 ++ 0b1#1 ++ crm)
  | .mrcDccData cond op1 rd op2 crm =>
    .arm (cond.toBits ++ 0b1110#4 ++ op1 ++ 0b10001#5 ++ rd ++ 0b1110#4 ++ op2 ++ 0b1#1 ++ crm)
  | .mcrDccData cond op1 rd op2 crm =>
    .arm (cond.toBits ++ 0b1110#4 ++ op1 ++ 0b00001#5 ++ rd ++ 0b1110#4 ++ op2 ++ 0b1#1 ++ crm)
  | .mrcAbortStatus cond op1 rd op2 crm =>
    .arm (cond.toBits ++ 0b1110#4 ++ op1 ++ 0b10010#5 ++ rd ++ 0b1110#4 ++ op2 ++ 0b1#1 ++ crm)
  | .mcrAbortStatus cond op1 rd op2 crm =>
    .arm (cond.toBits ++ 0b1110#4 ++ op1 ++ 0b00010#5 ++ rd ++ 0b1110#4 ++ op2 ++ 0b1#1 ++ crm)
  | .tLslImm imm5 rs rd =>
    .thumb (0b00000#5 ++ imm5 ++ rs ++ rd)
  | .tLsrImm imm5 rs rd =>
    .thumb (0b00001#5 ++ imm5 ++ rs ++ rd)
  | .tAsrImm imm5 rs rd =>
    .thumb (0b00010#5 ++ imm5 ++ rs ++ rd)
  | .tAddReg rn rs rd =>
    .thumb (0b0001100#7 ++ rn ++ rs ++ rd)
  | .tSubReg rn rs rd =>
    .thumb (0b0001101#7 ++ rn ++ rs ++ rd)
  | .tAddImm3 imm3 rs rd =>
    .thumb (0b0001110#7 ++ imm3 ++ rs ++ rd)
  | .tSubImm3 imm3 rs rd =>
    .thumb (0b0001111#7 ++ imm3 ++ rs ++ rd)
  | .tMovImm rd imm8 =>
    .thumb (0b00100#5 ++ rd ++ imm8)
  | .tCmpImm rd imm8 =>
    .thumb (0b00101#5 ++ rd ++ imm8)
  | .tAddImm8 rd imm8 =>
    .thumb (0b00110#5 ++ rd ++ imm8)
  | .tSubImm8 rd imm8 =>
    .thumb (0b00111#5 ++ rd ++ imm8)
  | .tAnd rs rd =>
    .thumb (0b0100000000#10 ++ rs ++ rd)
  | .tEor rs rd =>
    .thumb (0b0100000001#10 ++ rs ++ rd)
  | .tLslReg rs rd =>
    .thumb (0b0100000010#10 ++ rs ++ rd)
  | .tLsrReg rs rd =>
    .thumb (0b0100000011#10 ++ rs ++ rd)
  | .tAsrReg rs rd =>
    .thumb (0b0100000100#10 ++ rs ++ rd)
  | .tAdc rs rd =>
    .thumb (0b0100000101#10 ++ rs ++ rd)
  | .tSbc rs rd =>
    .thumb (0b0100000110#10 ++ rs ++ rd)
  | .tRorReg rs rd =>
    .thumb (0b0100000111#10 ++ rs ++ rd)
  | .tTst rs rd =>
    .thumb (0b0100001000#10 ++ rs ++ rd)
  | .tNeg rs rd =>
    .thumb (0b0100001001#10 ++ rs ++ rd)
  | .tCmp rs rd =>
    .thumb (0b0100001010#10 ++ rs ++ rd)
  | .tCmn rs rd =>
    .thumb (0b0100001011#10 ++ rs ++ rd)
  | .tOrr rs rd =>
    .thumb (0b0100001100#10 ++ rs ++ rd)
  | .tMul rs rd =>
    .thumb (0b0100001101#10 ++ rs ++ rd)
  | .tBic rs rd =>
    .thumb (0b0100001110#10 ++ rs ++ rd)
  | .tMvn rs rd =>
    .thumb (0b0100001111#10 ++ rs ++ rd)
  | .tAddHi h1 h2 rs rd =>
    .thumb (0b01000100#8 ++ BitVec.ofBool h1 ++ BitVec.ofBool h2 ++ rs ++ rd)
  | .tCmpHi h1 h2 rs rd =>
    .thumb (0b01000101#8 ++ BitVec.ofBool h1 ++ BitVec.ofBool h2 ++ rs ++ rd)
  | .tMovHi h1 h2 rs rd =>
    .thumb (0b01000110#8 ++ BitVec.ofBool h1 ++ BitVec.ofBool h2 ++ rs ++ rd)
  | .tBx h2 rs =>
    .thumb (0b010001110#9 ++ BitVec.ofBool h2 ++ rs ++ 0b000#3)
  | .tLdrPc rd word8 =>
    .thumb (0b01001#5 ++ rd ++ word8)
  | .tStrReg ro rb rd =>
    .thumb (0b0101000#7 ++ ro ++ rb ++ rd)
  | .tStrbReg ro rb rd =>
    .thumb (0b0101010#7 ++ ro ++ rb ++ rd)
  | .tLdrReg ro rb rd =>
    .thumb (0b0101100#7 ++ ro ++ rb ++ rd)
  | .tLdrbReg ro rb rd =>
    .thumb (0b0101110#7 ++ ro ++ rb ++ rd)
  | .tStrhReg ro rb rd =>
    .thumb (0b0101001#7 ++ ro ++ rb ++ rd)
  | .tLdrhReg ro rb rd =>
    .thumb (0b0101101#7 ++ ro ++ rb ++ rd)
  | .tLdrsbReg ro rb rd =>
    .thumb (0b0101011#7 ++ ro ++ rb ++ rd)
  | .tLdrshReg ro rb rd =>
    .thumb (0b0101111#7 ++ ro ++ rb ++ rd)
  | .tStrImm imm5 rb rd =>
    .thumb (0b01100#5 ++ imm5 ++ rb ++ rd)
  | .tLdrImm imm5 rb rd =>
    .thumb (0b01101#5 ++ imm5 ++ rb ++ rd)
  | .tStrbImm imm5 rb rd =>
    .thumb (0b01110#5 ++ imm5 ++ rb ++ rd)
  | .tLdrbImm imm5 rb rd =>
    .thumb (0b01111#5 ++ imm5 ++ rb ++ rd)
  | .tStrhImm imm5 rb rd =>
    .thumb (0b10000#5 ++ imm5 ++ rb ++ rd)
  | .tLdrhImm imm5 rb rd =>
    .thumb (0b10001#5 ++ imm5 ++ rb ++ rd)
  | .tStrSp rd word8 =>
    .thumb (0b10010#5 ++ rd ++ word8)
  | .tLdrSp rd word8 =>
    .thumb (0b10011#5 ++ rd ++ word8)
  | .tAddPc rd word8 =>
    .thumb (0b10100#5 ++ rd ++ word8)
  | .tAddSp rd word8 =>
    .thumb (0b10101#5 ++ rd ++ word8)
  | .tAddSpImm word7 =>
    .thumb (0b101100000#9 ++ word7)
  | .tSubSpImm word7 =>
    .thumb (0b101100001#9 ++ word7)
  | .tPush r regs =>
    .thumb (0b1011010#7 ++ BitVec.ofBool r ++ regs)
  | .tPop r regs =>
    .thumb (0b1011110#7 ++ BitVec.ofBool r ++ regs)
  | .tStmia rb regs =>
    .thumb (0b11000#5 ++ rb ++ regs)
  | .tLdmia rb regs =>
    .thumb (0b11001#5 ++ rb ++ regs)
  | .tBeq off8 =>
    .thumb (0b11010000#8 ++ off8)
  | .tBne off8 =>
    .thumb (0b11010001#8 ++ off8)
  | .tBcs off8 =>
    .thumb (0b11010010#8 ++ off8)
  | .tBcc off8 =>
    .thumb (0b11010011#8 ++ off8)
  | .tBmi off8 =>
    .thumb (0b11010100#8 ++ off8)
  | .tBpl off8 =>
    .thumb (0b11010101#8 ++ off8)
  | .tBvs off8 =>
    .thumb (0b11010110#8 ++ off8)
  | .tBvc off8 =>
    .thumb (0b11010111#8 ++ off8)
  | .tBhi off8 =>
    .thumb (0b11011000#8 ++ off8)
  | .tBls off8 =>
    .thumb (0b11011001#8 ++ off8)
  | .tBge off8 =>
    .thumb (0b11011010#8 ++ off8)
  | .tBlt off8 =>
    .thumb (0b11011011#8 ++ off8)
  | .tBgt off8 =>
    .thumb (0b11011100#8 ++ off8)
  | .tBle off8 =>
    .thumb (0b11011101#8 ++ off8)
  | .tUndefCond payload =>
    .thumb (0b11011110#8 ++ payload)
  | .tSwi comment =>
    .thumb (0b11011111#8 ++ comment)
  | .tB off11 =>
    .thumb (0b11100#5 ++ off11)
  | .tUndef11101 payload =>
    .thumb (0b11101#5 ++ payload)
  | .tBlHigh off11 =>
    .thumb (0b11110#5 ++ off11)
  | .tBlLow off11 =>
    .thumb (0b11111#5 ++ off11)
  | .tUndefB1 payload =>
    .thumb (0b10110001#8 ++ payload)
  | .tUndefB2 payload =>
    .thumb (0b1011001#7 ++ payload)
  | .tUndefB6 payload =>
    .thumb (0b1011011#7 ++ payload)
  | .tUndefB8 payload =>
    .thumb (0b101110#6 ++ payload)
  | .tUndefBC payload =>
    .thumb (0b1011111#7 ++ payload)
  | .tBxH1 payload =>
    .thumb (0b010001111#9 ++ payload)

/-- The instruction of a word of the opcode table: a 32-bit row is one ARM word, a 16-bit row one Thumb halfword. -/
def decodeTableWord (nbits w : Nat) : Option Instr :=
  if nbits = 32 then
    match decodeArm (BitVec.ofNat 32 w) with
    | .ok i => some i
    | .error _ => none
  else if nbits = 16 then some (decodeThumb (BitVec.ofNat 16 w))
  else none

end Sys2Proof
end

