-- ==== Sys2Proof/Machine/Fetch.lean ====
section
/-! DEFINITION. Around an instruction: the start of a step, the interrupts (60 R631, R632, R637), decoding of a fetched slot, and
how a word is placed where the next fetch reads it. -/

namespace Sys2Proof.Machine

/-- The bus log, the PROCIDWR pulse and the core's outputs are those of one step (log 36, 40, 49), and other masters write between
its transfers only where its event says so (log 48). -/
def State.clearOutputs (s : State) : State :=
  { s with
    bus := []
    procIdWr := false
    masters := []
    trace := { s.trace with
      accesses := [], nExec := true, instrValid := false, nCpi := true, cpa := true, cpb := true
      lastTransfer := s.prevTransfer } }

/-- A core step begins: the marks of the instruction before it are cleared, and the banked register hazard of 70 R757 moves on. An
exception entry or a busy try of a coprocessor instruction is a step too and uses up the slot (R757 does not say: DESIGN CHOICE,
log 37). -/
def State.beginInstr (s : State) : State :=
  { s with
    dbg := { s.dbg with watchHit := false, dataAborted := false }
    bankHazard := s.bankHazardNext
    bankHazardNext := false
    draws := if s.bankHazardNext then s.draws + 1 else s.draws }

/-- The interrupt that is taken at this boundary: FIQ before IRQ (60 R631, R632, R637, R643, R697). -/
def State.pendingInterrupt (s : State) : Option Exception :=
  if s.ifen && s.pins.fiq && !s.cpsr.f then some .fiq
  else if s.ifen && s.pins.irq && !s.cpsr.i then some .irq
  else none

/-- The instruction of fetched bits in the current state (10 R38). -/
def State.decodeBits (s : State) (bits : Word) : Except DecodeError Instr :=
  if s.cpsr.t then .ok (decodeThumb (bits.extractLsb' 0 16)) else decodeArm bits

/-- An ARM word that decodes to nothing still has a condition (30 R232, 60 R643). -/
def State.wordCondFails (s : State) (bits : Word) : Bool :=
  !(condPassed (Cond.ofBits (bits.extractLsb' 28 4)) s.cpsr)

/-- The low `n` bytes of a value at an address, in the byte order of control bit B (20 R105, R106): big-endian, the byte at
offset `j` of a group of `n` is byte `n - 1 - j`. -/
def State.placeBytes (s : State) (a : Word) (v : Word) (n : Nat) : Nat → State
  | 0 => s
  | j + 1 =>
    (s.placeBytes a v n j).setByte (a + BitVec.ofNat 32 j)
      (v.extractLsb' (8 * (if s.cp15.b then n - 1 - j else j)) 8)

/-- An instruction of 16 or 32 bits where the next fetch reads it with the MMU off: at the relocated `pc`, in Thumb or ARM state,
with the prefetch queue empty (log 4). -/
def State.placeWord (s : State) (nbits w : Nat) : State :=
  let t : State := { s with cpsr := { s.cpsr with t := decide (nbits = 16) }, queue := [] }
  t.placeBytes (t.relocate t.pc) (BitVec.ofNat 32 w) (nbits / 8) (nbits / 8)

end Sys2Proof.Machine
end

