-- ==== Sys2Proof/Machine/Reset.lean ====
section
/-! DEFINITION. The two resets (60 R630, 70 R740 to R747). -/

namespace Sys2Proof.Machine

/-- The k-th word of `reset_regs` (70 R745), as a program status register. -/
def resetPsr (k : Nat) : Psr := psrOfWord (Config.resetReg k)

/-- CPSR after HRESETn: Supervisor, I and F set, T clear; the flags are `reset_regs` (70 R743). -/
def resetCpsr : Psr := { resetPsr 30 with i := true, f := true, t := false, m := modeSvc }

/-- CP15 after HRESETn (70 R741, R743). -/
def resetCp15 (vinithi : Bool) : Cp15 :=
  { Cp15.atReset vinithi with
    ttb := (Config.resetReg 35).extractLsb' 14 18, dacr := Config.resetReg 36, fsr := (Config.resetReg 37).extractLsb' 0 8
    far := Config.resetReg 38, procId := Config.resetReg 39, c15c := Config.resetReg 40, c15m := Config.resetReg 41 }

/-- The IDC after HRESETn: every line invalid, its other contents as they were (70 R741 does not say: DESIGN CHOICE, log 27); the pointers
are `reset_regs`. -/
def resetCache (c : Cache) : Cache :=
  { lines := c.lines.map (fun l => { l with valid := false })
    victim := Vector.ofFn (fun k => (Config.resetReg (42 + k.val)).extractLsb' 0 6)
    forced := Vector.ofFn (fun k => (Config.resetReg (46 + k.val)).getLsbD 1)
    camOnly := Vector.ofFn (fun k => (Config.resetReg (46 + k.val)).getLsbD 0)
    base := (Config.resetReg 50).extractLsb' 0 6 }

/-- The TLB after HRESETn: every entry invalid, its other contents as they were (log 27); the lockdown register and the pointers are
`reset_regs`. -/
def resetTlb (t : Tlb) : Tlb :=
  { entries := t.entries.map (fun e => { e with valid := false })
    base := (Config.resetReg 51).extractLsb' 0 6, victim := (Config.resetReg 51).extractLsb' 6 6
    p := (Config.resetReg 51).getLsbD 12, index2 := (Config.resetReg 51).extractLsb' 13 6 }

/-- HRESETn Low and then High (70 R742, R743): r14_svc (22 + 1) and SPSR_svc are undefined values; of the debug logic only
DbgAbt is cleared (R740, D14). Memory is not affected (R745). -/
def State.hardReset (s : State) : State :=
  { s with
    gpr := (Vector.ofFn (fun k => Config.resetReg k.val)).set (23 : Fin 30) s.drawn
    pc := if s.pins.vinithi then 0xFFFF0000#32 else 0#32
    cpsr := resetCpsr
    spsrFiq := resetPsr 31
    spsrSvc := psrOfWord s.drew.drawn
    spsrAbt := resetPsr 32
    spsrIrq := resetPsr 33
    spsrUnd := resetPsr 34
    cp15 := resetCp15 s.pins.vinithi
    cache := resetCache s.cache
    tlb := resetTlb s.tlb
    writeBuffer := []
    queue := []
    dcc := { s.dcc with dbgAbt := false }
    bankHazard := false
    bankHazardNext := false
    trace := { s.trace with lastTransfer := none }
    draws := s.draws + 2 }

/-- The first `n` transfers of an abandoned step: its writes among them reach memory, and what other masters write comes before each
(70 R742, R768; log 53). -/
def State.replay (s : State) : List BusTransfer → Nat → State
  | [], _ => s
  | _ :: _, 0 => s
  | t :: rest, n + 1 =>
    if t.write && s.regionOf t.addr == .ram then
      ((s.onBus t).storeLanes t.addr t.bigEndian t.wdata (sizeOffsets t.size t.addr)).replay rest n
    else (s.onBus t).replay rest n

/-- DBGnTRST Low and then High (70 R746, D14): every EmbeddedICE-RT register, the stored DBGMOE bit of the debug status register
(61 R690, R699) among them. A core in debug state stays halted, with what has been inserted (R746 does not say: DESIGN CHOICE,
log 45). -/
def State.debugReset (s : State) : State :=
  { s with ice := Ice.atReset, dcc := Dcc.atReset, tap := Tap.atReset, dbg := { s.dbg with moe := false } }

end Sys2Proof.Machine
end

