-- ==== Sys2Proof/Machine/Run.lean ====
section
/-! DEFINITION. One step of the machine: an instruction, an exception entry, debug entry or an event of the environment (60 R643,
D18), with the debugger's actions (61 R680, R717 to R720) and the TAP controller (R705 to R716). -/

namespace Sys2Proof.Machine

/-! The core. -/

/-- An interrupt that was pending before debug entry: debug state is entered in its mode (60 R638; log 54). -/
def State.takePending (s : State) : State :=
  match s.pendingInterrupt with
  | some e => s.takeException e
  | none => s

/-- Debug state is entered after an instruction with a watchpointed access (61 R685, R720, 60 R651): when it aborted or an
interrupt is pending, in the mode of that exception. With both, Abort mode is entered and the interrupt stays pending (R651 and R638
do not say which comes first: DESIGN CHOICE, log 54). A debug request due at the same end is not the recorded cause (R685, R686 and
R720 do not say: DESIGN CHOICE, log 54). An instruction that has left an illegal mode leaves the core stuck instead
(60 R664). -/
def State.afterInstr (s : State) : State :=
  if s.dbg.watchHit && legalMode s.cpsr.m then
    if s.dbg.dataAborted then s.enterDebug 3 false true
    else if s.pendingInterrupt.isSome then s.takePending.enterDebug 3 false true
    else s.enterDebug 4 false true
  else s

/-- What follows an outcome that is a next state. -/
def onNext (r : Result) (f : State → State) : Result :=
  match r with
  | .next s => .next (f s)
  | .fault e => .fault e
  | .refused e => .refused e

/-- The instruction of a slot is executed: an ARM word that decodes to nothing is passed over if its condition fails and refused
otherwise (30 R252, U5). -/
def runBits (s : State) (bits : Word) : Result :=
  match s.decodeBits bits with
  | .ok i => exec i s
  | .error _ => if s.wordCondFails bits then .next s.advance else .refused .undefinedNotTrapped

/-- A monitor mode breakpoint on a slot: DbgAbt will be set, unless the bus aborted the fetch as well (60 R650, D27). A mark that stands
in the queue acts also once control bit 5 is set (61 R696 does not say: DESIGN CHOICE, log 32). -/
def State.monitorBreak (s : State) (q : FetchSlot) : Bool := q.breakpoint && s.pins.dbgen && s.monitorMode

/-- The prefetch abort of a monitor mode breakpoint (60 R650). -/
def State.debugPrefetchAbort (s : State) : State :=
  ({ s with dcc := { s.dcc with dbgAbt := true } } : State).takeException .prefetchAbort

/-- The first slot of the queue reaches execution (60 R634, R643, R650, R651). -/
def executeSlot (s : State) (q : FetchSlot) : Result :=
  match q.mark with
  | .external => .next (s.takeException .prefetchAbort)
  | .aborted => .next (if s.monitorBreak q then s.debugPrefetchAbort else s.takeException .prefetchAbort)
  | .tinyInCoarse => .refused .tinyInCoarse
  | .ok =>
    if s.monitorBreak q then .next s.debugPrefetchAbort
    else onNext (runBits s q.bits) State.afterInstr

/-- A halt mode breakpoint on a slot: a prefetch abort has priority (60 R651). Control bit 5, set once the slot is marked, does not take
the mark away (61 R696 does not say: DESIGN CHOICE, log 32). -/
def State.breakDue (s : State) (q : FetchSlot) : Bool :=
  q.breakpoint && q.mark == .ok && s.pins.dbgen && !s.monitorMode

/-- A debug request is due, in halt mode (61 R686, R689, R698). -/
def State.requestDue (s : State) : Bool := s.dbgrqi && s.pins.dbgen && !s.monitorMode

/-- The order of 60 R643, for the slot about to execute. Of a breakpoint and a debug request due at one boundary the breakpoint is
the recorded cause (R643 puts both in one line and 61 R720 does not say: DESIGN CHOICE, log 54). -/
def boundary (s : State) (q : FetchSlot) : Result :=
  if s.breakDue q then .next s.takePending.enterByBreakpoint
  else if s.requestDue then .next s.takePending.enterByRequest
  else
    match s.pendingInterrupt with
    | some e => .next (s.takeException e)
    | none => executeSlot s q

/-- The instruction of a slot is the one the execute stage takes, not flushed by an exception or debug entry. -/
def State.slotExecutes (s : State) (q : FetchSlot) : Bool :=
  q.mark == .ok && !(s.breakDue q) && !s.requestDue && s.pendingInterrupt.isNone && !(s.monitorBreak q)

/-- The condition of fetched bits fails: an ARM condition field or a Thumb conditional branch (30 R232, 45 R535). -/
def State.bitsCondFails (s : State) (bits : Word) : Bool :=
  if s.cpsr.t then
    bits.extractLsb' 12 4 == 0b1101#4 && bits.extractLsb' 9 3 != 0b111#3 &&
      !(condPassed (Cond.ofBits (bits.extractLsb' 8 4)) s.cpsr)
  else s.wordCondFails bits

/-- The answer on CPA and CPB to a coprocessor instruction (43 R442): absent both High, busy CPB High, accepted both Low. CP14 and
CP15 answer for themselves. -/
def State.coproSignals (s : State) (bits : Word) : Option (Bool × Bool) :=
  if s.cpsr.t || s.wordCondFails bits then none
  else if bits.extractLsb' 25 3 == 0b110#3 || bits.extractLsb' 24 4 == 0b1110#4 then
    if isExternal (bits.extractLsb' 8 4) then
      match copResponse s.copros (bits.extractLsb' 8 4) s.sampledTrans with
      | .absent => some (true, true)
      | .busy => some (false, true)
      | .accept _ _ => some (false, false)
    else
      let own := bits.extractLsb' 24 4 == 0b1110#4 && bits.getLsbD 4 &&
        (bits.extractLsb' 8 4 == 14#4 || (bits.extractLsb' 8 4 == 15#4 && s.privileged))
      some (!own, !own)
  else none

/-- The word that an MCR or MRC moves once it is accepted, and whether the core drives it (43 R445, R446). -/
def State.coproWord (s : State) (bits : Word) : Option (Bool × Word) :=
  if s.coproSignals bits == some (false, false) && bits.extractLsb' 24 4 == 0b1110#4 && bits.getLsbD 4 then
    let crn := bits.extractLsb' 16 4
    let cp := bits.extractLsb' 8 4
    if bits.getLsbD 20 then
      if cp = 15#4 then
        some (false, (cp15Read (bits.extractLsb' 21 3) crn (bits.extractLsb' 0 4) (bits.extractLsb' 5 3) s).1)
      else if cp = 14#4 then some (false, (cp14Read crn s).1)
      else
        match copResponse s.copros cp s.sampledTrans with
        | .accept first _ => some (false, first)
        | .busy => none
        | .absent => none
    else some (true, s.regLate (bits.extractLsb' 12 4))
  else none

/-- An MCR or MRC in the execute stage puts its word on the data bus (61 R727, 43 R454). -/
def State.showWord (s : State) (q : FetchSlot) : State :=
  match if s.slotExecutes q then s.coproWord q.bits else none with
  | some (write, w) => s.recordWord write w
  | none => s

/-- The outputs show the slot in the execute stage (61 R727). -/
def State.showSlot (s : State) (q : FetchSlot) : State :=
  (s.showExecute (s.slotExecutes q && !(s.bitsCondFails q.bits)) (s.slotExecutes q)
    (if s.slotExecutes q then s.coproSignals q.bits else none)).showWord q

/-- The core's step with the queue filled. -/
def runFilled (s : State) : Result :=
  match s.queue with
  | q :: _ => boundary (s.showSlot q) q
  | [] => .next s

/-- At the end of a step the queue is filled with the state of that moment (70 R751); in debug state the core fetches nothing
(61 R687), and in an illegal mode it is stuck (60 R664). -/
def State.refill (s : State) : State := if s.dbg.halted || !(legalMode s.cpsr.m) then s else s.fillQueue 3

/-! The debugger in debug state. -/

/-- The instruction bits of a word scanned in (61 R717): in Thumb state one half of it. -/
def State.insertedBits (s : State) (w : Word) : Word := instrBits s.cpsr.t s.cp15.b s.pc w

/-- The instruction scanned in, if it may be (61 R717). -/
def State.insertedInstr (s : State) (w : Word) : Option Instr :=
  match s.decodeBits (s.insertedBits w) with
  | .ok i =>
    match debugClass i with
    | .other => none
    | _ => some i
  | .error _ => none

/-- The debug state is replaced. -/
def State.setDbg (s : State) (d : Debug) : State := { s with dbg := d }

/-- A slot that stands for the words behind an inserted instruction. -/
def FetchSlot.blank : FetchSlot := { addr := 0, bits := 0, fetched := 0, mark := .ok, breakpoint := false, priv := true }

/-- A word scanned into the pipeline stands on the data bus in an internal cycle: the ETM outputs show it as a fetch at the PC of debug
state (61 R687, R718, R727; log 49). -/
def State.showScanned (s : State) (w : Word) : State :=
  s.recordAccess
    { addr := s.pc, data := w, dataValid := BitVec.allOnes 32, size := .word, write := false, isData := false
      priv := s.privileged, aborted := false, cell := w }

/-- An inserted word reaches the execute stage; its instruction is executed unless its condition fails (61 R727). -/
def State.beginInserted (s : State) (w : Word) : State :=
  s.beginInstr.showExecute (!(s.bitsCondFails (s.insertedBits w))) true none

/-- The state in which an inserted instruction executes (61 R717): two words stand behind it in the pipeline. -/
def State.insertState (s : State) (bit33 : Bool) (w : Word) (words : List Word) : State :=
  let b := s.beginInserted w
  { b with
    queue := [FetchSlot.blank, FetchSlot.blank]
    dbg := { b.dbg with prevBit33 := bit33, dataIn := words, trans1 := false } }

/-- After an inserted instruction: if it wrote the PC, which empties the queue, the pipeline is refilled and the next two inserted
words, the NOPs of the Thumb sequence of 61 R717, are discarded (log 28). -/
def State.afterInserted (s : State) : State :=
  { s with queue := [], dbg := { s.dbg with skip := if s.queue.isEmpty then 2 else 0 } }

/-- An instruction is executed at debug speed (61 R717). -/
def insertNow (s : State) (bit33 : Bool) (w : Word) (i : Instr) (words : List Word) : Result :=
  onNext (exec i (s.insertState bit33 w words)) State.afterInserted

/-- The debugger inserts an instruction (61 R714, R717, R718): after one with bit 33 High it waits for RESTART. While
the core is at system speed nothing can be inserted. -/
def insertInstr (s : State) (bit33 : Bool) (w : Word) (words : List Word) : Result :=
  if !s.dbg.halted || s.dbg.systemSpeed || s.dbg.pending.isSome then .refused .insertNotAllowed
  else if s.dbg.skip ≠ 0 then
    .next (s.setDbg { s.dbg with skip := s.dbg.skip - 1, prevBit33 := bit33, trans1 := false })
  else
    match s.insertedInstr w with
    | none => .refused .insertNotAllowed
    | some i =>
      if legalMode s.cpsr.m then
        if s.dbg.prevBit33 then
          .next (s.setDbg { s.dbg with pending := some w, prevBit33 := bit33, trans1 := false })
        else insertNow s bit33 w i words
      else .fault .illegalMode

/-- The words that the loads of a scanned instruction take from the data bus (61 R714, R717): how many of sixteen it takes. -/
def State.wordsNeeded (s : State) (bit33 : Bool) (w : Word) : Nat :=
  if s.dbg.prevBit33 || s.dbg.systemSpeed || s.dbg.pending.isSome || s.dbg.skip != 0 then 0
  else
    match s.insertedInstr w with
    | none => 0
    | some i =>
      match exec i (s.insertState bit33 w (List.replicate 16 0)) with
      | .next t => 16 - t.dbg.dataIn.length
      | .fault _ => 0
      | .refused _ => 0

/-- A word updated into scan chain 1 in debug state (61 R714, R717): while a stored word was captured it carries nothing, after an
instruction that loads it is the data of a load, else an instruction. -/
def scanIn (s : State) (bit33 : Bool) (w : Word) : Result :=
  if s.dbg.dataCycle then .next (s.setDbg { s.dbg with dataCycle := false })
  else
    match s.dbg.loading with
    | some l =>
      if l.need ≤ 1 then insertInstr (s.setDbg { s.dbg with loading := none }) l.bit33 l.instr (l.words ++ [w])
      else
        .next (s.setDbg { s.dbg with loading := some { l with need := l.need - 1, words := l.words ++ [w] } })
    | none =>
      if s.wordsNeeded bit33 w = 0 then insertInstr (s.showScanned w) bit33 w []
      else
        .next ((s.showScanned w).setDbg { s.dbg with
          loading := some { bit33 := bit33, instr := w, need := s.wordsNeeded bit33 w, words := [] } })

/-- A system speed access has ended (61 R718, R720): the PC has advanced by three addresses, bit 33 is High, and so is HTRANS[1] as
debug status bit 3 shows it. An access that aborted has entered Abort mode, and the three addresses count from the vector. After a load
of r15 the PC is the loaded word, with no address counted and no word discarded (R720 does not say: DESIGN CHOICE, log 28). DBGMOE
keeps its value of the first entry (R718 and R720 do not say: DESIGN CHOICE, log 31). A
halt mode watchpoint that matched the access leaves no trace (R718 does not say: DESIGN CHOICE, log 31). The environment takes DBGRQ and
DBGBREAK Low in the clock of DBGACK (R686; log 33). -/
def afterSystemSpeed (before : State) (s : State) : State :=
  { s with
    pc := if s.dbg.dataAborted || s.pc == before.pc + before.instrBytes then s.pc + s.instrBytes * 2#32 else s.pc
    queue := []
    pins := { s.pins with dbgrq := false, dbgbreak := false }
    dbg := { s.dbg with
      systemSpeed := false, bit33 := true, pending := none, dataAborted := false, watchHit := false, trans1 := true } }

/-- Debug state is left (61 R719): what a bit level scan had begun is dropped (log 34). -/
def State.leaveDebug (s : State) : State :=
  s.setDbg { s.dbg with
    halted := false, systemSpeed := false, pending := none, prevBit33 := false, skip := 0, loading := none, dataCycle := false }

/-- The instruction that waited for RESTART runs: a transfer at system speed, after which debug state is entered again (61 R718);
any other, the branch of R719 as a rule, leaves debug state. R718 forbids bit 33 before an instruction that is neither and says nothing
of what it does then (DESIGN CHOICE, log 28). -/
def restartWith (s : State) (w : Word) (i : Instr) : Result :=
  let b := s.beginInserted w
  match debugClass i with
  | .transfer => onNext (exec i { b with dbg := { b.dbg with systemSpeed := true } }) (afterSystemSpeed b)
  | _ => onNext (exec i b.leaveDebug) (fun t => ({ t with queue := [] } : State).refill)

/-- What RESTART does with the core in debug state and the bus clocked (61 R718, R719); with nothing waiting the core leaves debug state
where its PC stands (log 28). -/
def restartNow (s : State) : Result :=
  if legalMode s.cpsr.m then
    match s.dbg.pending with
    | none => .next ({ s.leaveDebug with queue := [] } : State).refill
    | some w =>
      match s.insertedInstr w with
      | none => .refused .insertNotAllowed
      | some i => restartWith s w i
  else .fault .illegalMode

/-- RESTART puts the core under HCLKEN control (61 R681, R718): with HCLKEN Low what needs a bus transfer waits at system speed, with
DBGACK Low, and a later step of the core does it (log 6). -/
def resume (s : State) : Result :=
  match restartNow s with
  | .next t =>
    if s.pins.hclken || t.bus.isEmpty then .next t else .next (s.setDbg { s.dbg with systemSpeed := true })
  | .fault e => .fault e
  | .refused e => .refused e

/-- RESTART with the TAP in RUN-TEST/IDLE (61 R711, R718, R719). -/
def restart (s : State) : Result := if s.dbg.halted then resume s else .next s

/-! The core's own step. -/

/-- With HCLKEN Low no bus transfer starts (20 R153): a core step that needs one waits (log 6). -/
def State.awaitBus (s : State) (r : Result) : Result :=
  match r with
  | .next t => if s.pins.hclken || t.bus.isEmpty then .next t else .next s
  | .fault e => .fault e
  | .refused e => .refused e

/-- One step of the core: an illegal mode is a stuck state (60 R664); in debug state the core waits for the debugger (61 R687), or,
once restarted, for HCLKEN. The queue was filled at the end of the step before, so that the first fill completes an empty one only
(log 13). -/
def coreStep (s : State) : Result :=
  if legalMode s.cpsr.m then
    if s.dbg.halted then (if s.dbg.systemSpeed then resume s else .next s)
    else s.awaitBus (onNext (runFilled (s.beginInstr.fillQueue 3)) State.refill)
  else .fault .illegalMode

/-! The TAP controller. -/

/-- The next state of the TAP controller (61 R705). -/
def nextTap (t : TapState) (tms : Bool) : TapState :=
  match t with
  | .testLogicReset => if tms then .testLogicReset else .runTestIdle
  | .runTestIdle => if tms then .selectDr else .runTestIdle
  | .selectDr => if tms then .selectIr else .captureDr
  | .captureDr => if tms then .exit1Dr else .shiftDr
  | .shiftDr => if tms then .exit1Dr else .shiftDr
  | .exit1Dr => if tms then .updateDr else .pauseDr
  | .pauseDr => if tms then .exit2Dr else .pauseDr
  | .exit2Dr => if tms then .updateDr else .shiftDr
  | .updateDr => if tms then .selectDr else .runTestIdle
  | .selectIr => if tms then .testLogicReset else .captureIr
  | .captureIr => if tms then .exit1Ir else .shiftIr
  | .shiftIr => if tms then .exit1Ir else .shiftIr
  | .exit1Ir => if tms then .updateIr else .pauseIr
  | .pauseIr => if tms then .exit2Ir else .pauseIr
  | .exit2Ir => if tms then .updateIr else .shiftIr
  | .updateIr => if tms then .selectDr else .runTestIdle

/-- The register between DBGTDI and DBGTDO (61 R707, R708, R716). -/
inductive TapRegister where
  | bypass
  | idCode
  | scanSelect
  /-- An external scan chain, if there is one. -/
  | chain0
  | chain1
  | chain2
  | chain15
  /-- The reserved chains 3, 4 and 8: zeros. -/
  | zeros
  /-- A scan chain number the spec does not describe. -/
  | unknown
  deriving DecidableEq, Repr

/-- The register that the current instruction connects (61 R707). -/
def tapRegister (t : Tap) : TapRegister :=
  match t.ir.toNat with
  | 0b0010 => .scanSelect
  | 0b1100 =>
    match t.scanSel.toNat with
    | 0 => .chain0
    | 1 => .chain1
    | 2 => .chain2
    | 3 => .zeros
    | 4 => .zeros
    | 8 => .zeros
    | 15 => .chain15
    | _ => .unknown
  | 0b1110 => .idCode
  | _ => .bypass

/-- The TAP is replaced. -/
def State.setTap (s : State) (t : Tap) : State := { s with tap := t }

/-- CAPTURE-DR of scan chain 1 (61 R709, R714): on a running core the DBGBREAK pin and the word at the data bus
cells, in test mode too what the system applies to an input cell; in debug state bit 33 and the
data bus, whose words are those of the debug speed stores in order. Bit 33 shows the cause of entry at the first capture and, which
R714 leaves open, at every later one (DESIGN CHOICE, log 34). -/
def captureChain1 (s : State) : State :=
  if s.dbg.halted then
    match s.dbg.dataOut with
    | w :: rest =>
      { s with
        tap := { s.tap with chain1 := BitVec.ofBool s.dbg.bit33 ++ w }
        dbg := { s.dbg with dataOut := rest, dataCycle := true } }
    | [] =>
      ((s.setTap { s.tap with chain1 := BitVec.ofBool s.dbg.bit33 ++ s.drawn }).setDbg
        { s.dbg with dataCycle := false }).drew
  else s.setTap { s.tap with chain1 := BitVec.ofBool s.pins.dbgbreak ++ s.trace.dataBus }

/-- CAPTURE-DR (61 R708 to R710, R714, R715). Scan chain 15 captures the value of the debugger's last read, through whichever chain,
with the read/write bit and the instruction field 0: R715 gives the capture after a chain 15 read only (DESIGN CHOICE, log 35). -/
def captureDr (s : State) : State :=
  match tapRegister s.tap with
  | .bypass => s.setTap { s.tap with bypass := false }
  | .idCode => s.setTap { s.tap with idShift := Config.idCode }
  | .scanSelect => s.setTap { s.tap with selShift := 0b1000#4 }
  | .chain0 => s
  | .chain1 => captureChain1 s
  | .chain2 => s
  | .chain15 => s.setTap { s.tap with chain15 := 0#5 ++ s.dbg.readData }
  | .zeros => s
  | .unknown => s

/-- One bit through the data register in SHIFT-DR (61 R708 to R710, R713 to R716). -/
def shiftDr (s : State) (tdi : Bool) : State :=
  let t := s.tap
  match tapRegister t with
  | .bypass => s.setTap { t with tdo := t.bypass, bypass := tdi }
  | .idCode => s.setTap { t with tdo := t.idShift.getLsbD 0, idShift := BitVec.ofBool tdi ++ t.idShift.extractLsb' 1 31 }
  | .scanSelect =>
    s.setTap { t with tdo := t.selShift.getLsbD 0, selShift := BitVec.ofBool tdi ++ t.selShift.extractLsb' 1 3 }
  | .chain0 => s.setTap { t with tdo := s.pins.dbgsdout }
  | .chain1 => s.setTap { t with tdo := t.chain1.getLsbD 32, chain1 := t.chain1.extractLsb' 0 32 ++ BitVec.ofBool tdi }
  | .chain2 => s.setTap { t with tdo := t.chain2.getLsbD 0, chain2 := BitVec.ofBool tdi ++ t.chain2.extractLsb' 1 37 }
  | .chain15 => s.setTap { t with tdo := t.chain15.getLsbD 0, chain15 := BitVec.ofBool tdi ++ t.chain15.extractLsb' 1 36 }
  | .zeros => s.setTap { t with tdo := false }
  | .unknown => (s.setTap { t with tdo := s.drawn.getLsbD 0 }).drew

/-- UPDATE-DR of scan chain 2 (61 R691): the addressed register is written, or read into the data field. -/
def updateChain2 (s : State) : State :=
  let a := s.tap.chain2.extractLsb' 32 5
  if s.tap.chain2.getLsbD 37 then iceWriteReg s a (s.tap.chain2.extractLsb' 0 32)
  else
    let t := State.keepRead (iceReadReg s a)
    t.setTap { t.tap with chain2 := s.tap.chain2.extractLsb' 32 6 ++ (iceReadReg s a).1 }

/-- UPDATE-DR of scan chain 15 (61 R715). -/
def updateChain15 (s : State) : State :=
  let op := s.tap.chain15.extractLsb' 32 4
  if s.tap.chain15.getLsbD 36 then scan15Write op (s.tap.chain15.extractLsb' 0 32) s
  else State.keepRead (scan15Read op s)

/-- UPDATE-DR of scan chain 1 (61 R713, R714): the parallel register is loaded, which applies to the inputs of a running core; in
debug state the word goes into the pipeline. -/
def updateChain1 (s : State) : Result :=
  let t := s.setTap { s.tap with parallel1 := s.tap.chain1 }
  if s.dbg.halted then scanIn t (s.tap.chain1.getLsbD 32) (s.tap.chain1.extractLsb' 0 32) else .next t

/-- UPDATE-DR (61 R708 to R710, R714, R717). -/
def updateDr (s : State) : Result :=
  match tapRegister s.tap with
  | .scanSelect => .next (s.setTap { s.tap with scanSel := s.tap.selShift })
  | .chain0 => .next s
  | .chain1 => updateChain1 s
  | .chain2 => .next (updateChain2 s)
  | .chain15 => .next (updateChain15 s)
  | .bypass => .next s
  | .idCode => .next s
  | .zeros => .next s
  | .unknown => .next s

/-- What the TAP does in its current state (61 R705, R709, R713). -/
def tapAction (s : State) (tdi : Bool) : State :=
  match s.tap.state with
  | .captureDr => captureDr s
  | .shiftDr => shiftDr s tdi
  | .captureIr => s.setTap { s.tap with irShift := 0b0001#4 }
  | .shiftIr =>
    s.setTap { s.tap with tdo := s.tap.irShift.getLsbD 0, irShift := BitVec.ofBool tdi ++ s.tap.irShift.extractLsb' 1 3 }
  | .testLogicReset => s
  | .runTestIdle => s
  | .selectDr => s
  | .exit1Dr => s
  | .pauseDr => s
  | .exit2Dr => s
  | .updateDr => s
  | .selectIr => s
  | .exit1Ir => s
  | .pauseIr => s
  | .exit2Ir => s
  | .updateIr => s

/-- What the TAP does when it enters its new state: an update (61 R708, R709, R713), TEST-LOGIC-RESET (70 R746; the CHAINOUT
latch is cleared by DBGnTRST only, 61 R695), RUN-TEST/IDLE, where the latch of control bit 1 is open (R698) and RESTART takes
effect (R711). -/
def tapEnter (s : State) (before : TapState) : Result :=
  match s.tap.state with
  | .updateDr => updateDr s
  | .updateIr => .next (s.setTap { s.tap with ir := s.tap.irShift })
  | .testLogicReset =>
    .next (s.setTap { s.tap with ir := 0b1110#4, scanSel := 0 })
  | .runTestIdle =>
    let t := s.setTap { s.tap with dbgrqLatch := s.ice.ctrl.getLsbD 1 }
    if before != .runTestIdle && s.tap.ir == 0b0100#4 then restart t else .next t
  | .captureDr => .next s
  | .shiftDr => .next s
  | .captureIr => .next s
  | .shiftIr => .next s
  | .selectDr => .next s
  | .exit1Dr => .next s
  | .pauseDr => .next s
  | .exit2Dr => .next s
  | .selectIr => .next s
  | .exit1Ir => .next s
  | .pauseIr => .next s
  | .exit2Ir => .next s

/-- One clock of the TAP, when DBGTCKEN is High (61 R705). -/
def tapClock (s : State) (tms tdi : Bool) : Result :=
  if s.pins.dbgtcken then
    let t := tapAction (s.setTap { s.tap with sdin := tdi }) tdi
    tapEnter (t.setTap { t.tap with state := nextTap s.tap.state tms }) s.tap.state
  else .next s

/-! Events and steps. -/

/-- The input pins change (61 R686, R688, R730). In debug state DBGRQ or DBGBREAK High and a change of ETMBIGEND are environment actions
that the spec says the model refuses (70 R763, R747; 93 U25, U15). -/
def changePins (s : State) (p : Pins) : Result :=
  if p.testenable || p.scanenable then .refused .productionTest
  else if s.debugSpeed && (p.dbgrq || p.dbgbreak) then .refused .requestInDebug
  else if s.debugSpeed && p.etmbigend != s.pins.etmbigend then .refused .etmBigEndInDebug
  else .next { s with pins := p }

/-- HRESETn, after which the queue is filled as soon as the bus is clocked (70 R743, 20 R153). A core at system speed, which is not in
debug state, abandons what waits there and runs from the reset vector like any other (R742; log 6). -/
def State.resetNow (s : State) : State :=
  let r := (if s.dbg.halted then s.leaveDebug else s).hardReset
  if s.pins.hclken then r.refill else r

/-- HRESETn during the core's next step (70 R742): the step is abandoned after `done` of its transfers, of which memory keeps the
writes, and after `seen` of its accesses, which the ETM outputs keep; every register that could differ is unspecified after reset
(log 53). -/
def hardResetDuring (s : State) (done seen : Nat) : State :=
  match coreStep s with
  | .next t =>
    let r := (s.replay t.bus done).showAccesses (t.trace.accesses.take seen)
    let u := ({ r with bus := [] } : State).resetNow
    { u with bus := r.bus ++ u.bus }
  | .fault _ => s.resetNow
  | .refused _ => s.resetNow

/-- The debugger acts through the TAP, which DBGTCKEN clocks, and so is the core in debug state (61 R681, R705): with DBGTCKEN Low its
actions change nothing. -/
def State.whenTapClocked (s : State) (r : Result) : Result := if s.pins.dbgtcken then r else .next s

/-- RESTART is the current instruction and RUN-TEST/IDLE the state of the TAP, so that the scan chains are in system mode (61 R711,
R719) and the latch of debug control bit 1 is open (R698). -/
def State.restartTap (s : State) : State :=
  s.setTap { s.tap with ir := 0b0100#4, state := .runTestIdle, dbgrqLatch := s.ice.ctrl.getLsbD 1 }

/-- A write of an EmbeddedICE-RT register as one action of the debugger; it ends in RUN-TEST/IDLE (61 R680 (a), R698; log 34). -/
def iceWriteEvent (s : State) (a : BitVec 5) (v : Word) : State :=
  let t := iceWriteReg s a v
  t.setTap { t.tap with dbgrqLatch := t.ice.ctrl.getLsbD 1 }

/-- An event of the environment (D18, D29; log 5). A change of DBGEN in debug state leaves the core halted, and the debugger's
insertions and RESTART act as before (61 R689 does not say: DESIGN CHOICE, log 54). HRESETn in debug state is an
environment action that the spec says the model refuses (70 R747; 93 U15). -/
def runEvent (e : EnvEvent) (s : State) : Result :=
  match e with
  | .tick => coreStep s
  | .others writes inner => onNext (runEvent inner { s with masters := s.masters ++ writes }) State.othersFinish
  | .setPins p => changePins s p
  | .hreset => if s.debugSpeed then .refused .resetInDebug else .next s.resetNow
  | .hresetDuring done seen => if s.debugSpeed then .refused .resetInDebug else .next (hardResetDuring s done seen)
  | .ntrst => .next s.debugReset
  | .drain => .next (if s.pins.hclken then s.drainOne else s)
  | .busWrite a b => .next (s.setByte a b)
  | .iceRead a => s.whenTapClocked (.next (State.keepRead (iceReadReg s a)))
  | .iceWrite a v => s.whenTapClocked (.next (iceWriteEvent s a v))
  | .scan15 write op v => s.whenTapClocked (.next (if write then scan15Write op v s else State.keepRead (scan15Read op s)))
  | .insert bit33 w words => s.whenTapClocked (insertInstr (s.showScanned w) bit33 w words)
  | .restart => s.whenTapClocked (restart s.restartTap)
  | .tck tms tdi => tapClock s tms tdi

/-- The machine's step: the next event of the environment, or the core's own step when none is left; the ETM outputs follow. -/
def machineStep (s : State) : Result :=
  match s.env with
  | e :: rest => onNext (runEvent e { s.clearOutputs with env := rest }) State.driveEtm
  | [] => onNext (coreStep s.clearOutputs) State.driveEtm

end Sys2Proof.Machine
end

