-- ==== Sys2Proof/Safety.lean ====
section
/-! DEFINITION. What counts as a safe state and a safe step, in the terms the claims use. -/

namespace Sys2Proof.Machine

/-- The bits of the PC that the state ignores are 0 (10 R26). -/
def State.pcAligned (s : State) : Bool := alignPc s.cpsr.t s.pc == s.pc

/-- What every step keeps: memory in canonical form, an aligned PC (10 R26), at most eight buffered writes (20 R140), and bit 3 of
the debug control register zero (61 R696). -/
structure State.Inv (s : State) : Prop where
  memory : cellsWf s.mem = true
  pc : s.pcAligned = true
  buffer : s.writeBuffer.length ≤ 8
  control : s.ice.ctrl.getLsbD 3 = false

/-- The machine goes on. -/
def goesOn (r : Result) : Bool :=
  match r with
  | .next _ => true
  | .fault _ => false
  | .refused _ => false

/-- A run of `n` steps that neither faults nor is refused. -/
def safeFor : Nat → State → Bool
  | 0, _ => true
  | n + 1, s =>
    match step s with
    | .next t => safeFor n t
    | .fault _ => false
    | .refused _ => false

/-- The part of the state that no access to memory changes: all but memory, the write buffer, the cache, the TLB, the bus log, what
other masters write between transfers, the core's outputs, the free values, FSR and FAR, the comparators' latches, DbgAbt, and what
the access leaves for the debugger. -/
def State.fixedPart (s : State) : State :=
  { s with
    cp15 := { s.cp15 with fsr := 0, far := 0 }
    cache := State.reset.cache
    tlb := State.reset.tlb
    writeBuffer := []
    mem := []
    ice := { s.ice with chainOut := false, range0 := false, range1 := false }
    dcc := { s.dcc with dbgAbt := false }
    dbg := { s.dbg with watchHit := false, dataAborted := false, dataIn := [], dataOut := [] }
    bus := []
    masters := []
    trace := Trace.atReset
    draws := 0 }

/-- What an access to memory may do: it keeps the fixed part, the canonical form of memory and the bound of the write buffer, and
no other master begins to write. -/
structure MemoryStep (s t : State) : Prop where
  fixed : t.fixedPart = s.fixedPart
  alone : s.masters = [] → t.masters = []
  memory : cellsWf s.mem = true → cellsWf t.mem = true
  buffer : s.writeBuffer.length ≤ 8 → t.writeBuffer.length ≤ 8

end Sys2Proof.Machine
end

