-- ==== Sys2Proof/Claims.lean ====
section
/-! DEFINITION. The vocabulary of the claims: when memory answers at once, what a transfer leaves, and the tables that put an
instruction to an operation and an operand form. -/

namespace Sys2Proof.Claims

open Sys2Proof.Machine

/-! Registers. -/

/-- The seven modes (10 R39): User, FIQ, IRQ, Supervisor, Abort, Undefined, System. -/
def modes : List (BitVec 5) :=
  [0b10000#5, 0b10001#5, 0b10010#5, 0b10011#5, 0b10111#5, 0b11011#5, 0b11111#5]

/-- Which copy of a register number a mode names (10 R23): 0 is the shared one. -/
def bank (m : BitVec 5) (r : RegNum) : Nat :=
  if r.toNat < 8 then 0
  else if r.toNat < 13 then (if m = 0b10001#5 then 1 else 0)
  else
    match m with
    | 0b10001#5 => 1
    | 0b10010#5 => 2
    | 0b10011#5 => 3
    | 0b10111#5 => 4
    | 0b11011#5 => 5
    | _ => 0

/-! Memory. -/

/-- Memory answers with the MMU off to a core that runs, with scan chain 1 not in test mode and no other master writing between the
transfers of this step. -/
structure Direct (s : State) : Prop where
  mmuOff : s.cp15.m = false
  running : s.dbg.halted = false
  normal : s.testMode = false
  alone : s.masters = []

/-- The MMU is off, the core runs, no watchpoint can trigger, scan chain 1 is not in test mode and no other master writes between
the transfers of this step. -/
structure Quiet (s : State) : Prop where
  mmuOff : s.cp15.m = false
  running : s.dbg.halted = false
  normal : s.testMode = false
  alone : s.masters = []
  unit0 : s.ice.unit0.ctrlValue.getLsbD 8 = false
  unit1 : s.ice.unit1.ctrlValue.getLsbD 8 = false
  noBreak : s.pins.dbgbreak = false

/-- The first byte a transfer of `size` at a physical address moves. -/
def firstByte (size : Size) (pa : Word) : Word :=
  match size with
  | .byte => pa
  | .half => pa &&& 0xFFFFFFFE#32
  | .word => pa &&& 0xFFFFFFFC#32

/-- An address that a transfer of `size` may use: not faulted by the alignment check, not an odd halfword address, in RAM. -/
structure Ready (s : State) (a : Word) (size : Size) : Prop where
  aligned : s.misaligned size (s.relocate a) = false
  even : size = .half → (s.relocate a).getLsbD 0 = false
  ram : s.regionOf (firstByte size (s.relocate a)) = .ram

/-- The word memory will put on the bus for a virtual address, once every buffered write has been performed. -/
def readWord (s : State) (a : Word) : Word := s.drainAll.memoryWord (s.relocate a)

/-- The value a read of `size` gives, zero extended. -/
def readValue (s : State) (a : Word) (size : Size) : Word := selectLanes s.cp15.b size (s.relocate a) (readWord s a)

/-- The state after such a read: the write buffer drained, the transfer on the bus, the access seen by the comparators. -/
def afterRead (s : State) (a : Word) (size : Size) (priv lock : Bool) : State :=
  (s.drainAll.onBus
    { addr := firstByte size (s.relocate a), haddr := s.relocate a, write := false, size := size
      shape := if lock then singleShape else s.drainAll.readShape (s.relocate a) size
      prot := hprot false false priv true, lock := lock, wdata := 0, bigEndian := s.cp15.b }).observe
    (dataObserved a (readWord s a) size false priv)

/-- The state after an unbuffered write: the cache lines that hold the address updated, the write buffer drained, the bytes
stored, the access seen by the comparators. -/
def afterWrite (s : State) (a : Word) (size : Size) (v : Word) (priv lock : Bool) : State :=
  (busWrite (s.updateCache (s.relocate a) size (replicateLanes size v)).drainAll
    { addr := s.relocate a, size := size, data := replicateLanes size v, bigEndian := s.cp15.b
      prot := hprot false false priv true } lock).1.observe (dataObserved a (replicateLanes size v) size true priv)

/-- The number of bytes of a transfer. -/
def sizeBytes : Size → Nat
  | .byte => 1
  | .half => 2
  | .word => 4

/-- The byte at offset `j` of a value of `n` bytes in the byte order `big`. -/
def byteOfValue (big : Bool) (n j : Nat) (v : Word) : Byte := v.extractLsb' (8 * (if big then n - 1 - j else j)) 8

/-- The data fault state after an alignment fault at an MVA, with the free bits FS[1] and FSR[7:4] given (21 R201, R202). -/
def isAlignmentFsr (fsr : BitVec 8) : Bool := fsr.extractLsb' 2 2 == 0#2 && fsr.getLsbD 0

/-! Data processing. -/

/-- The operand forms of data processing (30 R241 to R244). -/
inductive DpForm where
  | imm (rot : BitVec 4) (imm8 : BitVec 8)
  | shift (amount : BitVec 5) (t : ShiftType) (rm : RegNum)
  | regShift (rs : RegNum) (t : ShiftType) (rm : RegNum)
  deriving DecidableEq, Repr

/-- The second operand. -/
def DpForm.operand (s : State) : DpForm → Shifted
  | .imm rot imm8 => s.operandImm rot imm8
  | .shift amount t rm => s.operandShift amount t rm
  | .regShift rs t rm => s.operandRegShift rs t rm

/-- The first operand: r15 reads as the address + 12 with a register shift (40 R307). -/
def DpForm.first (s : State) (rn : RegNum) : DpForm → Word
  | .imm _ _ => s.reg rn
  | .shift _ _ _ => s.reg rn
  | .regShift _ _ _ => s.regLate rn

/-- The shift register is not r15 (U6). -/
def DpForm.ok : DpForm → Prop
  | .imm _ _ => True
  | .shift _ _ _ => True
  | .regShift rs _ _ => rs ≠ 15#4

/-- The form shifts by an immediate or not at all. -/
def DpForm.plain : DpForm → Prop
  | .imm _ _ => True
  | .shift _ _ _ => True
  | .regShift _ _ _ => False

/-- The logical operations that write Rd. -/
inductive LogicOp where
  | and | eor | orr | mov | bic | mvn
  deriving DecidableEq, Repr

/-- Their results (40 R310, R311, R322 to R325). -/
def LogicOp.value (a b : Word) : LogicOp → Word
  | .and => a &&& b
  | .eor => a ^^^ b
  | .orr => a ||| b
  | .mov => b
  | .bic => a &&& ~~~b
  | .mvn => ~~~b

/-- Their instructions; MOV and MVN have no first operand. -/
def LogicOp.instr (cond : Cond) (sets : Bool) (rn rd : RegNum) : LogicOp → DpForm → Instr
  | .and, .imm rot imm8 => .andImm cond sets rn rd rot imm8
  | .and, .shift amount t rm => .andShift cond sets rn rd amount t rm
  | .and, .regShift rs t rm => .andRegShift cond sets rn rd rs t rm
  | .eor, .imm rot imm8 => .eorImm cond sets rn rd rot imm8
  | .eor, .shift amount t rm => .eorShift cond sets rn rd amount t rm
  | .eor, .regShift rs t rm => .eorRegShift cond sets rn rd rs t rm
  | .orr, .imm rot imm8 => .orrImm cond sets rn rd rot imm8
  | .orr, .shift amount t rm => .orrShift cond sets rn rd amount t rm
  | .orr, .regShift rs t rm => .orrRegShift cond sets rn rd rs t rm
  | .mov, .imm rot imm8 => .movImm cond sets rd rot imm8
  | .mov, .shift amount t rm => .movShift cond sets rd amount t rm
  | .mov, .regShift rs t rm => .movRegShift cond sets rd rs t rm
  | .bic, .imm rot imm8 => .bicImm cond sets rn rd rot imm8
  | .bic, .shift amount t rm => .bicShift cond sets rn rd amount t rm
  | .bic, .regShift rs t rm => .bicRegShift cond sets rn rd rs t rm
  | .mvn, .imm rot imm8 => .mvnImm cond sets rd rot imm8
  | .mvn, .shift amount t rm => .mvnShift cond sets rd amount t rm
  | .mvn, .regShift rs t rm => .mvnRegShift cond sets rd rs t rm

/-- The arithmetic operations that write Rd. -/
inductive ArithOp where
  | sub | rsb | add | adc | sbc | rsc
  deriving DecidableEq, Repr

/-- A borrow: 1 when the carry is clear. -/
def borrow (c : Bool) : Int := if c then 0 else 1

/-- The result on the integers of two operands and the carry flag (40 R312 to R317), from their signed or unsigned values. -/
def ArithOp.exact (a b : Int) (c : Bool) : ArithOp → Int
  | .sub => a - b
  | .rsb => b - a
  | .add => a + b
  | .adc => a + b + (1 - borrow c)
  | .sbc => a - b - borrow c
  | .rsc => b - a - borrow c

/-- The word written (40 R302). -/
def ArithOp.value (a b : Word) (c : Bool) (op : ArithOp) : Word := BitVec.ofInt 32 (op.exact a.toInt b.toInt c)

/-- The carry: of an addition, the exact unsigned result needs a 33rd bit; of a subtraction, it is not negative (no borrow). -/
def ArithOp.carry (a b : Word) (c : Bool) (op : ArithOp) : Bool :=
  match op with
  | .add => decide (2 ^ 32 ≤ op.exact a.toNat b.toNat c)
  | .adc => decide (2 ^ 32 ≤ op.exact a.toNat b.toNat c)
  | .sub => decide (0 ≤ op.exact a.toNat b.toNat c)
  | .rsb => decide (0 ≤ op.exact a.toNat b.toNat c)
  | .sbc => decide (0 ≤ op.exact a.toNat b.toNat c)
  | .rsc => decide (0 ≤ op.exact a.toNat b.toNat c)

/-- The overflow: the exact signed result is no 32-bit integer. -/
def ArithOp.overflow (a b : Word) (c : Bool) (op : ArithOp) : Bool :=
  decide (op.exact a.toInt b.toInt c < -2 ^ 31) || decide (2 ^ 31 ≤ op.exact a.toInt b.toInt c)

/-- The flags of an arithmetic operation (40 R303). -/
def ArithOp.flags (p : Psr) (a b : Word) (op : ArithOp) : Psr :=
  { p with n := (op.value a b p.c).msb, z := op.value a b p.c == 0, c := op.carry a b p.c, v := op.overflow a b p.c }

/-- The flags of a logical operation (40 R303): V stays. -/
def logicFlags (p : Psr) (r : Word) (carry : Bool) : Psr := { p with n := r.msb, z := r == 0, c := carry }

/-- Their instructions. -/
def ArithOp.instr (cond : Cond) (sets : Bool) (rn rd : RegNum) : ArithOp → DpForm → Instr
  | .sub, .imm rot imm8 => .subImm cond sets rn rd rot imm8
  | .sub, .shift amount t rm => .subShift cond sets rn rd amount t rm
  | .sub, .regShift rs t rm => .subRegShift cond sets rn rd rs t rm
  | .rsb, .imm rot imm8 => .rsbImm cond sets rn rd rot imm8
  | .rsb, .shift amount t rm => .rsbShift cond sets rn rd amount t rm
  | .rsb, .regShift rs t rm => .rsbRegShift cond sets rn rd rs t rm
  | .add, .imm rot imm8 => .addImm cond sets rn rd rot imm8
  | .add, .shift amount t rm => .addShift cond sets rn rd amount t rm
  | .add, .regShift rs t rm => .addRegShift cond sets rn rd rs t rm
  | .adc, .imm rot imm8 => .adcImm cond sets rn rd rot imm8
  | .adc, .shift amount t rm => .adcShift cond sets rn rd amount t rm
  | .adc, .regShift rs t rm => .adcRegShift cond sets rn rd rs t rm
  | .sbc, .imm rot imm8 => .sbcImm cond sets rn rd rot imm8
  | .sbc, .shift amount t rm => .sbcShift cond sets rn rd amount t rm
  | .sbc, .regShift rs t rm => .sbcRegShift cond sets rn rd rs t rm
  | .rsc, .imm rot imm8 => .rscImm cond sets rn rd rot imm8
  | .rsc, .shift amount t rm => .rscShift cond sets rn rd amount t rm
  | .rsc, .regShift rs t rm => .rscRegShift cond sets rn rd rs t rm

/-- The four operations that only set flags, by operand form (40 R318 to R321). -/
def tstInstr (cond : Cond) (rn : RegNum) : DpForm → Instr
  | .imm rot imm8 => .tstImm cond rn rot imm8
  | .shift amount t rm => .tstShift cond rn amount t rm
  | .regShift rs t rm => .tstRegShift cond rn rs t rm

/-- TEQ. -/
def teqInstr (cond : Cond) (rn : RegNum) : DpForm → Instr
  | .imm rot imm8 => .teqImm cond rn rot imm8
  | .shift amount t rm => .teqShift cond rn amount t rm
  | .regShift rs t rm => .teqRegShift cond rn rs t rm

/-- CMP. -/
def cmpInstr (cond : Cond) (rn : RegNum) : DpForm → Instr
  | .imm rot imm8 => .cmpImm cond rn rot imm8
  | .shift amount t rm => .cmpShift cond rn amount t rm
  | .regShift rs t rm => .cmpRegShift cond rn rs t rm

/-- CMN. -/
def cmnInstr (cond : Cond) (rn : RegNum) : DpForm → Instr
  | .imm rot imm8 => .cmnImm cond rn rot imm8
  | .shift amount t rm => .cmnShift cond rn amount t rm
  | .regShift rs t rm => .cmnRegShift cond rn rs t rm

/-- A register and the flags written, then the next instruction. -/
def written (s : State) (rd : RegNum) (r : Word) (flags : Psr) : State := ((s.setReg rd r).setCpsr flags).advance

/-- A register written with the flags of a logical operation. -/
def logicWritten (s : State) (rd : RegNum) (r : Word) (carry : Bool) : State :=
  written s rd r (logicFlags s.cpsr r carry)

/-- A register written with the result and the flags of an arithmetic operation. -/
def arithWritten (op : ArithOp) (s : State) (rd : RegNum) (a b : Word) : State :=
  written s rd (op.value a b s.cpsr.c) (op.flags s.cpsr a b)

/-- The flags written, then the next instruction. -/
def flagged (s : State) (flags : Psr) : State := (s.setCpsr flags).advance

/-- The long multiplies. -/
inductive LongOp where
  | umull | umlal | smull | smlal
  deriving DecidableEq, Repr

/-- Their 64-bit results on the integers (41 R353 to R356); `hi` and `lo` are what the destinations held. -/
def LongOp.value (a b hi lo : Word) : LongOp → BitVec 64
  | .umull => BitVec.ofInt 64 (a.toNat * b.toNat)
  | .umlal => BitVec.ofInt 64 (a.toNat * b.toNat + (hi.toNat * 2 ^ 32 + lo.toNat))
  | .smull => BitVec.ofInt 64 (a.toInt * b.toInt)
  | .smlal => BitVec.ofInt 64 (a.toInt * b.toInt + (hi.toNat * 2 ^ 32 + lo.toNat))

/-- Their instructions. -/
def LongOp.instr (cond : Cond) (sets : Bool) (rdHi rdLo rs rm : RegNum) : LongOp → Instr
  | .umull => .umull cond sets rdHi rdLo rs rm
  | .umlal => .umlal cond sets rdHi rdLo rs rm
  | .smull => .smull cond sets rdHi rdLo rs rm
  | .smlal => .smlal cond sets rdHi rdLo rs rm

/-- A 32-bit multiply completes (41 R351, R352): Rd, N and Z; C is any value, V stays. -/
def MultipliesTo (i : Instr) (sets : Bool) (rd : RegNum) (r : Word) (s : State) : Prop :=
  if sets then
    ∃ free : Bool, exec i s = .next (written s rd r { s.cpsr with n := r.msb, z := decide (r = 0), c := free }).drew
  else exec i s = .next (s.setReg rd r).advance

/-- The operand forms of MSR (30 R241, 41 R359). -/
inductive MsrForm where
  | imm (rot : BitVec 4) (imm8 : BitVec 8)
  | reg (rm : RegNum)
  deriving DecidableEq, Repr

/-- The operand. -/
def MsrForm.operand (s : State) : MsrForm → Word
  | .imm rot imm8 => (imm8.setWidth 32).rotateRight (2 * rot.toNat)
  | .reg rm => s.reg rm

/-- The instruction. -/
def MsrForm.instr (cond : Cond) (r : Bool) (mask : BitVec 4) : MsrForm → Instr
  | .imm rot imm8 => .msrImm cond r mask rot imm8
  | .reg rm => .msrReg cond r mask rm

/-- A PSR whose flags byte and control byte are those of a value, where they are selected (10 R35, 41 R359). -/
def mixedPsr (p : Psr) (flags control : Bool) (v : Word) : Psr :=
  { n := if flags then v.getLsbD 31 else p.n
    z := if flags then v.getLsbD 30 else p.z
    c := if flags then v.getLsbD 29 else p.c
    v := if flags then v.getLsbD 28 else p.v
    i := if control then v.getLsbD 7 else p.i
    f := if control then v.getLsbD 6 else p.f
    t := if control then v.getLsbD 5 else p.t
    m := if control then v.extractLsb' 0 5 else p.m }

/-- The Thumb conditional branches with their conditions (45 R535). -/
def thumbBranches (off8 : BitVec 8) : List (Instr × Cond) :=
  [(.tBeq off8, .eq), (.tBne off8, .ne), (.tBcs off8, .cs), (.tBcc off8, .cc), (.tBmi off8, .mi), (.tBpl off8, .pl),
    (.tBvs off8, .vs), (.tBvc off8, .vc), (.tBhi off8, .hi), (.tBls off8, .ls), (.tBge off8, .ge), (.tBlt off8, .lt),
    (.tBgt off8, .gt), (.tBle off8, .le)]

/-- BX to a value (41 R368, 45 R541): bit 0 selects the state, in which the address is aligned. -/
def exchanged (s : State) (v : Word) : State :=
  { s with
    cpsr := { s.cpsr with t := v.getLsbD 0 }
    pc := if v.getLsbD 0 then v &&& 0xFFFFFFFE#32 else v &&& 0xFFFFFFFC#32
    queue := [] }

/-! Single transfers of ARM state. -/

/-- The operand forms of LDR, STR, LDRB and STRB (30 R245, R246). -/
inductive WordForm where
  | immPre (u w : Bool) (rn : RegNum) (imm12 : BitVec 12)
  | immPost (u : Bool) (rn : RegNum) (imm12 : BitVec 12)
  | immUser (u : Bool) (rn : RegNum) (imm12 : BitVec 12)
  | regPre (u w : Bool) (rn : RegNum) (amount : BitVec 5) (t : ShiftType) (rm : RegNum)
  | regPost (u : Bool) (rn : RegNum) (amount : BitVec 5) (t : ShiftType) (rm : RegNum)
  | regUser (u : Bool) (rn : RegNum) (amount : BitVec 5) (t : ShiftType) (rm : RegNum)
  deriving DecidableEq, Repr

/-- The base register. -/
def WordForm.base : WordForm → RegNum
  | .immPre _ _ rn _ => rn
  | .immPost _ rn _ => rn
  | .immUser _ rn _ => rn
  | .regPre _ _ rn _ _ _ => rn
  | .regPost _ rn _ _ _ => rn
  | .regUser _ rn _ _ _ => rn

/-- The address and the written-back base (42 R391). -/
def WordForm.addressing (s : State) : WordForm → Addressing
  | .immPre u w rn imm12 => preIndexed w u (s.reg rn) (imm12.setWidth 32)
  | .immPost u rn imm12 => postIndexed u (s.reg rn) (imm12.setWidth 32)
  | .immUser u rn imm12 => postIndexed u (s.reg rn) (imm12.setWidth 32)
  | .regPre u w rn amount t rm => preIndexed w u (s.reg rn) (s.operandShift amount t rm).value
  | .regPost u rn amount t rm => postIndexed u (s.reg rn) (s.operandShift amount t rm).value
  | .regUser u rn amount t rm => postIndexed u (s.reg rn) (s.operandShift amount t rm).value

/-- The privilege of the access: User for the T forms (20 R119). -/
def WordForm.priv (s : State) : WordForm → Bool
  | .immUser _ _ _ => false
  | .regUser _ _ _ _ _ => false
  | .immPre _ _ _ _ => s.privileged
  | .immPost _ _ _ => s.privileged
  | .regPre _ _ _ _ _ _ => s.privileged
  | .regPost _ _ _ _ _ => s.privileged

/-- The form is a T form. -/
def WordForm.user : WordForm → Bool
  | .immUser _ _ _ => true
  | .regUser _ _ _ _ _ => true
  | .immPre _ _ _ _ => false
  | .immPost _ _ _ => false
  | .regPre _ _ _ _ _ _ => false
  | .regPost _ _ _ _ _ => false

/-- The offset register is not r15, and a base that is written back is neither r15 nor Rd (42 R394 to R396). -/
def WordForm.ok (rd : RegNum) : WordForm → Prop
  | .immPre _ w rn _ => w = true → rn ≠ 15#4 ∧ rn ≠ rd
  | .immPost _ rn _ => rn ≠ 15#4 ∧ rn ≠ rd
  | .immUser _ rn _ => rn ≠ 15#4 ∧ rn ≠ rd
  | .regPre _ w rn _ _ rm => rm ≠ 15#4 ∧ (w = true → rn ≠ 15#4 ∧ rn ≠ rd)
  | .regPost _ rn _ _ rm => rm ≠ 15#4 ∧ rn ≠ 15#4 ∧ rn ≠ rd
  | .regUser _ rn _ _ rm => rm ≠ 15#4 ∧ rn ≠ 15#4 ∧ rn ≠ rd

/-- The offset register is r15. -/
def WordForm.offset15 : WordForm → Prop
  | .immPre _ _ _ _ => False
  | .immPost _ _ _ => False
  | .immUser _ _ _ => False
  | .regPre _ _ _ _ _ rm => rm = 15#4
  | .regPost _ _ _ _ rm => rm = 15#4
  | .regUser _ _ _ _ rm => rm = 15#4

/-- The base is written back (42 R391). -/
def WordForm.writes : WordForm → Prop
  | .immPre _ w _ _ => w = true
  | .immPost _ _ _ => True
  | .immUser _ _ _ => True
  | .regPre _ w _ _ _ _ => w = true
  | .regPost _ _ _ _ _ => True
  | .regUser _ _ _ _ _ => True

/-- LDR, LDRT, LDRB and LDRBT. -/
def loadInstr (cond : Cond) (rd : RegNum) (byte : Bool) : WordForm → Instr
  | .immPre u w rn imm12 => if byte then .ldrbImmPre cond u w rn rd imm12 else .ldrImmPre cond u w rn rd imm12
  | .immPost u rn imm12 => if byte then .ldrbImmPost cond u rn rd imm12 else .ldrImmPost cond u rn rd imm12
  | .immUser u rn imm12 => if byte then .ldrbtImm cond u rn rd imm12 else .ldrtImm cond u rn rd imm12
  | .regPre u w rn amount t rm =>
    if byte then .ldrbRegPre cond u w rn rd amount t rm else .ldrRegPre cond u w rn rd amount t rm
  | .regPost u rn amount t rm => if byte then .ldrbRegPost cond u rn rd amount t rm else .ldrRegPost cond u rn rd amount t rm
  | .regUser u rn amount t rm => if byte then .ldrbtReg cond u rn rd amount t rm else .ldrtReg cond u rn rd amount t rm

/-- STR, STRT, STRB and STRBT. -/
def storeInstr (cond : Cond) (rd : RegNum) (byte : Bool) : WordForm → Instr
  | .immPre u w rn imm12 => if byte then .strbImmPre cond u w rn rd imm12 else .strImmPre cond u w rn rd imm12
  | .immPost u rn imm12 => if byte then .strbImmPost cond u rn rd imm12 else .strImmPost cond u rn rd imm12
  | .immUser u rn imm12 => if byte then .strbtImm cond u rn rd imm12 else .strtImm cond u rn rd imm12
  | .regPre u w rn amount t rm =>
    if byte then .strbRegPre cond u w rn rd amount t rm else .strRegPre cond u w rn rd amount t rm
  | .regPost u rn amount t rm => if byte then .strbRegPost cond u rn rd amount t rm else .strRegPost cond u rn rd amount t rm
  | .regUser u rn amount t rm => if byte then .strbtReg cond u rn rd amount t rm else .strtReg cond u rn rd amount t rm

/-- The size of a byte or word transfer. -/
def byteOrWord (byte : Bool) : Size := if byte then .byte else .word

/-- The operand forms of the halfword and signed transfers (30 R247). -/
inductive HalfForm where
  | imm (p u w : Bool) (rn : RegNum) (immHi immLo : BitVec 4)
  | reg (p u w : Bool) (rn : RegNum) (rm : RegNum)
  deriving DecidableEq, Repr

/-- The base register. -/
def HalfForm.base : HalfForm → RegNum
  | .imm _ _ _ rn _ _ => rn
  | .reg _ _ _ rn _ => rn

/-- The address and the written-back base (42 R406). -/
def HalfForm.addressing (s : State) : HalfForm → Addressing
  | .imm p u w rn immHi immLo => indexed p w u (s.reg rn) ((immHi ++ immLo).setWidth 32)
  | .reg p u w rn rm => indexed p w u (s.reg rn) (s.reg rm)

/-- P = 0 with W = 1 is no transfer (30 R252 (e)); the restrictions of 42 R394 to R396. -/
def HalfForm.ok (rd : RegNum) : HalfForm → Prop
  | .imm p _ w rn _ _ => (p = true ∨ w = false) ∧ ((p = false ∨ w = true) → rn ≠ 15#4 ∧ rn ≠ rd)
  | .reg p _ w rn rm => rm ≠ 15#4 ∧ (p = true ∨ w = false) ∧ ((p = false ∨ w = true) → rn ≠ 15#4 ∧ rn ≠ rd)

/-- P = 0 with W = 1, which is no transfer (30 R252 (e)). -/
def HalfForm.undefined : HalfForm → Prop
  | .imm p _ w _ _ _ => p = false ∧ w = true
  | .reg p _ w _ _ => p = false ∧ w = true

/-- The offset register is r15. -/
def HalfForm.offset15 : HalfForm → Prop
  | .imm _ _ _ _ _ _ => False
  | .reg _ _ _ _ rm => rm = 15#4

/-- The base is written back (42 R406). -/
def HalfForm.writes : HalfForm → Prop
  | .imm p _ w _ _ _ => p = false ∨ w = true
  | .reg p _ w _ _ => p = false ∨ w = true

/-- LDRH, LDRSB and LDRSH. -/
inductive HalfLoad where
  | ldrh | ldrsb | ldrsh
  deriving DecidableEq, Repr

/-- Their sizes. -/
def HalfLoad.size : HalfLoad → Size
  | .ldrh => .half
  | .ldrsb => .byte
  | .ldrsh => .half

/-- What they write of a zero extended value (42 R407 to R409). -/
def HalfLoad.value (v : Word) : HalfLoad → Word
  | .ldrh => v
  | .ldrsb => (v.extractLsb' 0 8).signExtend 32
  | .ldrsh => (v.extractLsb' 0 16).signExtend 32

/-- Their instructions. -/
def HalfLoad.instr (cond : Cond) (rd : RegNum) : HalfLoad → HalfForm → Instr
  | .ldrh, .imm p u w rn hi lo => .ldrhImm cond p u w rn rd hi lo
  | .ldrh, .reg p u w rn rm => .ldrhReg cond p u w rn rd rm
  | .ldrsb, .imm p u w rn hi lo => .ldrsbImm cond p u w rn rd hi lo
  | .ldrsb, .reg p u w rn rm => .ldrsbReg cond p u w rn rd rm
  | .ldrsh, .imm p u w rn hi lo => .ldrshImm cond p u w rn rd hi lo
  | .ldrsh, .reg p u w rn rm => .ldrshReg cond p u w rn rd rm

/-- STRH. -/
def strhInstr (cond : Cond) (rd : RegNum) : HalfForm → Instr
  | .imm p u w rn hi lo => .strhImm cond p u w rn rd hi lo
  | .reg p u w rn rm => .strhReg cond p u w rn rd rm

/-- A Thumb load from an address completes with `v` of the value read in Rd. -/
def ThumbLoads (i : Instr) (a : State → Word) (size : Size) (v : State → Word → Word) (rd : LowReg) : Prop :=
  ∀ s : State, Quiet s → Ready s (a s) size →
    exec i s = .next (((afterRead s (a s) size s.privileged false).setReg (rd.setWidth 4) (v s (readValue s (a s) size))).advance)

/-- A Thumb store of a low register to an address completes. -/
def ThumbStores (i : Instr) (a : State → Word) (size : Size) (rd : LowReg) : Prop :=
  ∀ s : State, Quiet s → Ready s (a s) size →
    exec i s = .next ((afterWrite s (a s) size (s.lowReg rd) s.privileged false).advance)

/-! Block transfers. -/

/-- An exception has been entered: its mode, IRQ masked, ARM state, at a vector (60 R621, R640). -/
structure AtVector (e : Exception) (t : State) : Prop where
  mode : t.cpsr.m = exceptionMode e
  masked : t.cpsr.i = true
  arm : t.cpsr.t = false
  vector : t.pc = t.vectorBase + exceptionOffset e

/-- The data abort has been taken from `s` (60 R620, R633). -/
structure TookDataAbort (s t : State) : Prop where
  vector : AtVector .dataAbort t
  saved : t.spsrAbt = s.cpsr
  linked : t.gpr[physIndex modeAbt 14#4] = s.pc + 8#32

/-- A word address that the bus answers with ERROR. -/
structure Failing (s : State) (a : Word) : Prop where
  aligned : s.misaligned .word (s.relocate a) = false
  failing : s.regionOf (firstByte .word (s.relocate a)) = .error

/-- The transfers of a block of `n` words up to the first that the bus aborts, number `k0`: those before it are ready, those after
it ready or failing. -/
structure FirstFailure (s : State) (start : Word) (n k0 : Nat) : Prop where
  inside : k0 < n
  before : ∀ k : Nat, k < k0 → Ready s (start + BitVec.ofNat 32 (4 * k)) .word
  here : Failing s (start + BitVec.ofNat 32 (4 * k0))
  after : ∀ k : Nat, k0 < k → k < n →
    Ready s (start + BitVec.ofNat 32 (4 * k)) .word ∨ Failing s (start + BitVec.ofNat 32 (4 * k))

/-- Every word of a block transfer may be transferred. -/
def BlockReady (s : State) (start : Word) (n : Nat) : Prop :=
  ∀ k : Nat, k < n → Ready s (start + BitVec.ofNat 32 (4 * k)) .word

/-- The k-th word of a block. -/
def blockWord (s : State) (start : Word) (k : Nat) : Word := readValue s (start + BitVec.ofNat 32 (4 * k)) .word

/-- What a block transfer or a coprocessor transfer leaves, beside what it is said to write: the fixed part but for the general
registers, the PC, CPSR, the queue, the external coprocessors and the slot of 70 R757. -/
def otherParts (s : State) : State :=
  { s.fixedPart with
    gpr := State.reset.gpr, pc := 0, cpsr := State.reset.cpsr, queue := [], copros := [], bankHazardNext := false }

/-- What an LDM leaves (42 R411, R412): the words in the listed registers (`at_` names them), the written-back base if it is not
listed, nothing else of the registers, and no byte of memory changed. -/
structure BlockLoaded (at_ : RegNum → Fin 30) (w : Bool) (rn : RegNum) (after : Word) (regs : List RegNum) (start : Word)
    (s t : State) : Prop where
  loaded : ∀ k : Nat, ∀ r : RegNum, regs[k]? = some r → r ≠ 15#4 → t.gpr[at_ r] = blockWord s start k
  base : w = true → rn ∉ regs → t.gpr[physIndex s.cpsr.m rn] = after
  others : ∀ i : Fin 30, (∀ r ∈ regs, r ≠ 15#4 → at_ r ≠ i) → (w = true → physIndex s.cpsr.m rn ≠ i) → t.gpr[i] = s.gpr[i]
  memory : ∀ a : Word, t.settledByte a = s.settledByte a
  cp15 : t.cp15 = s.cp15
  caches : t.cache = s.cache ∧ t.tlb = s.tlb
  rest : otherParts t = otherParts s

/-- The value an STM stores for the k-th register of its list (42 R413, R417 (c)). -/
def blockStored (user w : Bool) (rn : RegNum) (after : Word) (s : State) (k : Nat) (r : RegNum) : Word :=
  if r = 15#4 then s.pc + 12#32
  else if w = true ∧ r = rn ∧ k ≠ 0 then after
  else if user then s.readPhys (userIndex r) else s.readPhys (physIndex s.cpsr.m r)

/-- What storing `n` words from `start` on leaves of memory (42 R411, R413): the k-th value in the k-th word, and every other
byte unchanged. -/
structure WordsStored (n : Nat) (values : Nat → Word) (start : Word) (s t : State) : Prop where
  stored : ∀ k : Nat, k < n → ∀ j : Nat, j < 4 →
    t.settledByte (wordAlign (s.relocate (start + BitVec.ofNat 32 (4 * k))) + BitVec.ofNat 32 j) =
      byteOfValue s.cp15.b 4 j (values k)
  others : ∀ a : Word, (∀ k : Nat, k < n → wordAlign a ≠ wordAlign (s.relocate (start + BitVec.ofNat 32 (4 * k)))) →
    t.settledByte a = s.settledByte a

/-- An LDM of the current mode's registers completes (42 R412): the PC is the loaded word or the next instruction. -/
def LoadsBlock (i : Instr) (p u w : Bool) (rn : RegNum) (regs : List RegNum) : Prop :=
  ∀ s : State, rn ≠ 15#4 → regs ≠ [] → Quiet s → BlockReady s (blockStart p u (s.reg rn) regs.length) regs.length →
    ∃ t : State, exec i s = .next t ∧
      BlockLoaded (physIndex s.cpsr.m) w rn (blockEnd u (s.reg rn) regs.length) regs
        (blockStart p u (s.reg rn) regs.length) s t ∧
      t.cpsr = s.cpsr ∧
      (15#4 ∉ regs → t.pc = s.pc + s.instrBytes) ∧
      (∀ k : Nat, regs[k]? = some 15#4 →
        t.pc = alignPc s.cpsr.t (blockWord s (blockStart p u (s.reg rn) regs.length) k))

/-- An STM completes (42 R413): the base is the only register that may change. With write-back it is not in the slot in which a
banked register reads any value (70 R757, log 37). -/
def StoresBlock (i : Instr) (user p u w : Bool) (rn : RegNum) (regs : List RegNum) : Prop :=
  ∀ s : State, rn ≠ 15#4 → regs ≠ [] → (w = true → s.bankHazard = false) → cellsWf s.mem = true → Quiet s →
    BlockReady s (blockStart p u (s.reg rn) regs.length) regs.length →
    ∃ t : State, exec i s = .next t ∧
      WordsStored regs.length
        (fun k => blockStored user w rn (blockEnd u (s.reg rn) regs.length) s k (regs.getD k 0#4))
        (blockStart p u (s.reg rn) regs.length) s t ∧
      t.gpr = (if w then s.gpr.set (physIndex s.cpsr.m rn) (blockEnd u (s.reg rn) regs.length) else s.gpr) ∧
      t.cpsr = s.cpsr ∧ t.pc = s.pc + s.instrBytes ∧ t.cp15 = s.cp15 ∧ t.tlb = s.tlb ∧ otherParts t = otherParts s

/-- The transfers of an LDM up to the first that aborts, number `k0`, whatever aborts it: `at_ k` is the state before transfer `k`,
`value k` the word it loads, and `t` what the aborted one leaves (42 R418). -/
structure LoadsUntilAbort (user priv : Bool) (regs : List RegNum) (start : Word) (k0 : Nat) (at_ : Nat → State)
    (value : Nat → Word) (t : State) : Prop where
  inside : k0 < regs.length
  before : ∀ (k : Nat) (r : RegNum), k < k0 → regs[k]? = some r → ∃ u : State,
    dataRead (at_ k) (start + BitVec.ofNat 32 (4 * k)) .word priv false = .done (value k) u ∧
      at_ (k + 1) = blockLoadReg user u r (value k)
  here : dataRead (at_ k0) (start + BitVec.ofNat 32 (4 * k0)) .word priv false = .abort t

/-- The transfers of an STM likewise; the first writes back the base. -/
structure StoresUntilAbort (user priv w : Bool) (rn : RegNum) (after : Word) (regs : List RegNum) (start : Word) (k0 : Nat)
    (at_ : Nat → State) (t : State) : Prop where
  inside : k0 < regs.length
  before : ∀ (k : Nat) (r : RegNum), k < k0 → regs[k]? = some r → ∃ (x : Word) (u : State),
    dataWrite (at_ k) (start + BitVec.ofNat 32 (4 * k)) .word (blockStoreValue user (at_ k) r) priv false = .done x u ∧
      at_ (k + 1) = if w = true ∧ k = 0 then u.setReg rn after else u
  here : ∀ r : RegNum, regs[k0]? = some r →
    dataWrite (at_ k0) (start + BitVec.ofNat 32 (4 * k0)) .word (blockStoreValue user (at_ k0) r) priv false = .abort t

/-- What follows an aborted block transfer: the data abort with FSR and FAR of the first aborted transfer (42 R418, D23), unless a
later transfer walks to a tiny page in a coarse table (93 U17), which is refused. -/
def BlockAbortTaken (i : Instr) (s t : State) (registers : State → Prop) : Prop :=
  exec i s = .refused .tinyInCoarse ∨
    ∃ v : State, exec i s = .next v ∧ TookDataAbort s v ∧ v.cp15.fsr = t.cp15.fsr ∧ v.cp15.far = t.cp15.far ∧ registers v

/-- An LDM one of whose transfers aborts: the registers before it are loaded, the base is the written-back one or as it was. -/
def LoadAborts (i : Instr) (user p u w : Bool) (rn : RegNum) (regs : List RegNum) (s : State) : Prop :=
  ∀ (start after : Word) (k0 : Nat) (at_ : Nat → State) (value : Nat → Word) (t : State) (place : RegNum → Fin 30),
    start = blockStart p u (s.reg rn) regs.length → after = blockEnd u (s.reg rn) regs.length →
    place = (if user then userIndex else physIndex s.cpsr.m) → at_ 0 = (if w then s.setReg rn after else s) →
    LoadsUntilAbort user s.privileged regs start k0 at_ value t →
    BlockAbortTaken i s t (fun v =>
      (∀ (k : Nat) (r : RegNum), k < k0 → regs[k]? = some r → place r ≠ physIndex s.cpsr.m rn →
        place r ≠ physIndex modeAbt 14#4 → v.gpr[place r] = value k) ∧
      (physIndex s.cpsr.m rn ≠ physIndex modeAbt 14#4 →
        v.gpr[physIndex s.cpsr.m rn] = if w then after else s.gpr[physIndex s.cpsr.m rn]) ∧
      ∀ j : Fin 30, j ≠ physIndex modeAbt 14#4 → j ≠ physIndex s.cpsr.m rn →
        (∀ (k : Nat) (r : RegNum), k < k0 → regs[k]? = some r → place r ≠ j) → v.gpr[j] = s.gpr[j])

/-- An STM one of whose transfers aborts: no register changes but the base, if it is written back. -/
def StoreAborts (i : Instr) (user p u w : Bool) (rn : RegNum) (regs : List RegNum) (s : State) : Prop :=
  ∀ (start after : Word) (k0 : Nat) (at_ : Nat → State) (t : State),
    start = blockStart p u (s.reg rn) regs.length → after = blockEnd u (s.reg rn) regs.length → at_ 0 = s →
    StoresUntilAbort user s.privileged w rn after regs start k0 at_ t →
    BlockAbortTaken i s t (fun v => ∀ j : Fin 30, j ≠ physIndex modeAbt 14#4 →
      v.gpr[j] = if w = true ∧ j = physIndex s.cpsr.m rn then after else s.gpr[j])

/-! Coprocessors. -/

/-- What an MRC leaves (43 R446): Rd, or for r15 the four flags. -/
def mrcState (s : State) (rd : RegNum) (v : Word) : State :=
  if rd = 15#4 then
    (s.setCpsr { s.cpsr with n := v.getLsbD 31, z := v.getLsbD 30, c := v.getLsbD 29, v := v.getLsbD 28 }).advance
  else (s.setReg rd v).advance

/-- An MRC reads a value in which the bits of `mask` are free (46 R563). -/
def ReadsFree (i : Instr) (rd : RegNum) (mask v : Word) (s : State) : Prop :=
  ∃ free : Word, exec i s = .next (mrcState s.drew rd ((v &&& ~~~mask) ||| (free &&& mask)))

/-- The control register (46 R566): each defined bit at its place, bits [6:4] read 1. -/
def controlWord (c : Cp15) : Word :=
  (if c.m then 0x1#32 else 0) ||| (if c.a then 0x2#32 else 0) ||| (if c.c then 0x4#32 else 0) |||
    (if c.w then 0x8#32 else 0) ||| 0x70#32 ||| (if c.b then 0x80#32 else 0) ||| (if c.s then 0x100#32 else 0) |||
    (if c.r then 0x200#32 else 0) ||| (if c.v then 0x2000#32 else 0)

/-- A victim pointer after an operation that moves it (46 R584, D25): 63 is followed by the lockdown base. -/
def nextVictim (base v : BitVec 6) : BitVec 6 := if v = 63#6 then base else v + 1#6

/-- A cache or TLB test operation with the value in Rd (46 R582 to R597). -/
def testOperations (cond : Cond) (rd : RegNum) : List Instr :=
  [.mcrCacheCamRead cond rd, .mcrCacheCamWrite cond rd, .mcrCacheRamRead cond rd, .mcrCacheRamWrite cond rd,
    .mcrCacheCamMatch cond rd, .mcrTlbCamRead cond rd, .mcrTlbCamWrite cond rd, .mcrTlbRam1Read cond rd,
    .mcrTlbRam1Write cond rd, .mcrTlbRam2Read cond rd, .mcrTlbRam2Write cond rd, .mcrTlbCamMatch cond rd]

/-- The rows of the opcode table that read CP15 (46 R561). -/
def cp15Reads (cond : Cond) (rd : RegNum) : List Instr :=
  [.mrcId cond rd, .mrcControl cond rd, .mrcTtb cond rd, .mrcDacr cond rd, .mrcFsr cond rd, .mrcFar cond rd,
    .mrcTlbLockdown cond rd, .mrcPid cond rd, .mrcProcId cond rd, .mrcTestState cond rd, .mrcC15C cond rd,
    .mrcC15M cond rd, .mrcC15MAlt cond rd]

/-- The rows that write CP15 (46 R562), but for the test operations. -/
def cp15Writes (cond : Cond) (rd : RegNum) : List Instr :=
  [.mcrControl cond rd, .mcrTtb cond rd, .mcrDacr cond rd, .mcrFsr cond rd, .mcrFar cond rd, .mcrInvCache cond rd,
    .mcrInvTlbC5 cond rd, .mcrInvTlbEntryC5 cond rd, .mcrInvTlbC6 cond rd, .mcrInvTlbEntryC6 cond rd,
    .mcrInvTlbC7 cond rd, .mcrInvTlbEntryC7 cond rd, .mcrCacheBase0 cond rd, .mcrCacheVictim0 cond rd,
    .mcrCacheBase1 cond rd, .mcrCacheVictim1 cond rd, .mcrTlbLockdown cond rd, .mcrPid cond rd, .mcrProcId cond rd,
    .mcrTestState cond rd, .mcrC15C cond rd]

/-- What a test operation leaves: all but C15.C, C15.M, the cache, the TLB, the free values and the step to the next instruction. -/
def TestFrame (s t : State) : Prop :=
  { t with cp15 := { t.cp15 with c15c := s.cp15.c15c, c15m := s.cp15.c15m }, cache := s.cache, tlb := s.tlb
           draws := s.draws } = s.advance

/-- Only the line with this number may differ. -/
def OtherLinesSame (n : Nat) (s t : State) : Prop := ∀ k : Fin 256, k.val ≠ n → t.cache.lines[k] = s.cache.lines[k]

/-- Only the TLB entry with this number may differ. -/
def OtherEntriesSame (n : Nat) (s t : State) : Prop := ∀ k : Fin 64, k.val ≠ n → t.tlb.entries[k] = s.tlb.entries[k]

/-- Only the TLB entries that `gone` names become invalid. -/
def TlbInvalidated (cond : Cond) (i : Instr) (gone : State → TlbEntry → Bool) : Prop :=
  ∀ s : State, condPassed cond s.cpsr = true → s.privileged = true →
    ∃ t : State, exec i s = .next t ∧
      (∀ k : Fin 64, t.tlb.entries[k] =
        if gone s s.tlb.entries[k] then { s.tlb.entries[k] with valid := false } else s.tlb.entries[k]) ∧
      { t with tlb := { t.tlb with entries := s.tlb.entries } } = s.advance

/-! The whole machine. -/

/-- The mode, interrupt masks, and system registers that User mode must not change (60 R660). -/
structure SameControl (s t : State) : Prop where
  mode : t.cpsr.m = s.cpsr.m
  irq : t.cpsr.i = s.cpsr.i
  fiq : t.cpsr.f = s.cpsr.f

/-- What taking an exception does (60 R620, R621) for the instruction at `s.pc`: the link register, the saved status, the flags
that stay, and nothing else. -/
structure Entered (e : Exception) (link : Word) (s t : State) : Prop where
  atVector : AtVector e t
  fiqMask : t.cpsr.f = (s.cpsr.f || decide (e = .fiq))
  flags : t.cpsr.n = s.cpsr.n ∧ t.cpsr.z = s.cpsr.z ∧ t.cpsr.c = s.cpsr.c ∧ t.cpsr.v = s.cpsr.v
  linked : t.gpr[physIndex (exceptionMode e) 14#4] = link
  saved : t.spsrOf (exceptionMode e) = some s.cpsr
  registers : ∀ i : Fin 30, i ≠ physIndex (exceptionMode e) 14#4 → t.gpr[i] = s.gpr[i]
  statuses : ∀ m : BitVec 5, m ≠ exceptionMode e → t.spsrOf m = s.spsrOf m
  discarded : t.queue = []
  others : t.cp15 = s.cp15 ∧ t.cache = s.cache ∧ t.tlb = s.tlb ∧ t.writeBuffer = s.writeBuffer ∧ t.mem = s.mem ∧
    t.dcc = s.dcc ∧ t.ice = s.ice ∧ t.dbg = s.dbg ∧ t.bus = s.bus ∧ t.copros = s.copros

/-- The recommended return instruction of each exception (60 R623). -/
def returnInstr : Exception → Instr
  | .undefined => .movShift .al true 15#4 0#5 .lsl 14#4
  | .swi => .movShift .al true 15#4 0#5 .lsl 14#4
  | .prefetchAbort => .subImm .al true 14#4 15#4 0#4 4#8
  | .dataAbort => .subImm .al true 14#4 15#4 0#4 8#8
  | .irq => .subImm .al true 14#4 15#4 0#4 4#8
  | .fiq => .subImm .al true 14#4 15#4 0#4 4#8

/-- Where it returns to: after the instruction for SWI and the undefined instruction, else to it (60 R623). -/
def returnPoint (s : State) : Exception → Word
  | .undefined => s.pc + s.instrBytes
  | .swi => s.pc + s.instrBytes
  | .prefetchAbort => s.pc
  | .dataAbort => s.pc
  | .irq => s.pc
  | .fiq => s.pc

/-- The core takes its own next step: no event, a legal mode, not in debug state, the bus interface clocked. -/
structure CoreRuns (s : State) : Prop where
  noEvent : s.env = []
  legal : legalMode s.cpsr.m = true
  running : s.dbg.halted = false
  clocked : s.pins.hclken = true

/-- The state in which the next instruction executes: the queue filled (70 R751) and its first slot shown in the execute stage. -/
def prefetched (s : State) : State :=
  let b := s.clearOutputs.beginInstr.fillQueue 3
  match b.queue with
  | q :: _ => b.showSlot q
  | [] => b

/-- The end of a step: the queue is filled with the state of that moment (70 R751), and the ETM outputs follow (61 R725). -/
def ended (s : State) : State := s.refill.driveEtm

/-- What fetching leaves: every register, the fault registers, the coprocessors, and memory as it will settle. -/
structure OnlyFetched (s t : State) : Prop where
  registers : t.gpr = s.gpr ∧ t.pc = s.pc ∧ t.cpsr = s.cpsr
  saved : ∀ m : BitVec 5, t.spsrOf m = s.spsrOf m
  system : t.cp15 = s.cp15 ∧ t.dcc = s.dcc ∧ t.copros = s.copros
  memory : s.masters = [] → ∀ a : Word, t.settledByte a = s.settledByte a

/-! Aborts. -/

/-- What an aborted data access leaves (21 R200, 42 R397): FAR and FSR, and otherwise the fixed part and every byte of memory. -/
structure Aborted (mva : Word) (fsr : BitVec 8 → Prop) (s t : State) : Prop where
  far : t.cp15.far = mva
  status : fsr t.cp15.fsr
  fixed : t.fixedPart = s.fixedPart
  memory : s.masters = [] → ∀ a : Word, t.settledByte a = s.settledByte a

/-- A data access that no debug, alignment or halfword rule stops (20 R112, 93 U16). -/
structure Aligned (s : State) (a : Word) (size : Size) : Prop where
  live : s.debugSpeed = false
  aligned : s.misaligned size (s.relocate a) = false
  even : size = .half → (s.relocate a).getLsbD 0 = false

/-- The Thumb loads with the address and size of their access (45 R511 to R527). -/
def thumbLoads (ro rb rd : LowReg) (imm5 : BitVec 5) (word8 : BitVec 8) (s : State) : List (Instr × Word × Size) :=
  [(.tLdrPc rd word8, ((s.pc + 4#32) &&& 0xFFFFFFFC#32) + BitVec.ofNat 32 (4 * word8.toNat), .word),
    (.tLdrReg ro rb rd, s.lowReg rb + s.lowReg ro, .word), (.tLdrbReg ro rb rd, s.lowReg rb + s.lowReg ro, .byte),
    (.tLdrhReg ro rb rd, s.lowReg rb + s.lowReg ro, .half), (.tLdrsbReg ro rb rd, s.lowReg rb + s.lowReg ro, .byte),
    (.tLdrshReg ro rb rd, s.lowReg rb + s.lowReg ro, .half),
    (.tLdrImm imm5 rb rd, s.lowReg rb + BitVec.ofNat 32 (4 * imm5.toNat), .word),
    (.tLdrbImm imm5 rb rd, s.lowReg rb + BitVec.ofNat 32 imm5.toNat, .byte),
    (.tLdrhImm imm5 rb rd, s.lowReg rb + BitVec.ofNat 32 (2 * imm5.toNat), .half),
    (.tLdrSp rd word8, s.reg 13#4 + BitVec.ofNat 32 (4 * word8.toNat), .word)]

/-- The Thumb stores likewise. -/
def thumbStores (ro rb rd : LowReg) (imm5 : BitVec 5) (word8 : BitVec 8) (s : State) : List (Instr × Word × Size) :=
  [(.tStrReg ro rb rd, s.lowReg rb + s.lowReg ro, .word), (.tStrbReg ro rb rd, s.lowReg rb + s.lowReg ro, .byte),
    (.tStrhReg ro rb rd, s.lowReg rb + s.lowReg ro, .half),
    (.tStrImm imm5 rb rd, s.lowReg rb + BitVec.ofNat 32 (4 * imm5.toNat), .word),
    (.tStrbImm imm5 rb rd, s.lowReg rb + BitVec.ofNat 32 imm5.toNat, .byte),
    (.tStrhImm imm5 rb rd, s.lowReg rb + BitVec.ofNat 32 (2 * imm5.toNat), .half),
    (.tStrSp rd word8, s.reg 13#4 + BitVec.ofNat 32 (4 * word8.toNat), .word)]

/-! Translation. -/

/-- The access table of 21 R197: whether AP, S and R allow an access. -/
def allowed (ap : BitVec 2) (s r priv write : Bool) : Bool :=
  match s, r, ap with
  | true, true, _ => false
  | false, false, 0b00#2 => false
  | true, false, 0b00#2 => priv && !write
  | false, true, 0b00#2 => !write
  | _, _, 0b01#2 => priv
  | _, _, 0b10#2 => priv || !write
  | _, _, _ => true

/-- What a descriptor decides (21 R191, R196 to R202): the domain field of the DACR, the permission table, then the address. The codes
are those of a section or of a page. -/
def Decides (s : State) (sect : Bool) (domain : BitVec 4) (ap : BitVec 2) (pa : Word) (c b priv write : Bool)
    (r : Translation) : Prop :=
  match s.cp15.dacr.getLsbD (2 * domain.toNat + 1), s.cp15.dacr.getLsbD (2 * domain.toNat) with
  | _, false => r = .fault (if sect then 0b1001#4 else 0b1011#4) domain
  | false, true =>
    if allowed ap s.cp15.s s.cp15.r priv write then
      r = .mapped { pa := pa, c := c, b := b, abortFs := if sect then 0b1000#4 else 0b1010#4, abortDomain := domain }
    else r = .fault (if sect then 0b1101#4 else 0b1111#4) domain
  | true, true =>
    r = .mapped { pa := pa, c := c, b := b, abortFs := if sect then 0b1000#4 else 0b1010#4, abortDomain := domain }

/-- The word of the translation table at an address, once every buffered write has been performed. -/
def tableWord (s : State) (a : Word) : Word := s.drainAll.memoryWord a

/-- A subpage's access permission: field `k` of the four, ap0 in bits [5:4] (21 R179, R182). -/
def apField (d : Word) (k : BitVec 2) : BitVec 2 := d.extractLsb' (4 + 2 * k.toNat) 2

/-- What a level two descriptor decides (21 R177 to R183): `d1` is the level one descriptor, `coarse` its kind. -/
def PageDecides (s : State) (d1 d2 mva : Word) (coarse priv write : Bool) (r : Translation) : Prop :=
  match d2.extractLsb' 0 2 with
  | 0b00#2 => r = .fault 0b0111#4 (d1.extractLsb' 5 4)
  | 0b01#2 =>
    Decides s false (d1.extractLsb' 5 4) (apField d2 (mva.extractLsb' 14 2)) (d2.extractLsb' 16 16 ++ mva.extractLsb' 0 16)
      (d2.getLsbD 3) (d2.getLsbD 2) priv write r
  | 0b10#2 =>
    Decides s false (d1.extractLsb' 5 4) (apField d2 (mva.extractLsb' 10 2)) (d2.extractLsb' 12 20 ++ mva.extractLsb' 0 12)
      (d2.getLsbD 3) (d2.getLsbD 2) priv write r
  | _ =>
    if coarse then r = .tinyInCoarse
    else
      Decides s false (d1.extractLsb' 5 4) (d2.extractLsb' 4 2) (d2.extractLsb' 10 22 ++ mva.extractLsb' 0 10)
        (d2.getLsbD 3) (d2.getLsbD 2) priv write r

/-- The sizes of TLB entries (10 R74): how many bits of the address lie inside, SIZE_C and SIZE_R2. -/
def entrySizes : List (Nat × BitVec 4 × BitVec 4) :=
  [(20, 0b1111#4, 0b1000#4), (16, 0b0111#4, 0b0100#4), (14, 0b0011#4, 0b0010#4), (12, 0b0001#4, 0b0000#4),
    (10, 0b0000#4, 0b0001#4)]

/-- A walk has written the entry of a translation at the victim, which has moved on (10 R74, 21 R170, 46 R598): its size, domain,
permission, C and B, the address bits above its size, and a clear P bit (the model's choice of log 51). -/
structure TlbFilled (s t : State) (mva : Word) (size : Nat × BitVec 4 × BitVec 4) (domain : BitVec 4) (ap : BitVec 2) (c b : Bool)
    (pa : Word) : Prop where
  tag : (t.tlbEntry s.tlb.victim.toNat).tag = mva.extractLsb' 10 22
  sizes : (t.tlbEntry s.tlb.victim.toNat).sizeC = size.2.1 ∧ (t.tlbEntry s.tlb.victim.toNat).sizeR2 = size.2.2
  flags : (t.tlbEntry s.tlb.victim.toNat).valid = true ∧ (t.tlbEntry s.tlb.victim.toNat).preserve = false
  ram1 : (t.tlbEntry s.tlb.victim.toNat).ram1 =
    ((1#16) <<< domain.toNat) ++ BitVec.ofBool (!c) ++ BitVec.ofBool (!b) ++ ((1#4) <<< ap.toNat)
  base : (t.tlbEntry s.tlb.victim.toNat).paTag.toNat * 2 ^ 10 = pa.toNat / 2 ^ size.1 * 2 ^ size.1
  others : OtherEntriesSame s.tlb.victim.toNat s t
  victim : t.tlb.victim = nextVictim s.tlb.base s.tlb.victim
  lockdown : t.tlb.base = s.tlb.base ∧ t.tlb.p = s.tlb.p ∧ t.tlb.index2 = s.tlb.index2

/-- The four subpage permissions agree (21 R171). -/
def OnePermission (d : Word) : Prop :=
  apField d 0#2 = apField d 1#2 ∧ apField d 0#2 = apField d 2#2 ∧ apField d 0#2 = apField d 3#2

/-- What a level two descriptor leaves of the TLB (21 R170, R171): a page whose subpage permissions agree is one entry, else the entry
covers the subpage; a fault writes nothing (D21). -/
def PageFills (s t : State) (d1 d2 mva : Word) (coarse : Bool) : Prop :=
  match d2.extractLsb' 0 2 with
  | 0b00#2 => t.tlb = s.tlb
  | 0b01#2 =>
    (OnePermission d2 →
      TlbFilled s t mva (16, 0b0111#4, 0b0100#4) (d1.extractLsb' 5 4) (apField d2 0#2) (d2.getLsbD 3) (d2.getLsbD 2)
        (d2.extractLsb' 16 16 ++ mva.extractLsb' 0 16)) ∧
    (¬ OnePermission d2 →
      TlbFilled s t mva (14, 0b0011#4, 0b0010#4) (d1.extractLsb' 5 4) (apField d2 (mva.extractLsb' 14 2)) (d2.getLsbD 3)
        (d2.getLsbD 2) (d2.extractLsb' 16 16 ++ mva.extractLsb' 0 16))
  | 0b10#2 =>
    (OnePermission d2 →
      TlbFilled s t mva (12, 0b0001#4, 0b0000#4) (d1.extractLsb' 5 4) (apField d2 0#2) (d2.getLsbD 3) (d2.getLsbD 2)
        (d2.extractLsb' 12 20 ++ mva.extractLsb' 0 12)) ∧
    (¬ OnePermission d2 →
      TlbFilled s t mva (10, 0b0000#4, 0b0001#4) (d1.extractLsb' 5 4) (apField d2 (mva.extractLsb' 10 2)) (d2.getLsbD 3)
        (d2.getLsbD 2) (d2.extractLsb' 12 20 ++ mva.extractLsb' 0 12))
  | _ =>
    if coarse then t.tlb = s.tlb
    else
      TlbFilled s t mva (10, 0b0000#4, 0b0001#4) (d1.extractLsb' 5 4) (d2.extractLsb' 4 2) (d2.getLsbD 3) (d2.getLsbD 2)
        (d2.extractLsb' 10 22 ++ mva.extractLsb' 0 10)

/-! The debugger. -/

/-- The next event is one of the debugger's, on a core in debug state whose mode is legal, with DBGTCKEN High, and not at system
speed. -/
structure Debugging (s : State) (e : EnvEvent) (rest : List EnvEvent) : Prop where
  event : s.env = e :: rest
  clocked : s.pins.dbgtcken = true
  halted : s.dbg.halted = true
  slow : s.dbg.systemSpeed = false
  legal : legalMode s.cpsr.m = true

/-- The state in which an event begins. -/
def atEvent (s : State) (rest : List EnvEvent) : State := { s.clearOutputs with env := rest }

/-- What User mode and its exceptions leave of the saved status registers and the banked registers (60 R660): all, or all but those
of the mode an exception enters. -/
structure BanksKept (except : Option (BitVec 5)) (s t : State) : Prop where
  statuses : ∀ m : BitVec 5, except ≠ some m → t.spsrOf m = s.spsrOf m
  registers : ∀ i : Fin 30, 15 ≤ i.val → (∀ m : BitVec 5, except = some m → i ≠ physIndex m 14#4) → t.gpr[i] = s.gpr[i]

end Sys2Proof.Claims
end

