-- ==== Sys2Proof/Certificates/Slice0/Obligations.lean ====
section
/-! DEFINITION. The statements for the provers. -/

open Sys2Proof Sys2Proof.Machine Sys2Proof.Claims

/-! Encoding and the step. -/

/-- Every well-formed instruction is what the decoder reads from its own encoding (30 R236, R261). -/
def Obligations.DecodeInvertsEncode : Prop :=
  ∀ i : Instr, i.wellFormed = true →
    match encode i with
    | .arm w => decodeTableWord 32 w.toNat = some i
    | .thumb h => decodeTableWord 16 h.toNat = some i

/-- Words of 95_test_vectors.md decode to their instructions. -/
def Obligations.SampleWordsDecode : Prop :=
  decodeTableWord 32 0xE3811001 = some (.orrImm .al false 1#4 1#4 0#4 1#8) ∧
  decodeTableWord 32 0xE0802000 = some (.addShift .al false 0#4 2#4 0#5 .lsl 0#4) ∧
  decodeTableWord 32 0xE1B00251 = some (.movRegShift .al true 0#4 2#4 .asr 1#4) ∧
  decodeTableWord 32 0xE25EF004 = some (.subImm .al true 14#4 15#4 0#4 4#8) ∧
  decodeTableWord 32 0xE12FFF10 = some (.bx .al 0#4) ∧
  decodeTableWord 32 0xEAFFFFF9 = some (.b .al 0xFFFFF9#24) ∧
  decodeTableWord 32 0xE7110102 = some (.ldrRegPre .al false false 1#4 0#4 2#5 .lsl 2#4) ∧
  decodeTableWord 32 0xE1C100B2 = some (.strhImm .al true true false 1#4 0#4 0#4 2#4) ∧
  decodeTableWord 32 0xE880FFFF = some (.stm .al false true false 0#4 0xFFFF#16) ∧
  decodeTableWord 32 0xE1010092 = some (.swp .al 1#4 0#4 2#4) ∧
  decodeTableWord 32 0xEF123456 = some (.swi .al 0x123456#24) ∧
  decodeTableWord 32 0xEE011F10 = some (.mcrControl .al 1#4) ∧
  decodeTableWord 32 0xEE4F2FD7 = some (.mcrCacheCamWrite .al 2#4) ∧
  decodeTableWord 32 0xEE010E10 = some (.mcrDccData .al 0#3 0#4 0#3 0#4) ∧
  decodeTableWord 16 0x6000 = some (.tStrImm 0#5 0#3 0#3) ∧
  decodeTableWord 16 0x4678 = some (.tMovHi false true 7#3 0#3) ∧
  decodeTableWord 16 0x4778 = some (.tBx true 7#3) ∧
  decodeTableWord 16 0xDF05 = some (.tSwi 5#8)

/-- The first slot of the filled queue is decoded and executed; then debug state is entered if a watchpoint was hit, the queue is
filled and the ETM outputs follow. -/
def Obligations.StepRunsTheDecodedInstruction : Prop :=
  ∀ (s : State) (q : FetchSlot) (rest : List FetchSlot) (i : Instr), CoreRuns s →
    (prefetched s).queue = q :: rest → q.mark = .ok → q.breakpoint = false → (prefetched s).requestDue = false →
    (prefetched s).pendingInterrupt = none → (prefetched s).decodeBits q.bits = .ok i →
      step s = onNext (exec i (prefetched s)) (fun t => ended t.afterInstr) ∧
      ∀ t : State, exec i (prefetched s) = .next t → t.dbg.watchHit = false → step s = .next (ended t)

/-- With the MMU off and the queue empty, the first slot holds the bytes at the PC in the byte order of control bit B. Filling the
queue, before an instruction or at the end of a step, changes no register, no fault register and no byte of memory. -/
def Obligations.FetchTakesTheBytesAtThePc : Prop :=
  (∀ s : State, Quiet s → s.queue = [] → s.regionOf (s.relocate (wordAlign s.pc)) = .ram →
    ∃ (q : FetchSlot) (rest : List FetchSlot), (prefetched s).queue = q :: rest ∧ q.addr = s.pc ∧ q.mark = .ok ∧
      q.breakpoint = false ∧
      (s.cpsr.t = false → ∀ j : Nat, j < 4 →
        byteOfValue s.cp15.b 4 j q.bits = s.settledByte (s.relocate (wordAlign s.pc) + BitVec.ofNat 32 j)) ∧
      (s.cpsr.t = true → ∀ j : Nat, j < 2 →
        byteOfValue s.cp15.b 2 j q.bits =
          s.settledByte (s.relocate (wordAlign s.pc) + (s.pc &&& 2#32) + BitVec.ofNat 32 j))) ∧
  (∀ s : State, OnlyFetched s (prefetched s)) ∧
  ∀ s : State, OnlyFetched s (ended s)

/-- An ARM instruction whose condition fails only advances the PC. -/
def Obligations.FailedConditionOnlyAdvances : Prop :=
  ∀ (i : Instr) (w : Word) (s : State), encode i = .arm w →
    condPassed (Cond.ofBits (w.extractLsb' 28 4)) s.cpsr = false → exec i s = .next s.advance

/-- The sixteen condition codes: which flags each one tests; b1111 never passes. -/
def Obligations.ConditionCodes : Prop :=
  ∀ p : Psr,
    (condPassed (Cond.ofBits 0b0000#4) p = true ↔ p.z = true) ∧ (condPassed (Cond.ofBits 0b0001#4) p = true ↔ p.z = false) ∧
    (condPassed (Cond.ofBits 0b0010#4) p = true ↔ p.c = true) ∧ (condPassed (Cond.ofBits 0b0011#4) p = true ↔ p.c = false) ∧
    (condPassed (Cond.ofBits 0b0100#4) p = true ↔ p.n = true) ∧ (condPassed (Cond.ofBits 0b0101#4) p = true ↔ p.n = false) ∧
    (condPassed (Cond.ofBits 0b0110#4) p = true ↔ p.v = true) ∧ (condPassed (Cond.ofBits 0b0111#4) p = true ↔ p.v = false) ∧
    (condPassed (Cond.ofBits 0b1000#4) p = true ↔ p.c = true ∧ p.z = false) ∧
    (condPassed (Cond.ofBits 0b1001#4) p = true ↔ p.c = false ∨ p.z = true) ∧
    (condPassed (Cond.ofBits 0b1010#4) p = true ↔ p.n = p.v) ∧ (condPassed (Cond.ofBits 0b1011#4) p = true ↔ p.n ≠ p.v) ∧
    (condPassed (Cond.ofBits 0b1100#4) p = true ↔ p.z = false ∧ p.n = p.v) ∧
    (condPassed (Cond.ofBits 0b1101#4) p = true ↔ p.z = true ∨ p.n ≠ p.v) ∧
    condPassed (Cond.ofBits 0b1110#4) p = true ∧ condPassed (Cond.ofBits 0b1111#4) p = false

/-- Which physical register a number names in each mode: the table of R23, in which no two copies overlap; r15 reads as the address + 8,
in Thumb state + 4. -/
def Obligations.RegisterBanking : Prop :=
  (∀ (m1 m2 : BitVec 5) (r1 r2 : RegNum), m1 ∈ modes → m2 ∈ modes → r1 ≠ 15#4 → r2 ≠ 15#4 →
    (physIndex m1 r1 = physIndex m2 r2 ↔ r1 = r2 ∧ bank m1 r1 = bank m2 r2)) ∧
  (∀ r : RegNum, r ≠ 15#4 → userIndex r = physIndex 0b10000#5 r) ∧
  (∀ (s : State) (r : RegNum) (v : Word), r ≠ 15#4 → s.cpsr.m ∈ modes → s.bankHazard = false →
    (s.setReg r v).reg r = v ∧
    (∀ (m : BitVec 5) (r' : RegNum), m ∈ modes → r' ≠ 15#4 → (r' ≠ r ∨ bank m r' ≠ bank s.cpsr.m r) →
      (s.setReg r v).gpr[physIndex m r'] = s.gpr[physIndex m r']) ∧
    ∀ (m : BitVec 5), m ∈ modes → bank m r = bank s.cpsr.m r →
      ({ s.setReg r v with cpsr := { s.cpsr with m := m } } : State).reg r = v) ∧
  ∀ s : State, s.reg 15#4 = s.pc + (if s.cpsr.t then 4#32 else 8#32)

/-! Data processing. -/

/-- AND, EOR, ORR, MOV, BIC and MVN in their three operand forms write Rd and, with S, the flags. That r15 as Rn or Rm of a register shift
is the address + 12, where 93 U6 says refuse, is the model's choice of log 9. -/
def Obligations.LogicalOperationsWriteRd : Prop :=
  ∀ (op : LogicOp) (form : DpForm) (cond : Cond) (sets : Bool) (rn rd : RegNum) (s : State),
    condPassed cond s.cpsr = true → form.ok → rd ≠ 15#4 →
      exec (op.instr cond sets rn rd form) s =
        .next (if sets then
            logicWritten s rd (op.value (form.first s rn) (form.operand s).value) (form.operand s).carry
          else (s.setReg rd (op.value (form.first s rn) (form.operand s).value)).advance)

/-- SUB, RSB, ADD, ADC, SBC and RSC in their three operand forms write Rd and, with S, the flags of the exact result. That r15 as Rn or
Rm of a register shift is the address + 12, where 93 U6 says refuse, is the model's choice of log 9. -/
def Obligations.ArithmeticOperationsWriteRd : Prop :=
  ∀ (op : ArithOp) (form : DpForm) (cond : Cond) (sets : Bool) (rn rd : RegNum) (s : State),
    condPassed cond s.cpsr = true → form.ok → rd ≠ 15#4 →
      exec (op.instr cond sets rn rd form) s =
        .next (if sets then arithWritten op s rd (form.first s rn) (form.operand s).value
          else (s.setReg rd (op.value (form.first s rn) (form.operand s).value s.cpsr.c)).advance)

/-- TST, TEQ, CMP and CMN write the flags of AND, EOR, SUB and ADD and no register. That r15 as Rn or Rm of a register shift is the
address + 12, where 93 U6 says refuse, is the model's choice of log 9. -/
def Obligations.ComparisonsWriteFlagsOnly : Prop :=
  ∀ (form : DpForm) (cond : Cond) (rn : RegNum) (s : State), condPassed cond s.cpsr = true → form.ok →
    exec (tstInstr cond rn form) s =
      .next (flagged s (logicFlags s.cpsr (form.first s rn &&& (form.operand s).value) (form.operand s).carry)) ∧
    exec (teqInstr cond rn form) s =
      .next (flagged s (logicFlags s.cpsr (form.first s rn ^^^ (form.operand s).value) (form.operand s).carry)) ∧
    exec (cmpInstr cond rn form) s =
      .next (flagged s (ArithOp.sub.flags s.cpsr (form.first s rn) (form.operand s).value)) ∧
    exec (cmnInstr cond rn form) s =
      .next (flagged s (ArithOp.add.flags s.cpsr (form.first s rn) (form.operand s).value))

/-- A data processing result for r15: without S a branch, with S also the CPSR from the SPSR of the mode. User and System mode have
none: the refusal is the treatment of 93 U4 that log 9 takes, where R306 says unpredictable. -/
def Obligations.DataProcessingOfR15 : Prop :=
  ∀ (form : DpForm) (cond : Cond) (rn : RegNum) (s : State) (i : Bool → Instr) (v : Word),
    condPassed cond s.cpsr = true → form.plain →
    ((∃ op : LogicOp, i = (fun sets => op.instr cond sets rn 15#4 form) ∧ v = op.value (s.reg rn) (form.operand s).value) ∨
      ∃ op : ArithOp, i = (fun sets => op.instr cond sets rn 15#4 form) ∧
        v = op.value (s.reg rn) (form.operand s).value s.cpsr.c) →
    exec (i false) s = .next { s with pc := alignPc s.cpsr.t v, queue := [] } ∧
    (∀ p : Psr, s.spsrOf s.cpsr.m = some p →
      exec (i true) s = .next { s with cpsr := p, pc := alignPc p.t v, queue := [] }) ∧
    (s.spsrOf s.cpsr.m = none → exec (i true) s = .refused .noSpsr)

/-- The shifter: what each shift of each amount gives, by value and carry; an immediate amount of 0 means LSL #0, LSR #32, ASR #32
and RRX; the immediate operand is a rotation. The three operand forms take their value from it: Rm shifted by an immediate, Rm shifted
by the low byte of Rs (r15 as Rm is then the address + 12: R307, which log 9 follows against U6), and the rotated immediate. -/
def Obligations.ShifterResults : Prop :=
  (∀ (m : Word) (c : Bool) (t : ShiftType), shiftReg t 0#8 m c = { value := m, carry := c }) ∧
  (∀ (n : BitVec 8) (m : Word) (c : Bool), n ≠ 0#8 →
    ((shiftReg .lsl n m c).value.toNat = m.toNat * 2 ^ n.toNat % 2 ^ 32 ∧
      (shiftReg .lsl n m c).carry = (decide (n.toNat ≤ 32) && m.getLsbD (32 - n.toNat))) ∧
    ((shiftReg .lsr n m c).value.toNat = m.toNat / 2 ^ n.toNat ∧
      (shiftReg .lsr n m c).carry = m.getLsbD (n.toNat - 1)) ∧
    ((shiftReg .asr n m c).value.toInt = m.toInt / 2 ^ n.toNat ∧
      (shiftReg .asr n m c).carry = m.getLsbD (min (n.toNat - 1) 31)) ∧
    ((∀ k : Nat, k < 32 → (shiftReg .ror n m c).value.getLsbD k = m.getLsbD ((k + n.toNat) % 32)) ∧
      (shiftReg .ror n m c).carry = m.getLsbD ((n.toNat + 31) % 32))) ∧
  (∀ (n : BitVec 5) (m : Word) (c : Bool) (t : ShiftType), n ≠ 0#5 → shiftImm t n m c = shiftReg t (n.setWidth 8) m c) ∧
  (∀ (m : Word) (c : Bool),
    shiftImm .lsl 0#5 m c = { value := m, carry := c } ∧
    shiftImm .lsr 0#5 m c = shiftReg .lsr 32#8 m c ∧
    shiftImm .asr 0#5 m c = shiftReg .asr 32#8 m c ∧
    shiftImm .ror 0#5 m c = { value := BitVec.ofBool c ++ m.extractLsb' 1 31, carry := m.getLsbD 0 }) ∧
  (∀ (rot : BitVec 4) (imm8 : BitVec 8) (c : Bool),
    rotatedImm rot imm8 c = shiftReg .ror (rot.setWidth 8 <<< 1) (imm8.setWidth 32) c) ∧
  (∀ (s : State) (rot : BitVec 4) (imm8 : BitVec 8), s.operandImm rot imm8 = rotatedImm rot imm8 s.cpsr.c) ∧
  (∀ (s : State) (amount : BitVec 5) (t : ShiftType) (rm : RegNum),
    s.operandShift amount t rm = shiftImm t amount (s.reg rm) s.cpsr.c) ∧
  ∀ (s : State) (rs : RegNum) (t : ShiftType) (rm : RegNum),
    s.operandRegShift rs t rm =
      shiftReg t ((s.reg rs).extractLsb' 0 8) (if rm = 15#4 then s.pc + 12#32 else s.reg rm) s.cpsr.c

/-! Multiplies, status registers and branches. -/

/-- MUL, MLA and Thumb MUL write the product modulo 2^32 to Rd; with S, C is any value and V stays. The long multiplies write the
64-bit result to RdHi and RdLo; with S, C and V are any values.
That Thumb MUL runs with Rd = Rs, which is Rd = Rm of its ARM form, is the model's choice of log 9. -/
def Obligations.MultipliesWriteTheProduct : Prop :=
  (∀ (cond : Cond) (sets : Bool) (rd rs rm : RegNum) (s : State), condPassed cond s.cpsr = true →
    rd ≠ 15#4 → rs ≠ 15#4 → rm ≠ 15#4 → rd ≠ rm →
      MultipliesTo (.mul cond sets rd rs rm) sets rd (BitVec.ofNat 32 ((s.reg rm).toNat * (s.reg rs).toNat)) s) ∧
  (∀ (cond : Cond) (sets : Bool) (rd rn rs rm : RegNum) (s : State), condPassed cond s.cpsr = true →
    rd ≠ 15#4 → rn ≠ 15#4 → rs ≠ 15#4 → rm ≠ 15#4 → rd ≠ rm →
      MultipliesTo (.mla cond sets rd rn rs rm) sets rd
        (BitVec.ofNat 32 ((s.reg rm).toNat * (s.reg rs).toNat + (s.reg rn).toNat)) s) ∧
  (∀ (rs rd : LowReg) (s : State),
    MultipliesTo (.tMul rs rd) true (rd.setWidth 4) (BitVec.ofNat 32 ((s.lowReg rs).toNat * (s.lowReg rd).toNat)) s) ∧
  (∀ (op : LongOp) (cond : Cond) (rdHi rdLo rs rm : RegNum) (s : State) (r : BitVec 64), condPassed cond s.cpsr = true →
    rdHi ≠ 15#4 → rdLo ≠ 15#4 → rs ≠ 15#4 → rm ≠ 15#4 → rdHi ≠ rdLo → rdHi ≠ rm → rdLo ≠ rm →
    r = op.value (s.reg rm) (s.reg rs) (s.reg rdHi) (s.reg rdLo) →
      exec (op.instr cond false rdHi rdLo rs rm) s =
        .next ((s.setReg rdLo (r.extractLsb' 0 32)).setReg rdHi (r.extractLsb' 32 32)).advance ∧
      ∃ c v : Bool, exec (op.instr cond true rdHi rdLo rs rm) s =
        .next (written (s.setReg rdLo (r.extractLsb' 0 32)) rdHi (r.extractLsb' 32 32)
          { s.cpsr with n := r.msb, z := decide (r = 0), c := c, v := v }).drew)

/-- Operands that the spec's treatment is to refuse (93 U5, U6, U7, U16, U20, U21; log 9): r15 in a multiply, as Rd or Rs of a register
shift, in SWP, and where a single, halfword or block transfer forbids it; clashing registers; the empty list; the User bank forms with
write-back or without banked registers; an odd halfword address; the halfword form with P = 0 and W = 1; the Thumb high register forms
with two low registers, and BX with H1 set. r15 as Rn or Rm of a register shift is not among them, and the refusal of a User bank form in
User or System mode, which 93 does not list, is the model's choice (log 9). -/
def Obligations.ForbiddenOperandsAreRefused : Prop :=
  (∀ (cond : Cond) (sets : Bool) (rd rs rm : RegNum) (s : State), condPassed cond s.cpsr = true →
    ((rd = 15#4 ∨ rs = 15#4 ∨ rm = 15#4) → exec (.mul cond sets rd rs rm) s = .refused .pcOperand) ∧
    (rd ≠ 15#4 → rs ≠ 15#4 → rd = rm → exec (.mul cond sets rd rs rm) s = .refused .registerClash)) ∧
  (∀ (cond : Cond) (sets : Bool) (rd rn rs rm : RegNum) (s : State), condPassed cond s.cpsr = true →
    ((rd = 15#4 ∨ rn = 15#4 ∨ rs = 15#4 ∨ rm = 15#4) → exec (.mla cond sets rd rn rs rm) s = .refused .pcOperand) ∧
    (rd ≠ 15#4 → rn ≠ 15#4 → rs ≠ 15#4 → rd = rm → exec (.mla cond sets rd rn rs rm) s = .refused .registerClash)) ∧
  (∀ (op : LongOp) (cond : Cond) (sets : Bool) (rdHi rdLo rs rm : RegNum) (s : State), condPassed cond s.cpsr = true →
    ((rdHi = 15#4 ∨ rdLo = 15#4 ∨ rs = 15#4 ∨ rm = 15#4) →
      exec (op.instr cond sets rdHi rdLo rs rm) s = .refused .pcOperand) ∧
    (rdHi ≠ 15#4 → rdLo ≠ 15#4 → rs ≠ 15#4 → rm ≠ 15#4 → (rdHi = rdLo ∨ rdHi = rm ∨ rdLo = rm) →
      exec (op.instr cond sets rdHi rdLo rs rm) s = .refused .registerClash)) ∧
  (∀ (op : LogicOp) (cond : Cond) (sets : Bool) (rn rd rs rm : RegNum) (t : ShiftType) (s : State),
    condPassed cond s.cpsr = true → (rd = 15#4 ∨ rs = 15#4) →
      exec (op.instr cond sets rn rd (.regShift rs t rm)) s = .refused .pcOperand) ∧
  (∀ (op : ArithOp) (cond : Cond) (sets : Bool) (rn rd rs rm : RegNum) (t : ShiftType) (s : State),
    condPassed cond s.cpsr = true → (rd = 15#4 ∨ rs = 15#4) →
      exec (op.instr cond sets rn rd (.regShift rs t rm)) s = .refused .pcOperand) ∧
  (∀ (cond : Cond) (rn rm : RegNum) (t : ShiftType) (s : State), condPassed cond s.cpsr = true →
    exec (tstInstr cond rn (.regShift 15#4 t rm)) s = .refused .pcOperand ∧
    exec (teqInstr cond rn (.regShift 15#4 t rm)) s = .refused .pcOperand ∧
    exec (cmpInstr cond rn (.regShift 15#4 t rm)) s = .refused .pcOperand ∧
    exec (cmnInstr cond rn (.regShift 15#4 t rm)) s = .refused .pcOperand) ∧
  (∀ (form : WordForm) (cond : Cond) (byte : Bool) (rd : RegNum) (s : State), condPassed cond s.cpsr = true →
    ((form.offset15 ∨ ((byte = true ∨ form.user = true) ∧ rd = 15#4) ∨ (form.writes ∧ form.base = 15#4)) →
      exec (loadInstr cond rd byte form) s = .refused .pcOperand) ∧
    ((form.offset15 ∨ (byte = true ∧ rd = 15#4) ∨ (form.writes ∧ form.base = 15#4)) →
      exec (storeInstr cond rd byte form) s = .refused .pcOperand) ∧
    (¬ form.offset15 → rd ≠ 15#4 → form.writes → form.base = rd →
      exec (loadInstr cond rd byte form) s = .refused .registerClash ∧
      exec (storeInstr cond rd byte form) s = .refused .registerClash)) ∧
  (∀ (op : HalfLoad) (form : HalfForm) (cond : Cond) (rd : RegNum) (s : State) (i : Instr), condPassed cond s.cpsr = true →
    (i = op.instr cond rd form ∨ i = strhInstr cond rd form) →
    (form.undefined → exec i s = .refused .undefinedNotTrapped) ∧
    (¬ form.undefined → (form.offset15 ∨ rd = 15#4 ∨ (form.writes ∧ form.base = 15#4)) → exec i s = .refused .pcOperand) ∧
    (¬ form.undefined → ¬ form.offset15 → rd ≠ 15#4 → form.writes → form.base = rd → exec i s = .refused .registerClash) ∧
    (form.ok rd → rd ≠ 15#4 → (i = op.instr cond rd form → op.size = .half) → s.debugSpeed = false → s.cp15.a = false →
      (s.relocate (form.addressing s).addr).getLsbD 0 = true → exec i s = .refused .oddHalfword)) ∧
  (∀ (cond : Cond) (p u w : Bool) (rn : RegNum) (regs : BitVec 16) (regs15 : BitVec 15) (s : State),
    condPassed cond s.cpsr = true →
    (rn = 15#4 → ∀ i : Instr, i ∈ ([.ldm cond p u w rn regs, .stm cond p u w rn regs, .ldmUser cond p u w rn regs15,
        .ldmRestore cond p u w rn regs15, .stmUser cond p u w rn regs] : List Instr) → exec i s = .refused .pcOperand) ∧
    (rn ≠ 15#4 → exec (.ldm cond p u w rn 0#16) s = .refused .registerClash ∧
      exec (.stm cond p u w rn 0#16) s = .refused .registerClash) ∧
    (rn ≠ 15#4 → (regs15 = 0#15 ∨ w = true) → exec (.ldmUser cond p u w rn regs15) s = .refused .registerClash) ∧
    (rn ≠ 15#4 → (regs = 0#16 ∨ w = true) → exec (.stmUser cond p u w rn regs) s = .refused .registerClash) ∧
    (rn ≠ 15#4 → w = false → (s.cpsr.m = modeUsr ∨ s.cpsr.m = modeSys) →
      (regs15 ≠ 0#15 → exec (.ldmUser cond p u w rn regs15) s = .refused .userBankInUserMode) ∧
      (regs ≠ 0#16 → exec (.stmUser cond p u w rn regs) s = .refused .userBankInUserMode)) ∧
    (rn ≠ 15#4 → (s.cpsr.m = modeUsr ∨ s.cpsr.m = modeSys) →
      exec (.ldmRestore cond p u w rn regs15) s = .refused .noSpsr)) ∧
  (∀ (rb : LowReg) (s : State), exec (.tPush false 0#8) s = .refused .registerClash ∧
    exec (.tPop false 0#8) s = .refused .registerClash ∧ exec (.tStmia rb 0#8) s = .refused .registerClash ∧
    exec (.tLdmia rb 0#8) s = .refused .registerClash) ∧
  (∀ (cond : Cond) (rn rd rm : RegNum) (s : State), condPassed cond s.cpsr = true →
    ((rn = 15#4 ∨ rd = 15#4 ∨ rm = 15#4) →
      exec (.swp cond rn rd rm) s = .refused .pcOperand ∧ exec (.swpb cond rn rd rm) s = .refused .pcOperand) ∧
    (rn ≠ 15#4 → rd ≠ 15#4 → rm ≠ 15#4 → (rn = rd ∨ rn = rm) →
      exec (.swp cond rn rd rm) s = .refused .registerClash ∧ exec (.swpb cond rn rd rm) s = .refused .registerClash)) ∧
  (∀ (rs rd : LowReg) (s : State),
    exec (.tAddHi false false rs rd) s = .refused .thumbLowRegisters ∧
    exec (.tCmpHi false false rs rd) s = .refused .thumbLowRegisters ∧
    exec (.tMovHi false false rs rd) s = .refused .thumbLowRegisters) ∧
  ∀ (payload : BitVec 7) (s : State), exec (.tBxH1 payload) s = .refused .thumbBxH1

/-- MRS writes the PSR to Rd, its reserved bits 0; MSR writes the selected bytes of the PSR, in User mode the flags alone (R361). The
SPSR is the mode's; User and System mode have none, r15 is no destination of MRS, and a change of T is not allowed: those refusals are
the treatments of 93 U4, U6 and U1 that log 9 takes. -/
def Obligations.StatusRegisterTransfers : Prop :=
  (∀ p : Psr, (psrToWord p).getLsbD 31 = p.n ∧ (psrToWord p).getLsbD 30 = p.z ∧ (psrToWord p).getLsbD 29 = p.c ∧
    (psrToWord p).getLsbD 28 = p.v ∧ (psrToWord p).extractLsb' 8 20 = 0#20 ∧ (psrToWord p).getLsbD 7 = p.i ∧
    (psrToWord p).getLsbD 6 = p.f ∧ (psrToWord p).getLsbD 5 = p.t ∧ (psrToWord p).extractLsb' 0 5 = p.m) ∧
  (∀ (cond : Cond) (rd : RegNum) (s : State), condPassed cond s.cpsr = true → rd ≠ 15#4 →
    exec (.mrs cond false rd) s = .next (s.setReg rd (psrToWord s.cpsr)).advance ∧
    (∀ p : Psr, s.spsrOf s.cpsr.m = some p → exec (.mrs cond true rd) s = .next (s.setReg rd (psrToWord p)).advance) ∧
    ((s.cpsr.m = modeUsr ∨ s.cpsr.m = modeSys) → exec (.mrs cond true rd) s = .refused .noSpsr)) ∧
  (∀ (cond : Cond) (r : Bool) (s : State), condPassed cond s.cpsr = true → exec (.mrs cond r 15#4) s = .refused .pcOperand) ∧
  (∀ (form : MsrForm) (cond : Cond) (mask : BitVec 4) (s : State) (v : Word), condPassed cond s.cpsr = true →
    v = form.operand s →
    (s.privileged = true → (mask.getLsbD 0 = true → v.getLsbD 5 = s.cpsr.t) →
      exec (form.instr cond false mask) s =
        .next { s with cpsr := mixedPsr s.cpsr (mask.getLsbD 3) (mask.getLsbD 0) v }.advance) ∧
    (s.privileged = true → mask.getLsbD 0 = true → v.getLsbD 5 ≠ s.cpsr.t →
      exec (form.instr cond false mask) s = .refused .changesThumbBit) ∧
    (s.cpsr.m = modeUsr → s.dbg.halted = false →
      exec (form.instr cond false mask) s = .next { s with cpsr := mixedPsr s.cpsr (mask.getLsbD 3) false v }.advance) ∧
    (∀ p : Psr, s.spsrOf s.cpsr.m = some p →
      exec (form.instr cond true mask) s =
        .next (s.setSpsrOf s.cpsr.m (mixedPsr p (mask.getLsbD 3) (mask.getLsbD 0) v)).advance) ∧
    (s.spsrOf s.cpsr.m = none → exec (form.instr cond true mask) s = .refused .noSpsr))

/-- B and BL go to the address + 8 + 4 times the signed offset, BL with the return address in r14; BX selects the state by bit 0. The
Thumb branches go to the address + 4 + 2 times the signed offset, the conditional ones where their condition holds; the two halves of
the Thumb BL go to the address + 4 + 2 times the 22-bit offset and leave the return address with bit 0 set in r14. -/
def Obligations.Branches : Prop :=
  (∀ (cond : Cond) (off24 : BitVec 24) (rm : RegNum) (s : State), condPassed cond s.cpsr = true →
    exec (.b cond off24) s =
      .next { s with pc := alignPc s.cpsr.t (s.pc + 8#32 + BitVec.ofInt 32 (4 * off24.toInt)), queue := [] } ∧
    exec (.bl cond off24) s =
      .next { s.setReg 14#4 (s.pc + 4#32) with
        pc := alignPc s.cpsr.t (s.pc + 8#32 + BitVec.ofInt 32 (4 * off24.toInt)), queue := [] } ∧
    exec (.bx cond rm) s = .next (exchanged s (s.reg rm))) ∧
  (∀ s : State, s.cpsr.t = true →
    (∀ (off8 : BitVec 8) (p : Instr × Cond), p ∈ thumbBranches off8 →
      exec p.1 s =
        .next (if condPassed p.2 s.cpsr then
            { s with pc := (s.pc + 4#32 + BitVec.ofInt 32 (2 * off8.toInt)) &&& 0xFFFFFFFE#32, queue := [] }
          else { s with pc := s.pc + 2#32, queue := s.queue.tail })) ∧
    (∀ off11 : BitVec 11, exec (.tB off11) s =
      .next { s with pc := (s.pc + 4#32 + BitVec.ofInt 32 (2 * off11.toInt)) &&& 0xFFFFFFFE#32, queue := [] }) ∧
    (∀ (h2 : Bool) (rs : LowReg), exec (.tBx h2 rs) s = .next (exchanged s (s.reg (BitVec.ofBool h2 ++ rs)))) ∧
    (∀ hi : BitVec 11, exec (.tBlHigh hi) s =
      .next (s.setReg 14#4 (s.pc + 4#32 + BitVec.ofInt 32 (4096 * hi.toInt))).advance) ∧
    (∀ hi lo : BitVec 11, s.bankHazard = false →
      exec (.tBlLow lo) s =
        .next { s.setReg 14#4 ((s.pc + 2#32) ||| 1#32) with
          pc := (s.reg 14#4 + BitVec.ofNat 32 (2 * lo.toNat)) &&& 0xFFFFFFFE#32, queue := [] } ∧
      ∀ t : State, exec (.tBlHigh hi) s = .next t →
        exec (.tBlLow lo) t =
          .next { s.setReg 14#4 ((s.pc + 4#32) ||| 1#32) with
            pc := (s.pc + 4#32 + BitVec.ofInt 32 (2 * (hi ++ lo).toInt)) &&& 0xFFFFFFFE#32, queue := [] }))

/-! Exceptions. -/

/-- Taking an exception saves the link value of R620 and the CPSR, masks IRQ (FIQ also FIQ), enters ARM state in the mode R620 gives
it at its vector (0x00000000 or with control bit V 0xFFFF0000, plus the offset), and changes nothing else. -/
def Obligations.ExceptionEntry : Prop :=
  ∀ s : State,
    Entered .undefined (s.pc + s.instrBytes) s (s.takeException .undefined) ∧
    Entered .swi (s.pc + s.instrBytes) s (s.takeException .swi) ∧
    Entered .prefetchAbort (s.pc + 4#32) s (s.takeException .prefetchAbort) ∧
    Entered .dataAbort (s.pc + 8#32) s (s.takeException .dataAbort) ∧
    Entered .irq (s.pc + 4#32) s (s.takeException .irq) ∧
    Entered .fiq (s.pc + 4#32) s (s.takeException .fiq) ∧
    (s.takeException .undefined).cpsr.m = 0b11011#5 ∧ (s.takeException .swi).cpsr.m = 0b10011#5 ∧
    (s.takeException .prefetchAbort).cpsr.m = 0b10111#5 ∧ (s.takeException .dataAbort).cpsr.m = 0b10111#5 ∧
    (s.takeException .irq).cpsr.m = 0b10010#5 ∧ (s.takeException .fiq).cpsr.m = 0b10001#5 ∧
    (s.takeException .undefined).pc = (if s.cp15.v then 0xFFFF0004#32 else 0x00000004#32) ∧
    (s.takeException .swi).pc = (if s.cp15.v then 0xFFFF0008#32 else 0x00000008#32) ∧
    (s.takeException .prefetchAbort).pc = (if s.cp15.v then 0xFFFF000C#32 else 0x0000000C#32) ∧
    (s.takeException .dataAbort).pc = (if s.cp15.v then 0xFFFF0010#32 else 0x00000010#32) ∧
    (s.takeException .irq).pc = (if s.cp15.v then 0xFFFF0018#32 else 0x00000018#32) ∧
    (s.takeException .fiq).pc = (if s.cp15.v then 0xFFFF001C#32 else 0x0000001C#32)

/-- SWI and the undefined encodings of both states take their exception. -/
def Obligations.SwiAndUndefinedTrap : Prop :=
  (∀ (cond : Cond) (comment : BitVec 24) (s : State), condPassed cond s.cpsr = true →
    exec (.swi cond comment) s = .next (s.takeException .swi)) ∧
  (∀ (cond : Cond) (hi : BitVec 20) (lo : BitVec 4) (s : State), condPassed cond s.cpsr = true →
    exec (.undefined cond hi lo) s = .next (s.takeException .undefined)) ∧
  (∀ (comment : BitVec 8) (s : State), exec (.tSwi comment) s = .next (s.takeException .swi)) ∧
  (∀ (x : BitVec 8) (y : BitVec 9) (z : BitVec 10) (w : BitVec 11) (i : Instr) (s : State),
    i ∈ ([.tUndefCond x, .tUndef11101 w, .tUndefB1 x, .tUndefB2 y, .tUndefB6 y, .tUndefB8 z, .tUndefBC y] : List Instr) →
      exec i s = .next (s.takeException .undefined))

/-- The recommended return instruction of each exception, executed at its vector, restores the CPSR and returns as Table 2-3 of
R623 says. -/
def Obligations.ExceptionReturn : Prop :=
  ∀ (e : Exception) (s : State), s.bankHazard = false →
    exec (returnInstr e) (s.takeException e) =
      .next { s.takeException e with cpsr := s.cpsr, pc := alignPc s.cpsr.t (returnPoint s e), queue := [] }

/-- At a boundary with no debug entry due, FIQ is taken if it is requested and not masked, else IRQ likewise, else an aborted fetch
takes the prefetch abort. -/
def Obligations.InterruptPriority : Prop :=
  ∀ (s : State) (q : FetchSlot) (rest : List FetchSlot), CoreRuns s → (prefetched s).queue = q :: rest →
    q.breakpoint = false → (prefetched s).requestDue = false → (prefetched s).ifen = true →
    (s.pins.fiq = true → s.cpsr.f = false → step s = .next (ended ((prefetched s).takeException .fiq))) ∧
    ((s.pins.fiq = false ∨ s.cpsr.f = true) → s.pins.irq = true → s.cpsr.i = false →
      step s = .next (ended ((prefetched s).takeException .irq))) ∧
    ((s.pins.fiq = false ∨ s.cpsr.f = true) → (s.pins.irq = false ∨ s.cpsr.i = true) →
      (q.mark = .aborted ∨ q.mark = .external) → step s = .next (ended ((prefetched s).takeException .prefetchAbort)))

/-! Loads and stores. -/

/-- FCSE relocation: a virtual address in the low 32MB gets the PID in its upper seven bits, any other is left, and with PID 0 all
are. -/
def Obligations.FcseRelocation : Prop :=
  ∀ (s : State) (va : Word),
    (va.toNat < 2 ^ 25 → (s.relocate va).toNat = s.cp15.pid.toNat * 2 ^ 25 + va.toNat) ∧
    (2 ^ 25 ≤ va.toNat → s.relocate va = va) ∧ (s.cp15.pid = 0#7 → s.relocate va = va)

/-- LDR, LDRT, LDRB and LDRBT: the address, the rotated word or the byte, the written-back base. STR, STRT, STRB and STRBT: the
address, the data (r15 is the address + 12), the written-back base. -/
def Obligations.SingleTransfers : Prop :=
  (∀ (form : WordForm) (cond : Cond) (byte : Bool) (rd : RegNum) (s : State) (v : Word), condPassed cond s.cpsr = true →
    form.ok rd → ((byte = true ∨ form.user = true) → rd ≠ 15#4) → Quiet s →
    Ready s (form.addressing s).addr (byteOrWord byte) →
    v = (if byte then readValue s (form.addressing s).addr .byte
      else (readValue s (form.addressing s).addr .word).rotateRight (8 * ((form.addressing s).addr.toNat % 4))) →
    exec (loadInstr cond rd byte form) s =
      .next (if rd = 15#4 then
          ((afterRead s (form.addressing s).addr (byteOrWord byte) (form.priv s) false).writeBack (form.addressing s)
            form.base).branchTo v
        else
          (((afterRead s (form.addressing s).addr (byteOrWord byte) (form.priv s) false).writeBack (form.addressing s)
            form.base).setReg rd v).advance)) ∧
  (∀ (form : WordForm) (cond : Cond) (byte : Bool) (rd : RegNum) (s : State), condPassed cond s.cpsr = true →
    form.ok rd → (byte = true → rd ≠ 15#4) → Quiet s → Ready s (form.addressing s).addr (byteOrWord byte) →
    exec (storeInstr cond rd byte form) s =
      .next ((afterWrite s (form.addressing s).addr (byteOrWord byte)
        (if rd = 15#4 then s.pc + 12#32 else s.reg rd) (form.priv s) false).writeBack (form.addressing s)
          form.base).advance)

/-- LDRH, LDRSB and LDRSH write the zero or sign extended value; STRH stores the low halfword of Rd. -/
def Obligations.HalfwordAndSignedTransfers : Prop :=
  (∀ (op : HalfLoad) (form : HalfForm) (cond : Cond) (rd : RegNum) (s : State), condPassed cond s.cpsr = true →
    form.ok rd → rd ≠ 15#4 → Quiet s → Ready s (form.addressing s).addr op.size →
    exec (op.instr cond rd form) s =
      .next ((((afterRead s (form.addressing s).addr op.size s.privileged false).writeBack (form.addressing s)
        form.base).setReg rd (op.value (readValue s (form.addressing s).addr op.size))).advance)) ∧
  (∀ (form : HalfForm) (cond : Cond) (rd : RegNum) (s : State), condPassed cond s.cpsr = true →
    form.ok rd → rd ≠ 15#4 → Quiet s → Ready s (form.addressing s).addr .half →
    exec (strhInstr cond rd form) s =
      .next ((afterWrite s (form.addressing s).addr .half (s.reg rd) s.privileged false).writeBack (form.addressing s)
        form.base).advance)

/-- A read gives the bytes of memory in the byte order of control bit B, zero extended, and changes no byte and no register. -/
def Obligations.ReadsGiveTheBytesOfMemory : Prop :=
  ∀ (s : State) (a : Word) (size : Size) (priv lock : Bool),
    (∀ j : Nat, j < sizeBytes size →
      byteOfValue s.cp15.b (sizeBytes size) j (readValue s a size) =
        s.settledByte (firstByte size (s.relocate a) + BitVec.ofNat 32 j)) ∧
    (readValue s a size).toNat < 2 ^ (8 * sizeBytes size) ∧
    MemoryStep s (afterRead s a size priv lock) ∧
    (s.masters = [] → ∀ b : Word, (afterRead s a size priv lock).settledByte b = s.settledByte b)

/-- A write stores the low bytes of the value in the byte order of control bit B and changes no other byte and no register. -/
def Obligations.WritesStoreTheBytes : Prop :=
  ∀ (s : State) (a : Word) (size : Size) (v : Word) (priv lock : Bool), cellsWf s.mem = true → s.masters = [] →
    s.regionOf (firstByte size (s.relocate a)) = .ram →
    (∀ j : Nat, j < sizeBytes size →
      (afterWrite s a size v priv lock).settledByte (firstByte size (s.relocate a) + BitVec.ofNat 32 j) =
        byteOfValue s.cp15.b (sizeBytes size) j v) ∧
    (∀ b : Word, (∀ j : Nat, j < sizeBytes size → b ≠ firstByte size (s.relocate a) + BitVec.ofNat 32 j) →
      (afterWrite s a size v priv lock).settledByte b = s.settledByte b) ∧
    MemoryStep s (afterWrite s a size v priv lock)

/-- When a data access aborts. With alignment checking on, a misaligned word or halfword access: FS is b00x1. An access that the MMU
faults: FS and domain are those of the fault. An access to an ERROR region that is neither cached nor buffered (nor, under lock, in
cacheable memory): FS and domain are the mapping's. FAR is the MVA, no byte of memory and no register changes. With alignment
checking on, a misaligned LDR, LDRT, STR or STRT takes the data abort with its base written back. -/
def Obligations.DataAccessesAbort : Prop :=
  (∀ (s : State) (a v : Word) (size : Size) (priv lock : Bool), s.debugSpeed = false → s.cp15.a = true →
    ((size = .word ∧ a.extractLsb' 0 2 ≠ 0#2) ∨ (size = .half ∧ a.getLsbD 0 = true)) →
    (∃ t : State, dataRead s a size priv lock = .abort t ∧ Aborted (s.relocate a) (fun f => isAlignmentFsr f = true) s t) ∧
    ∃ t : State, dataWrite s a size v priv lock = .abort t ∧
      Aborted (s.relocate a) (fun f => isAlignmentFsr f = true) s t) ∧
  (∀ (s : State) (a v : Word) (size : Size) (priv lock : Bool) (fs d : BitVec 4), Aligned s a size →
    ((translate s (s.relocate a) priv false).1 = .fault fs d →
      ∃ t : State, dataRead s a size priv lock = .abort t ∧ Aborted (s.relocate a) (fun f => f = d ++ fs) s t) ∧
    ((translate s (s.relocate a) priv true).1 = .fault fs d →
      ∃ t : State, dataWrite s a size v priv lock = .abort t ∧ Aborted (s.relocate a) (fun f => f = d ++ fs) s t)) ∧
  (∀ (s : State) (a v : Word) (size : Size) (priv lock : Bool) (m : Mapping), Aligned s a size →
    s.regionOf (firstByte size m.pa) = .error →
    (lock = true → m.c = false) →
    ((translate s (s.relocate a) priv false).1 = .mapped m → (lock = false → s.cacheOn = false ∨ m.c = false) →
      ∃ t : State, dataRead s a size priv lock = .abort t ∧
        Aborted (s.relocate a) (fun f => f = m.abortDomain ++ m.abortFs) s t) ∧
    ((translate s (s.relocate a) priv true).1 = .mapped m →
      (lock = false → s.cp15.m = false ∨ s.cp15.w = false ∨ m.b = false) →
      ∃ t : State, dataWrite s a size v priv lock = .abort t ∧
        Aborted (s.relocate a) (fun f => f = m.abortDomain ++ m.abortFs) s t)) ∧
  (∀ (form : WordForm) (cond : Cond) (rd : RegNum) (s : State) (i : Instr), condPassed cond s.cpsr = true →
    form.ok rd → (form.user = true → rd ≠ 15#4) → s.dbg.halted = false → s.cp15.a = true →
    (form.addressing s).addr.extractLsb' 0 2 ≠ 0#2 →
    (i = loadInstr cond rd false form ∨ i = storeInstr cond rd false form) →
    ∃ t : State, exec i s = .next t ∧ AtVector .dataAbort t ∧ t.spsrAbt = s.cpsr ∧
      t.gpr[physIndex modeAbt 14#4] = s.pc + 8#32 ∧
      t.cp15.far = s.relocate (form.addressing s).addr ∧ isAlignmentFsr t.cp15.fsr = true ∧
      ((form.addressing s).writeback = true → physIndex s.cpsr.m form.base ≠ physIndex modeAbt 14#4 →
        t.gpr[physIndex s.cpsr.m form.base] = (form.addressing s).offAddr) ∧
      (∀ k : Fin 30, k ≠ physIndex modeAbt 14#4 →
        ((form.addressing s).writeback = true → k ≠ physIndex s.cpsr.m form.base) → t.gpr[k] = s.gpr[k]) ∧
      (∀ m : BitVec 5, m ≠ modeAbt → t.spsrOf m = s.spsrOf m) ∧
      t.cp15 = { s.cp15 with fsr := t.cp15.fsr, far := t.cp15.far } ∧ t.cache = s.cache ∧ t.tlb = s.tlb ∧
      { t.dcc with dbgAbt := s.dcc.dbgAbt } = s.dcc ∧
      (s.masters = [] → ∀ a : Word, t.settledByte a = s.settledByte a))

/-- A single transfer whose access aborts takes the data abort with no register loaded and the base written back as if it had
completed: LDR and STR in all forms, the halfword and signed transfers, the Thumb transfers, either access of SWP and SWPB, and LDC
and STC at their first word. That such an LDC or STC ends there, also where more words are due, and gives the coprocessor nothing, is the
model's choice of log 38, where R447 and R448 give the base and the abort only. -/
def Obligations.AbortedTransfersTakeTheDataAbort : Prop :=
  (∀ (form : WordForm) (cond : Cond) (byte : Bool) (rd : RegNum) (s t : State), condPassed cond s.cpsr = true → form.ok rd →
    (((byte = true ∨ form.user = true) → rd ≠ 15#4) →
      dataRead s (form.addressing s).addr (byteOrWord byte) (form.priv s) false = .abort t →
      exec (loadInstr cond rd byte form) s =
        .next ((t.writeBack (form.addressing s) form.base).takeException .dataAbort)) ∧
    ((byte = true → rd ≠ 15#4) →
      dataWrite s (form.addressing s).addr (byteOrWord byte) (if rd = 15#4 then s.pc + 12#32 else s.reg rd) (form.priv s)
        false = .abort t →
      exec (storeInstr cond rd byte form) s =
        .next ((t.writeBack (form.addressing s) form.base).takeException .dataAbort))) ∧
  (∀ (op : HalfLoad) (form : HalfForm) (cond : Cond) (rd : RegNum) (s t : State), condPassed cond s.cpsr = true →
    form.ok rd → rd ≠ 15#4 →
    (dataRead s (form.addressing s).addr op.size s.privileged false = .abort t →
      exec (op.instr cond rd form) s = .next ((t.writeBack (form.addressing s) form.base).takeException .dataAbort)) ∧
    (dataWrite s (form.addressing s).addr .half (s.reg rd) s.privileged false = .abort t →
      exec (strhInstr cond rd form) s =
        .next ((t.writeBack (form.addressing s) form.base).takeException .dataAbort))) ∧
  (∀ (ro rb rd : LowReg) (imm5 : BitVec 5) (word8 : BitVec 8) (s t : State) (p : Instr × Word × Size),
    (p ∈ thumbLoads ro rb rd imm5 word8 s → dataRead s p.2.1 p.2.2 s.privileged false = .abort t →
      exec p.1 s = .next (t.takeException .dataAbort)) ∧
    (p ∈ thumbStores ro rb rd imm5 word8 s → dataWrite s p.2.1 p.2.2 (s.lowReg rd) s.privileged false = .abort t →
      exec p.1 s = .next (t.takeException .dataAbort))) ∧
  (∀ (cond : Cond) (rn rd rm : RegNum) (byte : Bool) (s t u : State) (v : Word), condPassed cond s.cpsr = true →
    rn ≠ 15#4 → rd ≠ 15#4 → rm ≠ 15#4 → rn ≠ rd → rn ≠ rm →
    (dataRead s (s.reg rn) (byteOrWord byte) s.privileged true = .abort t →
      exec (if byte then .swpb cond rn rd rm else .swp cond rn rd rm) s = .next (t.takeException .dataAbort)) ∧
    (dataRead s (s.reg rn) (byteOrWord byte) s.privileged true = .done v t →
      dataWrite t (s.reg rn) (byteOrWord byte) (s.reg rm) s.privileged true = .abort u →
      exec (if byte then .swpb cond rn rd rm else .swp cond rn rd rm) s = .next (u.takeException .dataAbort))) ∧
  ∀ (cond : Cond) (p u n w : Bool) (rn : RegNum) (crd cp : BitVec 4) (off8 : BitVec 8) (s t : State) (first : Word)
    (more : List Word), condPassed cond s.cpsr = true → (cp = 4#4 ∨ cp = 5#4 ∨ cp = 6#4 ∨ cp = 7#4) →
    copResponse s.copros cp s.sampledTrans = .accept first more → (rn = 15#4 → p = true ∧ w = false) →
    (dataRead { s with copros := copAnswered s.copros cp } (copAddressing p u w rn off8 s).addr .word s.privileged false =
        .abort t →
      exec (.ldc cond p u n w rn crd cp off8) s =
        .next ((t.writeBack (copAddressing p u w rn off8 s) rn).takeException .dataAbort)) ∧
    (dataWrite { s with copros := copAnswered s.copros cp } (copAddressing p u w rn off8 s).addr .word first s.privileged
        false = .abort t →
      exec (.stc cond p u n w rn crd cp off8) s =
        .next ((t.writeBack (copAddressing p u w rn off8 s) rn).takeException .dataAbort))

/-- LDM, Thumb POP and LDMIA: the words in the listed registers from the lowest address up, the base, the PC. LDM with `^`: without r15
the User registers are loaded, with r15 the SPSR becomes the CPSR. -/
def Obligations.LoadMultiple : Prop :=
  (∀ (cond : Cond) (p u w : Bool) (rn : RegNum) (regs : BitVec 16) (s : State), condPassed cond s.cpsr = true →
    rn ≠ 15#4 → regList regs ≠ [] → Quiet s →
    BlockReady s (blockStart p u (s.reg rn) (regList regs).length) (regList regs).length →
    ∃ t : State, exec (.ldm cond p u w rn regs) s = .next t ∧
      BlockLoaded (physIndex s.cpsr.m) w rn (blockEnd u (s.reg rn) (regList regs).length) (regList regs)
        (blockStart p u (s.reg rn) (regList regs).length) s t ∧
      t.cpsr = s.cpsr ∧
      (15#4 ∉ regList regs → t.pc = s.pc + s.instrBytes) ∧
      (∀ k : Nat, (regList regs)[k]? = some 15#4 →
        t.pc = alignPc s.cpsr.t (blockWord s (blockStart p u (s.reg rn) (regList regs).length) k))) ∧
  (∀ (r : Bool) (regs : BitVec 8), LoadsBlock (.tPop r regs) false true true 13#4 (popList r regs)) ∧
  (∀ (rb : LowReg) (regs : BitVec 8),
    LoadsBlock (.tLdmia rb regs) false true true (rb.setWidth 4) (regList (0#8 ++ regs))) ∧
  (∀ (cond : Cond) (p u : Bool) (rn : RegNum) (regs : BitVec 15) (s : State), condPassed cond s.cpsr = true →
    rn ≠ 15#4 → regs ≠ 0#15 → s.cpsr.m ≠ modeUsr → s.cpsr.m ≠ modeSys → Quiet s →
    BlockReady s (blockStart p u (s.reg rn) (regList (0#1 ++ regs)).length) (regList (0#1 ++ regs)).length →
    ∃ t : State, exec (.ldmUser cond p u false rn regs) s = .next t ∧
      BlockLoaded userIndex false rn 0#32 (regList (0#1 ++ regs))
        (blockStart p u (s.reg rn) (regList (0#1 ++ regs)).length) s t ∧
      t.cpsr = s.cpsr ∧ t.pc = s.pc + s.instrBytes) ∧
  (∀ (cond : Cond) (p u w : Bool) (rn : RegNum) (regs : BitVec 15) (s : State) (psr : Psr), condPassed cond s.cpsr = true →
    rn ≠ 15#4 → s.spsrOf s.cpsr.m = some psr → Quiet s →
    BlockReady s (blockStart p u (s.reg rn) (regList (1#1 ++ regs)).length) (regList (1#1 ++ regs)).length →
    ∃ t : State, exec (.ldmRestore cond p u w rn regs) s = .next t ∧
      BlockLoaded (physIndex s.cpsr.m) w rn (blockEnd u (s.reg rn) (regList (1#1 ++ regs)).length)
        (regList (1#1 ++ regs)) (blockStart p u (s.reg rn) (regList (1#1 ++ regs)).length) s t ∧
      t.cpsr = psr ∧
      t.pc = alignPc psr.t (blockWord s (blockStart p u (s.reg rn) (regList (1#1 ++ regs)).length)
        ((regList (1#1 ++ regs)).length - 1)))

/-- STM, STM with `^`, Thumb PUSH and STMIA: the registers in ascending order from the lowest address up, the base. -/
def Obligations.StoreMultiple : Prop :=
  (∀ (cond : Cond) (p u w : Bool) (rn : RegNum) (regs : BitVec 16) (s : State), condPassed cond s.cpsr = true →
    rn ≠ 15#4 → regList regs ≠ [] → (w = true → s.bankHazard = false) → cellsWf s.mem = true → Quiet s →
    BlockReady s (blockStart p u (s.reg rn) (regList regs).length) (regList regs).length →
    ∃ t : State, exec (.stm cond p u w rn regs) s = .next t ∧
      WordsStored (regList regs).length
        (fun k => blockStored false w rn (blockEnd u (s.reg rn) (regList regs).length) s k ((regList regs).getD k 0#4))
        (blockStart p u (s.reg rn) (regList regs).length) s t ∧
      t.gpr = (if w then s.gpr.set (physIndex s.cpsr.m rn) (blockEnd u (s.reg rn) (regList regs).length) else s.gpr) ∧
      t.cpsr = s.cpsr ∧ t.pc = s.pc + s.instrBytes ∧ t.cp15 = s.cp15 ∧ t.tlb = s.tlb ∧ otherParts t = otherParts s) ∧
  (∀ (cond : Cond) (p u : Bool) (rn : RegNum) (regs : BitVec 16) (s : State), condPassed cond s.cpsr = true →
    rn ≠ 15#4 → regList regs ≠ [] → s.cpsr.m ≠ modeUsr → s.cpsr.m ≠ modeSys → cellsWf s.mem = true → Quiet s →
    BlockReady s (blockStart p u (s.reg rn) (regList regs).length) (regList regs).length →
    ∃ t : State, exec (.stmUser cond p u false rn regs) s = .next t ∧
      WordsStored (regList regs).length
        (fun k => blockStored true false rn 0#32 s k ((regList regs).getD k 0#4))
        (blockStart p u (s.reg rn) (regList regs).length) s t ∧
      t.gpr = s.gpr ∧ t.cpsr = s.cpsr ∧ t.pc = s.pc + s.instrBytes ∧ t.cp15 = s.cp15 ∧ t.tlb = s.tlb ∧
      otherParts t = otherParts s) ∧
  (∀ (r : Bool) (regs : BitVec 8), StoresBlock (.tPush r regs) false true false true 13#4 (pushList r regs)) ∧
  (∀ (rb : LowReg) (regs : BitVec 8),
    StoresBlock (.tStmia rb regs) false false true true (rb.setWidth 4) (regList (0#8 ++ regs)))

/-- LDM and STM with the MMU off, one of whose transfers the bus aborts, the first of them number `k0`: the data abort is taken, FAR and FS
are those of that transfer (of an LDM or STM from an unaligned base FAR has its low bits: the model's choice of log 58), the base is the
written-back one or as it was. Of an LDM the registers before it are loaded and no other; of an STM every transfer that does not fail is
stored. The same of the registers, FSR and FAR for every form of LDM and STM, PUSH and POP among them, whatever aborts its transfer number
`k0`: the alignment check, the MMU, the bus or a monitor mode watchpoint (a later transfer that walks to a tiny page in a coarse table is
refused, 93 U17). After the last of these FSR and FAR stay, also where a later transfer meets a fault of its own: the model's choice of log
44. -/
def Obligations.AbortedBlockTransfers : Prop :=
  (∀ (cond : Cond) (p u w : Bool) (rn : RegNum) (regs : BitVec 16) (s : State), condPassed cond s.cpsr = true → rn ≠ 15#4 →
    LoadAborts (.ldm cond p u w rn regs) false p u w rn (regList regs) s ∧
    StoreAborts (.stm cond p u w rn regs) false p u w rn (regList regs) s ∧
    (s.cpsr.m ≠ modeUsr → s.cpsr.m ≠ modeSys →
      StoreAborts (.stmUser cond p u false rn regs) true p u false rn (regList regs) s)) ∧
  (∀ (cond : Cond) (p u w : Bool) (rn : RegNum) (regs : BitVec 15) (s : State), condPassed cond s.cpsr = true → rn ≠ 15#4 →
    s.cpsr.m ≠ modeUsr → s.cpsr.m ≠ modeSys →
    LoadAborts (.ldmUser cond p u false rn regs) true p u false rn (regList (0#1 ++ regs)) s ∧
    (s.spsrOf s.cpsr.m ≠ none → LoadAborts (.ldmRestore cond p u w rn regs) false p u w rn (regList (1#1 ++ regs)) s)) ∧
  (∀ (r : Bool) (rb : LowReg) (regs : BitVec 8) (s : State),
    LoadAborts (.tPop r regs) false false true true 13#4 (popList r regs) s ∧
    LoadAborts (.tLdmia rb regs) false false true true (rb.setWidth 4) (regList (0#8 ++ regs)) s ∧
    StoreAborts (.tPush r regs) false true false true 13#4 (pushList r regs) s ∧
    StoreAborts (.tStmia rb regs) false false true true (rb.setWidth 4) (regList (0#8 ++ regs)) s) ∧
  ∀ (cond : Cond) (p u w : Bool) (rn : RegNum) (regs : BitVec 16) (s : State) (start : Word) (k0 : Nat),
    condPassed cond s.cpsr = true → rn ≠ 15#4 → Quiet s → cellsWf s.mem = true → s.bankHazard = false →
    start = blockStart p u (s.reg rn) (regList regs).length → FirstFailure s start (regList regs).length k0 →
    (∃ t : State, exec (.ldm cond p u w rn regs) s = .next t ∧ TookDataAbort s t ∧
      t.cp15.far = s.relocate (start + BitVec.ofNat 32 (4 * k0)) ∧
      (t.cp15.fsr.extractLsb' 0 4 = 0b1000#4 ∨ t.cp15.fsr.extractLsb' 0 4 = 0b1010#4) ∧
      (∀ (k : Nat) (r : RegNum), k < k0 → (regList regs)[k]? = some r → r ≠ 15#4 → r ≠ rn →
        physIndex s.cpsr.m r ≠ physIndex modeAbt 14#4 → t.gpr[physIndex s.cpsr.m r] = blockWord s start k) ∧
      (physIndex s.cpsr.m rn ≠ physIndex modeAbt 14#4 →
        t.gpr[physIndex s.cpsr.m rn] = if w then blockEnd u (s.reg rn) (regList regs).length else s.reg rn) ∧
      (∀ i : Fin 30, i ≠ physIndex modeAbt 14#4 → i ≠ physIndex s.cpsr.m rn →
        (∀ (k : Nat) (r : RegNum), k < k0 → (regList regs)[k]? = some r → r ≠ 15#4 → physIndex s.cpsr.m r ≠ i) →
        t.gpr[i] = s.gpr[i]) ∧
      ∀ a : Word, t.settledByte a = s.settledByte a) ∧
    ∃ t : State, exec (.stm cond p u w rn regs) s = .next t ∧ TookDataAbort s t ∧
      t.cp15.far = s.relocate (start + BitVec.ofNat 32 (4 * k0)) ∧
      (t.cp15.fsr.extractLsb' 0 4 = 0b1000#4 ∨ t.cp15.fsr.extractLsb' 0 4 = 0b1010#4) ∧
      (∀ i : Fin 30, i ≠ physIndex modeAbt 14#4 →
        t.gpr[i] = if w = true ∧ i = physIndex s.cpsr.m rn then blockEnd u (s.reg rn) (regList regs).length
          else s.gpr[i]) ∧
      (∀ k : Nat, k < (regList regs).length → Ready s (start + BitVec.ofNat 32 (4 * k)) .word → ∀ j : Nat, j < 4 →
        t.settledByte (wordAlign (s.relocate (start + BitVec.ofNat 32 (4 * k))) + BitVec.ofNat 32 j) =
          byteOfValue s.cp15.b 4 j (blockStored false w rn (blockEnd u (s.reg rn) (regList regs).length) s k
            ((regList regs).getD k 0#4))) ∧
      ∀ a : Word, (∀ k : Nat, k < (regList regs).length → Ready s (start + BitVec.ofNat 32 (4 * k)) .word →
        wordAlign a ≠ wordAlign (s.relocate (start + BitVec.ofNat 32 (4 * k)))) → t.settledByte a = s.settledByte a

/-- SWP and SWPB: the old value (a word rotated) in Rd, the value of Rm in memory, by two locked transfers. -/
def Obligations.SwapReadsThenWrites : Prop :=
  ∀ (cond : Cond) (rn rd rm : RegNum) (s : State), condPassed cond s.cpsr = true → rn ≠ 15#4 → rd ≠ 15#4 → rm ≠ 15#4 →
    rn ≠ rd → rn ≠ rm → Quiet s →
    (Ready s (s.reg rn) .word →
      exec (.swp cond rn rd rm) s =
        .next ((afterWrite (afterRead s (s.reg rn) .word s.privileged true) (s.reg rn) .word (s.reg rm) s.privileged
          true).setReg rd ((readValue s (s.reg rn) .word).rotateRight (8 * ((s.reg rn).toNat % 4)))).advance) ∧
    (Ready s (s.reg rn) .byte →
      exec (.swpb cond rn rd rm) s =
        .next ((afterWrite (afterRead s (s.reg rn) .byte s.privileged true) (s.reg rn) .byte (s.reg rm) s.privileged
          true).setReg rd (readValue s (s.reg rn) .byte)).advance)

/-- An external coprocessor. Absent, every coprocessor instruction that CP14 and CP15 do not claim takes the undefined instruction trap;
so does one that the coprocessor restricts to privileged modes if it was fetched in User mode (R449). Accepting: CDP only advances, MCR gives it the value of
Rd, MRC takes the word it supplies (r15: the flags). Busy, it keeps the core at the instruction. That MCR sends the address + 12 for r15
is the model's choice of log 42, against the refusal of 93 U6. -/
def Obligations.CoprocessorHandshake : Prop :=
  (∀ (cond : Cond) (s : State), condPassed cond s.cpsr = true → s.copros = [] →
    (∀ (op1 crn crd cp : BitVec 4) (op2 : BitVec 3) (crm : BitVec 4),
      exec (.cdp cond op1 crn crd cp op2 crm) s = .next (s.takeException .undefined)) ∧
    (∀ (p u n w : Bool) (rn : RegNum) (crd cp : BitVec 4) (off8 : BitVec 8),
      exec (.ldc cond p u n w rn crd cp off8) s = .next (s.takeException .undefined) ∧
      exec (.stc cond p u n w rn crd cp off8) s = .next (s.takeException .undefined)) ∧
    (∀ (op1 : BitVec 3) (crn : BitVec 4) (rd : RegNum) (cp : BitVec 4) (op2 : BitVec 3) (crm : BitVec 4),
      cp ≠ 14#4 → cp ≠ 15#4 →
      exec (.mcr cond op1 crn rd cp op2 crm) s = .next (s.takeException .undefined) ∧
      exec (.mrc cond op1 crn rd cp op2 crm) s = .next (s.takeException .undefined))) ∧
  (∀ (cond : Cond) (cp : BitVec 4) (s s1 : State), condPassed cond s.cpsr = true →
    (cp = 4#4 ∨ cp = 5#4 ∨ cp = 6#4 ∨ cp = 7#4) → s1 = { s with copros := copAnswered s.copros cp } →
    (∀ (first : Word) (more : List Word), copResponse s.copros cp s.sampledTrans = .accept first more →
      (∀ (op1 crn crd : BitVec 4) (op2 : BitVec 3) (crm : BitVec 4),
        exec (.cdp cond op1 crn crd cp op2 crm) s = .next s1.advance) ∧
      (∀ (op1 : BitVec 3) (crn : BitVec 4) (rd : RegNum) (op2 : BitVec 3) (crm : BitVec 4),
        exec (.mcr cond op1 crn rd cp op2 crm) s =
          .next { s1 with
            copros := copReceives s1.copros cp (if rd = 15#4 then s.pc + 12#32 else s.reg rd) }.advance ∧
        exec (.mrc cond op1 crn rd cp op2 crm) s = .next (mrcState s1 rd first))) ∧
    (∀ (result : State) (op1 crn crd : BitVec 4) (op3 : BitVec 3) (rd rn : RegNum) (op2 : BitVec 3) (crm : BitVec 4)
      (p u n w : Bool) (off8 : BitVec 8) (i : Instr),
      (copResponse s.copros cp s.sampledTrans = .busy ∧ result = s1 ∨
        copResponse s.copros cp s.sampledTrans = .absent ∧ result = s1.takeException .undefined) →
      i ∈ ([.cdp cond op1 crn crd cp op2 crm, .mcr cond op3 crn rd cp op2 crm, .mrc cond op3 crn rd cp op2 crm,
        .ldc cond p u n w rn crd cp off8, .stc cond p u n w rn crd cp off8] : List Instr) →
        exec i s = .next result)) ∧
  (∀ (c : Copro) (rest : List Copro) (a : CoproAnswer) (script : List CoproAnswer) (privileged : Bool), c.script = a :: script →
    copResponse (c :: rest) c.number privileged =
      (if a.privilegedOnly = true ∧ privileged = false then .absent else a.response)) ∧
  (∀ (s : State) (q : FetchSlot) (rest : List FetchSlot), s.queue = q :: rest → s.sampledTrans = q.priv) ∧
  ∀ (s : State) (a : Word), (nextSlot s a).1.priv = s.privileged

/-! Coprocessors. -/

/-- LDC gives the words from the address on, one to sixteen, to a coprocessor that accepts; STC stores the words it supplies; both write
back the base. -/
def Obligations.CoprocessorTransfers : Prop :=
  ∀ (cond : Cond) (p u n w : Bool) (rn : RegNum) (crd cp : BitVec 4) (off8 : BitVec 8) (s : State) (first : Word)
    (more ws : List Word),
    condPassed cond s.cpsr = true → (cp = 4#4 ∨ cp = 5#4 ∨ cp = 6#4 ∨ cp = 7#4) →
    copResponse s.copros cp s.sampledTrans = .accept first more → ws = first :: more.take 15 → (rn = 15#4 → p = true ∧ w = false) →
    cellsWf s.mem = true → Quiet s →
    BlockReady s (copAddressing p u w rn off8 s).addr ws.length →
    (∃ t : State, exec (.ldc cond p u n w rn crd cp off8) s = .next t ∧
      t.copros = (List.range ws.length).foldl
        (fun cs k => copReceives cs cp (blockWord s (copAddressing p u w rn off8 s).addr k)) (copAnswered s.copros cp) ∧
      t.gpr = (s.writeBack (copAddressing p u w rn off8 s) rn).gpr ∧ t.cpsr = s.cpsr ∧ t.pc = s.pc + s.instrBytes ∧
      (∀ a : Word, t.settledByte a = s.settledByte a) ∧ t.cp15 = s.cp15 ∧ otherParts t = otherParts s) ∧
    (∃ t : State, exec (.stc cond p u n w rn crd cp off8) s = .next t ∧
      WordsStored ws.length (fun k => ws.getD k 0#32) (copAddressing p u w rn off8 s).addr s t ∧
      t.gpr = (s.writeBack (copAddressing p u w rn off8 s) rn).gpr ∧ t.cpsr = s.cpsr ∧ t.pc = s.pc + s.instrBytes ∧
      t.copros = copAnswered s.copros cp ∧ t.cp15 = s.cp15 ∧ otherParts t = otherParts s)

/-! CP15 and CP14. -/

/-- The CP15 reads give each register in its format; bits that R563 calls unpredictable are any value. -/
def Obligations.Cp15Reads : Prop :=
  ∀ (cond : Cond) (rd : RegNum) (s : State), condPassed cond s.cpsr = true → s.privileged = true →
    exec (.mrcId cond rd) s = .next (mrcState s rd 0x41807204#32) ∧
    ReadsFree (.mrcControl cond rd) rd 0xFFFFDC00#32 (controlWord s.cp15) s ∧
    exec (.mrcTtb cond rd) s = .next (mrcState s rd (s.cp15.ttb ++ 0#14)) ∧
    exec (.mrcDacr cond rd) s = .next (mrcState s rd s.cp15.dacr) ∧
    ReadsFree (.mrcFsr cond rd) rd 0xFFFFFE00#32 (s.cp15.fsr.setWidth 32) s ∧
    exec (.mrcFar cond rd) s = .next (mrcState s rd s.cp15.far) ∧
    exec (.mrcTlbLockdown cond rd) s =
      .next (mrcState s rd (s.tlb.base ++ s.tlb.victim ++ 0#19 ++ BitVec.ofBool s.tlb.p)) ∧
    ReadsFree (.mrcPid cond rd) rd 0x01FFFFFF#32 (s.cp15.pid ++ 0#25) s ∧
    exec (.mrcProcId cond rd) s = .next (mrcState s rd s.cp15.procId) ∧
    ReadsFree (.mrcTestState cond rd) rd 0xFFFFFFFE#32 (if s.cp15.testState then 1#32 else 0#32) s ∧
    exec (.mrcC15C cond rd) s = .next (mrcState s rd s.cp15.c15c) ∧
    exec (.mrcC15M cond rd) s = .next (mrcState s rd s.cp15.c15m) ∧
    exec (.mrcC15MAlt cond rd) s = .next (mrcState s rd s.cp15.c15m)

/-- The CP15 register writes store the defined bits and change nothing else; a PROCID write pulses PROCIDWR. That r15 as Rd is the
address + 12 is the model's choice of log 42, against the refusal of 93 U6. -/
def Obligations.Cp15Writes : Prop :=
  ∀ (cond : Cond) (rd : RegNum) (s : State) (v : Word), condPassed cond s.cpsr = true → s.privileged = true →
    v = (if rd = 15#4 then s.pc + 12#32 else s.reg rd) →
    exec (.mcrControl cond rd) s = .next { s with cp15 := { s.cp15 with
      m := v.getLsbD 0, a := v.getLsbD 1, c := v.getLsbD 2, w := v.getLsbD 3, b := v.getLsbD 7, s := v.getLsbD 8,
      r := v.getLsbD 9, v := v.getLsbD 13 } }.advance ∧
    exec (.mcrTtb cond rd) s = .next { s with cp15 := { s.cp15 with ttb := v.extractLsb' 14 18 } }.advance ∧
    exec (.mcrDacr cond rd) s = .next { s with cp15 := { s.cp15 with dacr := v } }.advance ∧
    exec (.mcrFsr cond rd) s = .next { s with cp15 := { s.cp15 with fsr := v.extractLsb' 0 8 } }.advance ∧
    exec (.mcrFar cond rd) s = .next { s with cp15 := { s.cp15 with far := v } }.advance ∧
    exec (.mcrTlbLockdown cond rd) s = .next { s with tlb := { s.tlb with
      base := v.extractLsb' 26 6, victim := v.extractLsb' 20 6, p := v.getLsbD 0 } }.advance ∧
    exec (.mcrPid cond rd) s = .next { s with cp15 := { s.cp15 with pid := v.extractLsb' 25 7 } }.advance ∧
    exec (.mcrProcId cond rd) s =
      .next { s with cp15 := { s.cp15 with procId := v }, procIdWr := true }.advance ∧
    exec (.mcrTestState cond rd) s = .next { s with cp15 := { s.cp15 with testState := v.getLsbD 0 } }.advance ∧
    exec (.mcrC15C cond rd) s = .next { s with cp15 := { s.cp15 with c15c := v } }.advance

/-- Invalidating the ID cache clears the valid bit of all 256 lines and nothing else; invalidating TLB entries clears theirs: all
of them (but for preserved ones where the parameter says so), or those that match an MVA. For r15 as Rd
the value is the address + 12, the model's choice of log 42 against the refusal of 93 U6. -/
def Obligations.Invalidations : Prop :=
  ∀ (cond : Cond) (rd : RegNum),
    (∀ s : State, condPassed cond s.cpsr = true → s.privileged = true →
      ∃ t : State, exec (.mcrInvCache cond rd) s = .next t ∧
        (∀ k : Fin 256, t.cache.lines[k] = { s.cache.lines[k] with valid := false }) ∧
        { t with cache := { t.cache with lines := s.cache.lines } } = s.advance) ∧
    (∀ i : Instr, i ∈ ([.mcrInvTlbC5 cond rd, .mcrInvTlbC6 cond rd, .mcrInvTlbC7 cond rd] : List Instr) →
      TlbInvalidated cond i (fun s e => !(s.params.tlbInvalidateKeepsPreserved && e.preserve))) ∧
    (∀ i : Instr, i ∈ ([.mcrInvTlbEntryC5 cond rd, .mcrInvTlbEntryC6 cond rd, .mcrInvTlbEntryC7 cond rd] : List Instr) →
      TlbInvalidated cond i (fun s e => tlbMatches e (if rd = 15#4 then s.pc + 12#32 else s.reg rd)))

/-- The cache victim and lockdown base writes: the base form sets the base and every segment's pointer and selects the increment
after CAM and RAM operations, the victim form sets one segment's pointer and selects the increment after CAM operations only (decision D25). The pointers written
count as forced (log 15). For r15 as Rd
the value is the address + 12, the model's choice of log 42 against the refusal of 93 U6. -/
def Obligations.CacheLockdown : Prop :=
  ∀ (cond : Cond) (rd : RegNum) (s : State) (v : Word) (i : Instr), condPassed cond s.cpsr = true → s.privileged = true →
    v = (if rd = 15#4 then s.pc + 12#32 else s.reg rd) →
    ((i = .mcrCacheBase0 cond rd ∨ i = .mcrCacheBase1 cond rd) →
      ∃ t : State, exec i s = .next t ∧ t.cache.base = v.extractLsb' 26 6 ∧
        (∀ g : Fin 4, t.cache.victim[g] = v.extractLsb' 26 6 ∧ t.cache.camOnly[g] = false ∧
          t.cache.forced[g] = true) ∧
        { t with cache := s.cache } = s.advance ∧ t.cache.lines = s.cache.lines) ∧
    ((i = .mcrCacheVictim0 cond rd ∨ i = .mcrCacheVictim1 cond rd) →
      ∃ t : State, exec i s = .next t ∧ t.cache.base = s.cache.base ∧
        (∀ g : Fin 4, t.cache.victim[g] = (if g.val = (v.extractLsb' 5 2).toNat then v.extractLsb' 26 6 else s.cache.victim[g]) ∧
          t.cache.camOnly[g] = (decide (g.val = (v.extractLsb' 5 2).toNat) || s.cache.camOnly[g]) ∧
          t.cache.forced[g] = (decide (g.val = (v.extractLsb' 5 2).toNat) || s.cache.forced[g])) ∧
        { t with cache := s.cache } = s.advance ∧ t.cache.lines = s.cache.lines)

/-- The cache test operations on the line of the segment's victim pointer, with the test state on: CAM and RAM reads to C15.C, CAM
and RAM writes, and how the pointer moves; the CAM match reports a hit in bit 31 and a miss in bit 30. The wrap
of the pointer is decision D25, bit 0 of a CAM read a free value (log 16). For r15 as Rd
the value is the address + 12, the model's choice of log 42 against the refusal of 93 U6. -/
def Obligations.CacheTestOperations : Prop :=
  ∀ (cond : Cond) (rd : RegNum) (s : State) (v : Word) (g : Fin 4) (line : CacheLine), condPassed cond s.cpsr = true →
    s.privileged = true → s.cp15.testState = true → v = (if rd = 15#4 then s.pc + 12#32 else s.reg rd) →
    g.val = (v.extractLsb' 5 2).toNat → line = s.cacheLine g.val s.cache.victim[g].toNat →
    (∃ (lfsr : Bool) (t : State), exec (.mcrCacheCamRead cond rd) s = .next t ∧ TestFrame s t ∧
      t.cp15 = { s.cp15 with
        c15c := line.tag ++ 0#2 ++ BitVec.ofBool line.valid ++ BitVec.ofBool line.dirtyEven ++
          BitVec.ofBool line.dirtyOdd ++ BitVec.ofBool line.writeBack ++ BitVec.ofBool lfsr } ∧
      t.cache = { s.cache with victim := s.cache.victim.set g (nextVictim s.cache.base s.cache.victim[g]) } ∧
      t.tlb = s.tlb) ∧
    (∃ t : State, exec (.mcrCacheCamWrite cond rd) s = .next t ∧ TestFrame s t ∧ t.cp15 = s.cp15 ∧ t.tlb = s.tlb ∧
      t.cache = { s.cache with
        lines := t.cache.lines, victim := s.cache.victim.set g (nextVictim s.cache.base s.cache.victim[g]) } ∧
      t.cacheLine g.val s.cache.victim[g].toNat =
        { line with
          tag := v.extractLsb' 7 25, valid := v.getLsbD 4, dirtyEven := v.getLsbD 3, dirtyOdd := v.getLsbD 2,
          writeBack := v.getLsbD 1 } ∧
      OtherLinesSame (64 * g.val + s.cache.victim[g].toNat) s t) ∧
    (∃ t : State, exec (.mcrCacheRamRead cond rd) s = .next t ∧ TestFrame s t ∧
      t.cp15 = { s.cp15 with c15c := line.data[wordInLine v] } ∧ t.tlb = s.tlb ∧
      t.cache = { s.cache with victim := if s.cache.camOnly[g] then s.cache.victim
        else s.cache.victim.set g (nextVictim s.cache.base s.cache.victim[g]) }) ∧
    (∃ t : State, exec (.mcrCacheRamWrite cond rd) s = .next t ∧ TestFrame s t ∧ t.cp15 = s.cp15 ∧ t.tlb = s.tlb ∧
      t.cache = { s.cache with
        lines := t.cache.lines
        victim := if s.cache.camOnly[g] then s.cache.victim
          else s.cache.victim.set g (nextVictim s.cache.base s.cache.victim[g]) } ∧
      t.cacheLine g.val s.cache.victim[g].toNat = { line with data := line.data.set (wordInLine v) s.cp15.c15c } ∧
      OtherLinesSame (64 * g.val + s.cache.victim[g].toNat) s t) ∧
    (∃ t : State, exec (.mcrCacheCamMatch cond rd) s = .next t ∧ TestFrame s t ∧ t.cache = s.cache ∧ t.tlb = s.tlb ∧
      t.cp15 = { s.cp15 with c15c := t.cp15.c15c } ∧
      (s.cacheHits v = [] → t.cp15.c15c.extractLsb' 30 2 = 0b01#2) ∧
      (∀ k : Nat, s.cacheHits v = [k] → t.cp15.c15c.extractLsb' 30 2 = 0b10#2 ∧
        t.cp15.c15c.extractLsb' 0 30 = ((s.cacheLine (v.extractLsb' 5 2).toNat k).data[wordInLine v]).extractLsb' 0 30))

/-- The TLB test operations with the test state on: CAM and RAM1 operations on the victim's entry, which index2 then names; RAM2
operations on index2's entry, after which the victim advances (decision D25); the CAM match walks no table. What translation
uses of a RAM2 word is its free layout, `tlb_ram2_layout` (R595, log 23). The fault flags of a match are those of a data read in the
current mode (decision D25, log 25). For r15 as Rd
the value is the address + 12, the model's choice of log 42 against the refusal of 93 U6. -/
def Obligations.TlbTestOperations : Prop :=
  ∀ (cond : Cond) (rd : RegNum) (s : State) (v : Word) (e e2 : TlbEntry), condPassed cond s.cpsr = true →
    s.privileged = true → s.cp15.testState = true → v = (if rd = 15#4 then s.pc + 12#32 else s.reg rd) →
    e = s.tlbEntry s.tlb.victim.toNat → e2 = s.tlbEntry s.tlb.index2.toNat →
    (∃ t : State, exec (.mcrTlbCamRead cond rd) s = .next t ∧ TestFrame s t ∧ t.cache = s.cache ∧
      t.cp15 = { s.cp15 with
        c15m := e.tag ++ e.sizeC ++ BitVec.ofBool e.valid ++ BitVec.ofBool e.preserve ++ 0#4 } ∧
      t.tlb = { s.tlb with index2 := s.tlb.victim }) ∧
    (∃ t : State, exec (.mcrTlbCamWrite cond rd) s = .next t ∧ TestFrame s t ∧ t.cp15 = s.cp15 ∧ t.cache = s.cache ∧
      t.tlb = { s.tlb with entries := t.tlb.entries, index2 := s.tlb.victim } ∧
      t.tlbEntry s.tlb.victim.toNat =
        { e with tag := v.extractLsb' 10 22, sizeC := v.extractLsb' 6 4, valid := v.getLsbD 5, preserve := v.getLsbD 4 } ∧
      OtherEntriesSame s.tlb.victim.toNat s t) ∧
    (∃ t : State, exec (.mcrTlbRam1Read cond rd) s = .next t ∧ TestFrame s t ∧ t.cache = s.cache ∧
      t.cp15 = { s.cp15 with c15m := t.cp15.c15m } ∧ t.cp15.c15m.extractLsb' 0 22 = e.ram1 ∧
      t.cp15.c15m.extractLsb' 25 7 = 0#7 ∧ t.tlb = { s.tlb with index2 := s.tlb.victim }) ∧
    (∃ t : State, exec (.mcrTlbRam1Write cond rd) s = .next t ∧ TestFrame s t ∧ t.cp15 = s.cp15 ∧ t.cache = s.cache ∧
      t.tlb = { s.tlb with entries := t.tlb.entries, index2 := s.tlb.victim } ∧
      t.tlbEntry s.tlb.victim.toNat = { e with ram1 := v.extractLsb' 0 22 } ∧ OtherEntriesSame s.tlb.victim.toNat s t) ∧
    (∃ t : State, exec (.mcrTlbRam2Read cond rd) s = .next t ∧ TestFrame s t ∧ t.cache = s.cache ∧
      t.cp15 = { s.cp15 with c15m := e2.ram2 } ∧
      t.tlb = { s.tlb with victim := nextVictim s.tlb.base s.tlb.victim }) ∧
    (∃ t : State, exec (.mcrTlbRam2Write cond rd) s = .next t ∧ TestFrame s t ∧ t.cp15 = s.cp15 ∧ t.cache = s.cache ∧
      t.tlb = { s.tlb with entries := t.tlb.entries, victim := nextVictim s.tlb.base s.tlb.victim } ∧
      t.tlbEntry s.tlb.index2.toNat =
        { e2 with ram2 := v, paTag := Config.ram2Tag v, sizeR2 := Config.ram2Size v } ∧
      OtherEntriesSame s.tlb.index2.toNat s t) ∧
    (∃ t : State, exec (.mcrTlbCamMatch cond rd) s = .next t ∧ TestFrame s t ∧ t.tlb = s.tlb ∧ t.cache = s.cache ∧
      t.cp15 = { s.cp15 with c15m := t.cp15.c15m } ∧
      ((∀ k : Nat, k < 64 → tlbMatches (s.tlbEntry k) v = false) →
        t.cp15.c15m.getLsbD 22 = true) ∧
      t.cp15.c15m.extractLsb' 25 7 = 0#7 ∧
      ∀ j : Nat, (List.range 64).filter (fun k => tlbMatches (s.tlbEntry k) v) = [j] →
        t.cp15.c15m.getLsbD 22 = false ∧ t.cp15.c15m.extractLsb' 0 22 = (s.tlbEntry j).ram1 ∧
        ∀ (domain : BitVec 4) (ap : BitVec 2) (c b : Bool),
          (s.tlbEntry j).ram1 =
            ((1#16) <<< domain.toNat) ++ BitVec.ofBool (!c) ++ BitVec.ofBool (!b) ++ ((1#4) <<< ap.toNat) →
          t.cp15.c15m.getLsbD 23 = !(s.cp15.dacr.getLsbD (2 * domain.toNat)) ∧
          t.cp15.c15m.getLsbD 24 =
            (!(s.cp15.dacr.getLsbD (2 * domain.toNat + 1) && s.cp15.dacr.getLsbD (2 * domain.toNat)) &&
              !(allowed ap s.cp15.s s.cp15.r true false)))

/-- In User mode every MRC and MCR of CP15, and in any mode every CDP, LDC and STC of CP15, takes the undefined instruction trap. -/
def Obligations.Cp15InUserModeTraps : Prop :=
  (∀ (cond : Cond) (rd : RegNum) (s : State) (i : Instr), condPassed cond s.cpsr = true → s.cpsr.m = modeUsr →
    (i ∈ cp15Reads cond rd ∨ i ∈ cp15Writes cond rd ∨ i ∈ testOperations cond rd ∨
      (∃ (op1 : BitVec 3) (crn : BitVec 4) (op2 : BitVec 3) (crm : BitVec 4),
        i = .mcr cond op1 crn rd 15#4 op2 crm ∨ i = .mrc cond op1 crn rd 15#4 op2 crm)) →
    exec i s = .next (s.takeException .undefined)) ∧
  (∀ (cond : Cond) (s : State), condPassed cond s.cpsr = true →
    (∀ (op1 crn crd : BitVec 4) (op2 : BitVec 3) (crm : BitVec 4),
      exec (.cdp cond op1 crn crd 15#4 op2 crm) s = .next (s.takeException .undefined)) ∧
    ∀ (p u n w : Bool) (rn : RegNum) (crd : BitVec 4) (off8 : BitVec 8),
      exec (.ldc cond p u n w rn crd 15#4 off8) s = .next (s.takeException .undefined) ∧
      exec (.stc cond p u n w rn crd 15#4 off8) s = .next (s.takeException .undefined))

/-- CP15 registers that are reserved or whose accesses the source calls undefined: a write changes nothing, a read gives any
value, and no trap is taken (decision D13, 93 U10 and U12). With the test state off a test operation changes nothing either (decision
D25, log 26). -/
def Obligations.ReservedCp15Registers : Prop :=
  (∀ (cond : Cond) (rd : RegNum) (s : State) (i : Instr), i ∈ testOperations cond rd → s.privileged = true →
    s.cp15.testState = false → exec i s = .next s.advance) ∧
  ∀ (cond : Cond) (rd : RegNum) (op1 op2 : BitVec 3) (crm crn : BitVec 4) (s : State), condPassed cond s.cpsr = true →
    s.privileged = true →
    ((crn = 0#4 ∨ crn = 4#4 ∨ crn = 11#4 ∨ crn = 12#4 ∨ crn = 14#4) →
      exec (.mcr cond op1 crn rd 15#4 op2 crm) s = .next s.advance) ∧
    ((crn = 4#4 ∨ crn = 7#4 ∨ crn = 8#4 ∨ crn = 9#4 ∨ crn = 11#4 ∨ crn = 12#4 ∨ crn = 14#4) →
      ∃ free : Word, exec (.mrc cond op1 crn rd 15#4 op2 crm) s = .next (mrcState s.drew rd free))

/-- CP14, in every mode (decision D24): the DCC control register, the data read that clears R, the data write that sets W, and DbgAbt.
A write of c0 is ignored; c3 to c15 read any value and ignore writes (93 U10). For r15 as Rd the value written is the address + 12, the
model's choice of log 42 against the refusal of 93 U6. -/
def Obligations.Cp14Transfers : Prop :=
  ∀ (cond : Cond) (op1 : BitVec 3) (rd : RegNum) (op2 : BitVec 3) (crm : BitVec 4) (s : State) (v : Word),
    condPassed cond s.cpsr = true → v = (if rd = 15#4 then s.pc + 12#32 else s.reg rd) →
    exec (.mrcDccControl cond op1 rd op2 crm) s =
      .next (mrcState s rd (0x70000000#32 ||| (if s.dcc.w then 2#32 else 0) ||| (if s.dcc.r then 1#32 else 0))) ∧
    exec (.mrcDccData cond op1 rd op2 crm) s =
      .next (mrcState { s with dcc := { s.dcc with r := false } } rd s.dcc.readData) ∧
    exec (.mcrDccData cond op1 rd op2 crm) s =
      .next { s with dcc := { s.dcc with writeData := v, w := true } }.advance ∧
    exec (.mrcAbortStatus cond op1 rd op2 crm) s = .next (mrcState s rd (if s.dcc.dbgAbt then 1#32 else 0#32)) ∧
    exec (.mcrAbortStatus cond op1 rd op2 crm) s =
      .next { s with dcc := { s.dcc with dbgAbt := v.getLsbD 0 } }.advance ∧
    (∀ crn : BitVec 4, (crn = 0#4 ∨ 3 ≤ crn.toNat) → exec (.mcr cond op1 crn rd 14#4 op2 crm) s = .next s.advance) ∧
    ∀ crn : BitVec 4, 3 ≤ crn.toNat →
      ∃ free : Word, exec (.mrc cond op1 crn rd 14#4 op2 crm) s = .next (mrcState s.drew rd free)

/-! Thumb. -/

/-- The Thumb data processing instructions on low registers: result and flags. -/
def Obligations.ThumbDataProcessing : Prop :=
  ∀ (rs rd rn : LowReg) (imm5 : BitVec 5) (imm3 : BitVec 3) (imm8 : BitVec 8) (s : State) (d : RegNum) (c : Bool)
    (vs vd vn : Word), d = rd.setWidth 4 → c = s.cpsr.c → vs = s.lowReg rs → vd = s.lowReg rd → vn = s.lowReg rn →
    exec (.tLslImm imm5 rs rd) s = .next (logicWritten s d (shiftImm .lsl imm5 vs c).value (shiftImm .lsl imm5 vs c).carry) ∧
    exec (.tLsrImm imm5 rs rd) s = .next (logicWritten s d (shiftImm .lsr imm5 vs c).value (shiftImm .lsr imm5 vs c).carry) ∧
    exec (.tAsrImm imm5 rs rd) s = .next (logicWritten s d (shiftImm .asr imm5 vs c).value (shiftImm .asr imm5 vs c).carry) ∧
    exec (.tAddReg rn rs rd) s = .next (arithWritten .add s d vs vn) ∧
    exec (.tSubReg rn rs rd) s = .next (arithWritten .sub s d vs vn) ∧
    exec (.tAddImm3 imm3 rs rd) s = .next (arithWritten .add s d vs (imm3.setWidth 32)) ∧
    exec (.tSubImm3 imm3 rs rd) s = .next (arithWritten .sub s d vs (imm3.setWidth 32)) ∧
    exec (.tMovImm rd imm8) s = .next (logicWritten s d (imm8.setWidth 32) c) ∧
    exec (.tCmpImm rd imm8) s = .next (flagged s (ArithOp.sub.flags s.cpsr vd (imm8.setWidth 32))) ∧
    exec (.tAddImm8 rd imm8) s = .next (arithWritten .add s d vd (imm8.setWidth 32)) ∧
    exec (.tSubImm8 rd imm8) s = .next (arithWritten .sub s d vd (imm8.setWidth 32)) ∧
    exec (.tAnd rs rd) s = .next (logicWritten s d (vd &&& vs) c) ∧
    exec (.tEor rs rd) s = .next (logicWritten s d (vd ^^^ vs) c) ∧
    exec (.tLslReg rs rd) s = .next (logicWritten s d (shiftReg .lsl (vs.extractLsb' 0 8) vd c).value
      (shiftReg .lsl (vs.extractLsb' 0 8) vd c).carry) ∧
    exec (.tLsrReg rs rd) s = .next (logicWritten s d (shiftReg .lsr (vs.extractLsb' 0 8) vd c).value
      (shiftReg .lsr (vs.extractLsb' 0 8) vd c).carry) ∧
    exec (.tAsrReg rs rd) s = .next (logicWritten s d (shiftReg .asr (vs.extractLsb' 0 8) vd c).value
      (shiftReg .asr (vs.extractLsb' 0 8) vd c).carry) ∧
    exec (.tRorReg rs rd) s = .next (logicWritten s d (shiftReg .ror (vs.extractLsb' 0 8) vd c).value
      (shiftReg .ror (vs.extractLsb' 0 8) vd c).carry) ∧
    exec (.tAdc rs rd) s = .next (arithWritten .adc s d vd vs) ∧
    exec (.tSbc rs rd) s = .next (arithWritten .sbc s d vd vs) ∧
    exec (.tTst rs rd) s = .next (flagged s (logicFlags s.cpsr (vd &&& vs) c)) ∧
    exec (.tNeg rs rd) s = .next (arithWritten .sub s d 0#32 vs) ∧
    exec (.tCmp rs rd) s = .next (flagged s (ArithOp.sub.flags s.cpsr vd vs)) ∧
    exec (.tCmn rs rd) s = .next (flagged s (ArithOp.add.flags s.cpsr vd vs)) ∧
    exec (.tOrr rs rd) s = .next (logicWritten s d (vd ||| vs) c) ∧
    exec (.tBic rs rd) s = .next (logicWritten s d (vd &&& ~~~vs) c) ∧
    exec (.tMvn rs rd) s = .next (logicWritten s d (~~~vs) c)

/-- The Thumb operations with a high register: no flags but CMP's, r15 as destination a branch. The Thumb address additions write a
register and no flag. -/
def Obligations.ThumbHighRegisters : Prop :=
  (∀ (h1 h2 : Bool) (rs rd : LowReg) (s : State) (d m : RegNum), s.cpsr.t = true →
    d = BitVec.ofBool h1 ++ rd → m = BitVec.ofBool h2 ++ rs → (h1 = true ∨ h2 = true) →
      exec (.tAddHi h1 h2 rs rd) s = .next (if d = 15#4 then
          { s with pc := (s.reg d + s.reg m) &&& 0xFFFFFFFE#32, queue := [] } else (s.setReg d (s.reg d + s.reg m)).advance) ∧
      exec (.tCmpHi h1 h2 rs rd) s = .next (flagged s (ArithOp.sub.flags s.cpsr (s.reg d) (s.reg m))) ∧
      exec (.tMovHi h1 h2 rs rd) s = .next (if d = 15#4 then
          { s with pc := s.reg m &&& 0xFFFFFFFE#32, queue := [] } else (s.setReg d (s.reg m)).advance)) ∧
  (∀ (rd : LowReg) (word8 : BitVec 8) (word7 : BitVec 7) (s : State),
    exec (.tAddPc rd word8) s =
      .next (s.setReg (rd.setWidth 4) (((s.pc + 4#32) &&& 0xFFFFFFFC#32) + BitVec.ofNat 32 (4 * word8.toNat))).advance ∧
    exec (.tAddSp rd word8) s =
      .next (s.setReg (rd.setWidth 4) (s.reg 13#4 + BitVec.ofNat 32 (4 * word8.toNat))).advance ∧
    exec (.tAddSpImm word7) s = .next (s.setReg 13#4 (s.reg 13#4 + BitVec.ofNat 32 (4 * word7.toNat))).advance ∧
    exec (.tSubSpImm word7) s = .next (s.setReg 13#4 (s.reg 13#4 - BitVec.ofNat 32 (4 * word7.toNat))).advance)

/-- The Thumb loads and stores, by address and size. -/
def Obligations.ThumbSingleTransfers : Prop :=
  ∀ (ro rb rd : LowReg) (imm5 : BitVec 5) (word8 : BitVec 8) (rot : (State → Word) → State → Word → Word),
    rot = (fun a s v => v.rotateRight (8 * ((a s).toNat % 4))) →
    ThumbLoads (.tLdrPc rd word8)
      (fun s => ((s.pc + 4#32) &&& 0xFFFFFFFC#32) + BitVec.ofNat 32 (4 * word8.toNat)) .word (fun _ v => v) rd ∧
    ThumbLoads (.tLdrReg ro rb rd) (fun s => s.lowReg rb + s.lowReg ro) .word (rot (fun s => s.lowReg rb + s.lowReg ro)) rd ∧
    ThumbLoads (.tLdrbReg ro rb rd) (fun s => s.lowReg rb + s.lowReg ro) .byte (fun _ v => v) rd ∧
    ThumbLoads (.tLdrhReg ro rb rd) (fun s => s.lowReg rb + s.lowReg ro) .half (fun _ v => v) rd ∧
    ThumbLoads (.tLdrsbReg ro rb rd) (fun s => s.lowReg rb + s.lowReg ro) .byte
      (fun _ v => (v.extractLsb' 0 8).signExtend 32) rd ∧
    ThumbLoads (.tLdrshReg ro rb rd) (fun s => s.lowReg rb + s.lowReg ro) .half
      (fun _ v => (v.extractLsb' 0 16).signExtend 32) rd ∧
    ThumbLoads (.tLdrImm imm5 rb rd) (fun s => s.lowReg rb + BitVec.ofNat 32 (4 * imm5.toNat)) .word
      (rot (fun s => s.lowReg rb + BitVec.ofNat 32 (4 * imm5.toNat))) rd ∧
    ThumbLoads (.tLdrbImm imm5 rb rd) (fun s => s.lowReg rb + BitVec.ofNat 32 imm5.toNat) .byte (fun _ v => v) rd ∧
    ThumbLoads (.tLdrhImm imm5 rb rd) (fun s => s.lowReg rb + BitVec.ofNat 32 (2 * imm5.toNat)) .half (fun _ v => v) rd ∧
    ThumbLoads (.tLdrSp rd word8) (fun s => s.reg 13#4 + BitVec.ofNat 32 (4 * word8.toNat)) .word
      (rot (fun s => s.reg 13#4 + BitVec.ofNat 32 (4 * word8.toNat))) rd ∧
    ThumbStores (.tStrReg ro rb rd) (fun s => s.lowReg rb + s.lowReg ro) .word rd ∧
    ThumbStores (.tStrbReg ro rb rd) (fun s => s.lowReg rb + s.lowReg ro) .byte rd ∧
    ThumbStores (.tStrhReg ro rb rd) (fun s => s.lowReg rb + s.lowReg ro) .half rd ∧
    ThumbStores (.tStrImm imm5 rb rd) (fun s => s.lowReg rb + BitVec.ofNat 32 (4 * imm5.toNat)) .word rd ∧
    ThumbStores (.tStrbImm imm5 rb rd) (fun s => s.lowReg rb + BitVec.ofNat 32 imm5.toNat) .byte rd ∧
    ThumbStores (.tStrhImm imm5 rb rd) (fun s => s.lowReg rb + BitVec.ofNat 32 (2 * imm5.toNat)) .half rd ∧
    ThumbStores (.tStrSp rd word8) (fun s => s.reg 13#4 + BitVec.ofNat 32 (4 * word8.toNat)) .word rd

/-! The machine. -/

/-- The values R741 gives after both resets, with VINITHI Low; EmbeddedICE-RT and the DCC at the values of decision D14 (log 45). -/
def Obligations.ResetState : Prop :=
  State.reset.pc = 0#32 ∧ State.reset.cpsr.m = modeSvc ∧ State.reset.cpsr.i = true ∧ State.reset.cpsr.f = true ∧
    State.reset.cpsr.t = false ∧ controlWord State.reset.cp15 = 0x70#32 ∧ State.reset.cp15.pid = 0#7 ∧
    State.reset.cp15.testState = false ∧ (∀ k : Fin 256, State.reset.cache.lines[k].valid = false) ∧
    (∀ k : Fin 64, State.reset.tlb.entries[k].valid = false) ∧ State.reset.writeBuffer = [] ∧
    (psrToWord State.reset.cpsr).extractLsb' 8 20 = 0#20 ∧
    (∀ u : WatchUnit, (u = State.reset.ice.unit0 ∨ u = State.reset.ice.unit1) →
      u.addrValue = 0#32 ∧ u.addrMask = 0#32 ∧ u.dataValue = 0#32 ∧ u.dataMask = 0#32 ∧ u.ctrlValue = 0#9 ∧
      u.ctrlMask = 0#8) ∧
    State.reset.ice.ctrl = 0#6 ∧ State.reset.ice.chainOut = false ∧
    State.reset.dcc.r = false ∧ State.reset.dcc.w = false ∧ State.reset.dcc.dbgAbt = false ∧
    State.reset.tap.state = .testLogicReset ∧ State.reset.tap.ir = 0b1110#4 ∧ State.reset.tap.scanSel = 0#4

/-- HRESETn outside debug state: Supervisor mode, ARM state, interrupts masked, the PC at the vector VINITHI selects, cache and TLB
invalid, the control register at its reset value with V from VINITHI, the test state off; memory and EmbeddedICE-RT are left. A core that
RESTART has put at system speed is reset as well and is in debug state no more (the model's choice of log 6). In debug state HRESETn and a
change of ETMBIGEND are refused (R747, 93 U15). -/
def Obligations.HardReset : Prop :=
  (∀ (s : State) (rest : List EnvEvent), s.env = .hreset :: rest → s.debugSpeed = false →
    ∃ t : State, step s = .next t ∧ t.pc = (if s.pins.vinithi then 0xFFFF0000#32 else 0#32) ∧ t.cpsr.m = modeSvc ∧
      t.cpsr.i = true ∧ t.cpsr.f = true ∧ t.cpsr.t = false ∧
      controlWord t.cp15 = (if s.pins.vinithi then 0x2070#32 else 0x70#32) ∧ t.cp15.pid = 0#7 ∧
      (∀ k : Fin 256, t.cache.lines[k].valid = false) ∧ (∀ k : Fin 64, t.tlb.entries[k].valid = false) ∧
      t.cp15.testState = false ∧ t.writeBuffer = [] ∧ t.mem = s.mem ∧ t.ice.unit0 = s.ice.unit0 ∧
      t.ice.unit1 = s.ice.unit1 ∧ t.ice.ctrl = s.ice.ctrl ∧ t.dcc.dbgAbt = false ∧ t.dbg.halted = false ∧ t.env = rest) ∧
  ∀ (s : State) (rest : List EnvEvent), s.debugSpeed = true →
    (s.env = .hreset :: rest → step s = .refused .resetInDebug) ∧
    (∀ done seen : Nat, s.env = .hresetDuring done seen :: rest → step s = .refused .resetInDebug) ∧
    ∀ p : Pins, s.env = .setPins p :: rest → p.testenable = false → p.scanenable = false → p.dbgrq = false →
      p.dbgbreak = false → p.etmbigend ≠ s.pins.etmbigend → step s = .refused .etmBigEndInDebug

/-- A table walk with no TLB entry that matches: the level one descriptor is a fault, a section, or names a coarse or fine table whose
descriptor is a fault, a large, small or tiny page; each page with the permission field of its subpage. The physical address, C and B, or
the fault of the domain or permission check. The walk writes its entry at the TLB victim, which moves on, whatever the checks say, but
nothing on a translation fault (R170, D21). That the P bit of the entry it writes is clear is the model's choice of log 51, and that the
tag holds MVA[31:10] whatever the size is that of log 63. A tiny page in a coarse table stops the walk (93 U17, log 14). -/
def Obligations.TableWalks : Prop :=
  ∀ (s : State) (mva d1 d2 : Word) (priv write : Bool) (table : Word), s.cp15.m = true → s.masters = [] →
    (∀ k : Nat, k < 64 → tlbMatches (s.tlbEntry k) mva = false) →
    s.regionOf (s.cp15.ttb ++ mva.extractLsb' 20 12 ++ 0#2) = .ram →
    d1 = tableWord s (s.cp15.ttb ++ mva.extractLsb' 20 12 ++ 0#2) →
    (d1.extractLsb' 0 2 = 0b00#2 →
      (∃ dom : BitVec 4, (translate s mva priv write).1 = .fault 0b0101#4 dom) ∧ (translate s mva priv write).2.tlb = s.tlb) ∧
    (d1.extractLsb' 0 2 = 0b10#2 →
      Decides s true (d1.extractLsb' 5 4) (d1.extractLsb' 10 2) (d1.extractLsb' 20 12 ++ mva.extractLsb' 0 20)
        (d1.getLsbD 3) (d1.getLsbD 2) priv write (translate s mva priv write).1 ∧
      TlbFilled s (translate s mva priv write).2 mva (20, 0b1111#4, 0b1000#4) (d1.extractLsb' 5 4) (d1.extractLsb' 10 2)
        (d1.getLsbD 3) (d1.getLsbD 2) (d1.extractLsb' 20 12 ++ mva.extractLsb' 0 20)) ∧
    (d1.extractLsb' 0 2 = 0b01#2 → table = d1.extractLsb' 10 22 ++ mva.extractLsb' 12 8 ++ 0#2 → s.regionOf table = .ram →
      d2 = tableWord s table → PageDecides s d1 d2 mva true priv write (translate s mva priv write).1 ∧
        PageFills s (translate s mva priv write).2 d1 d2 mva true) ∧
    (d1.extractLsb' 0 2 = 0b11#2 → table = d1.extractLsb' 12 20 ++ mva.extractLsb' 10 10 ++ 0#2 → s.regionOf table = .ram →
      d2 = tableWord s table → PageDecides s d1 d2 mva false priv write (translate s mva priv write).1 ∧
        PageFills s (translate s mva priv write).2 d1 d2 mva false)

/-- A TLB entry of one of the five sizes matches the addresses that agree with its tag above the size; the one entry that matches
decides the access, with no bus transfer and no change of state: domain, permission, C, B and the address bits it holds. -/
def Obligations.TlbHits : Prop :=
  (∀ (e : TlbEntry) (mva : Word) (z : Nat × BitVec 4 × BitVec 4), z ∈ entrySizes → e.sizeC = z.2.1 →
    (tlbMatches e mva = true ↔ e.valid = true ∧ (e.tag.toNat * 2 ^ 10) / 2 ^ z.1 = mva.toNat / 2 ^ z.1)) ∧
  ∀ (s : State) (mva pa : Word) (priv write : Bool) (k : Nat) (e : TlbEntry) (z : Nat × BitVec 4 × BitVec 4)
    (domain : BitVec 4) (ap : BitVec 2) (c b : Bool), s.cp15.m = true →
    (List.range 64).filter (fun j => tlbMatches (s.tlbEntry j) mva) = [k] → e = s.tlbEntry k → z ∈ entrySizes →
    e.sizeC = z.2.1 → e.sizeR2 = z.2.2 →
    e.ram1 = ((1#16) <<< domain.toNat) ++ BitVec.ofBool (!c) ++ BitVec.ofBool (!b) ++ ((1#4) <<< ap.toNat) →
    pa.toNat = (e.paTag.toNat * 2 ^ 10) / 2 ^ z.1 * 2 ^ z.1 + mva.toNat % 2 ^ z.1 →
    Decides s (decide (z.1 = 20)) domain ap pa c b priv write (translate s mva priv write).1 ∧
      (translate s mva priv write).2 = s

/-- A cacheable read that hits takes the cached word and uses no bus; one that misses places the line of memory, valid, at a line of the
segment (the victim pointer's if it is forced, else one at or above the lockdown base: D7, log 15) and gives its word. A write updates the
line that holds its address, in the bytes it writes, allocates none, and always reaches memory. That every line of the segment is searched
is the choice of R130 against R7 (log 61). -/
def Obligations.CachedReadsAndWrites : Prop :=
  (∀ (s : State) (mva pa : Word) (prot : BitVec 4) (g : Fin 4), g.val = (mva.extractLsb' 5 2).toNat → s.masters = [] →
    (∀ i : Nat, s.cacheHits mva = [i] → cachedRead s mva pa prot = ((s.cacheLine g.val i).data[wordInLine mva], s)) ∧
    (s.cacheHits mva = [] → (∀ k : Nat, k < 8 → s.regionOf (lineAlign pa + BitVec.ofNat 32 (4 * k)) = .ram) →
      ∃ (i : Nat) (t : State), i < 64 ∧ (s.cache.forced[g] = true → i = s.cache.victim[g].toNat) ∧
        (s.cache.forced[g] = false → s.cache.base.toNat ≤ i) ∧
        cachedRead s mva pa prot =
          (s.drainAll.memoryWord (lineAlign pa + BitVec.ofNat 32 (4 * (mva.extractLsb' 2 3).toNat)), t) ∧
        (t.cacheLine g.val i).valid = true ∧ (t.cacheLine g.val i).tag = mva.extractLsb' 7 25 ∧
        (∀ k : Fin 8, (t.cacheLine g.val i).data[k] =
          s.drainAll.memoryWord (lineAlign pa + BitVec.ofNat 32 (4 * k.val))) ∧
        OtherLinesSame (64 * g.val + i) s t ∧ ∀ a : Word, t.settledByte a = s.settledByte a)) ∧
  ∀ (s t : State) (mva v : Word) (m : Mapping) (size : Size) (priv lock : Bool) (g : Fin 4),
    g.val = (mva.extractLsb' 5 2).toNat → t = (performWrite s mva m size (replicateLanes size v) priv lock).1 →
    (∀ i : Nat, s.cacheHits mva = [i] →
      t.cacheLine g.val i = { s.cacheLine g.val i with
        data := (s.cacheLine g.val i).data.set (wordInLine mva)
          (((s.cacheLine g.val i).data[wordInLine mva] &&& ~~~(laneMask s.cp15.b size mva)) |||
            (replicateLanes size v &&& laneMask s.cp15.b size mva)) } ∧
      OtherLinesSame (64 * g.val + i) s t) ∧
    (s.cacheHits mva = [] → t.cache = s.cache) ∧
    (s.masters = [] → cellsWf s.mem = true → s.regionOf (firstByte size m.pa) = .ram →
      (∀ j : Nat, j < sizeBytes size →
        t.settledByte (firstByte size m.pa + BitVec.ofNat 32 j) = byteOfValue s.cp15.b (sizeBytes size) j v) ∧
      ∀ b : Word, (∀ j : Nat, j < sizeBytes size → b ≠ firstByte size m.pa + BitVec.ofNat 32 j) →
        t.settledByte b = s.settledByte b)

/-- The write buffer is first in, first out (R156 (d), R158, decision D6; log 18): a buffered write is performed after all older ones, and
the buffer holds at most eight. -/
def Obligations.WriteBufferOrder : Prop :=
  ∀ (s : State) (e : BufferedWrite) (a : Word), s.writeBuffer.length ≤ 8 → s.masters = [] →
    (s.bufferWrite e).settledByte a = (busWrite s.drainAll e false).1.byteAt a ∧
    (s.bufferWrite e).writeBuffer.length ≤ 8 ∧ (s.bufferWrite e).writeBuffer.getLast? = some e ∧
    s.drainAll.writeBuffer = [] ∧ s.drainOne.writeBuffer = s.writeBuffer.tail

/-- Debug entry in halt mode: a breakpointed instruction is not executed, and the PC is advanced by four addresses; a request advances it
by three, and the pin is taken Low (log 33); after an instruction with a watchpointed access by four, or by three where the access
aborted. Before entry a pending interrupt is taken, but not after an aborted access (log 54), and the addresses count from its vector
(R638, R720; the PC after a breakpoint or a request then is the model's choice of log 54). No register changes otherwise, DBGMOE and bit
33 tell the cause, and the core then takes no step of its own. That a breakpoint wins over a request due at the same boundary, so that the
first and the fourth clause do not ask whether one is due, is the model's choice of log 54. A breakpointed instruction whose fetch aborted
takes the prefetch abort, and the breakpoint is ignored (R651). In debug state DBGRQ or DBGBREAK High is refused (R763, 93 U25). -/
def Obligations.HaltModeEntersDebugState : Prop :=
  (∀ (s : State) (p : Pins) (rest : List EnvEvent), s.env = .setPins p :: rest → s.debugSpeed = true →
    p.testenable = false → p.scanenable = false → (p.dbgrq = true ∨ p.dbgbreak = true) →
      step s = .refused .requestInDebug) ∧
  ∀ (s : State) (q : FetchSlot) (rest : List FetchSlot), CoreRuns s → (prefetched s).queue = q :: rest →
    s.pins.dbgen = true → s.ice.ctrl.getLsbD 4 = false →
    (q.breakpoint = true → q.mark = .ok → (prefetched s).pendingInterrupt = none →
      ∃ t : State, step s = .next t ∧ t.dbg.halted = true ∧ t.dbg.moe = false ∧ t.dbg.bit33 = false ∧ t.gpr = s.gpr ∧
        t.cpsr = s.cpsr ∧ t.pc = s.pc + s.instrBytes * 3#32 ∧ t.cp15 = s.cp15 ∧
        step t = .next t.clearOutputs.driveEtm) ∧
    (q.breakpoint = true → (q.mark = .aborted ∨ q.mark = .external) → (prefetched s).requestDue = false →
      (prefetched s).pendingInterrupt = none → step s = .next (ended ((prefetched s).takeException .prefetchAbort))) ∧
    (q.breakpoint = false → (s.pins.dbgrq = true ∨ s.tap.dbgrqLatch = true) → (prefetched s).pendingInterrupt = none →
      ∃ t : State, step s = .next t ∧ t.dbg.halted = true ∧ t.dbg.moe = true ∧ t.pins.dbgrq = false ∧ t.gpr = s.gpr ∧
        t.cpsr = s.cpsr ∧ t.pc = s.pc + s.instrBytes * 2#32 ∧ t.cp15 = s.cp15) ∧
    (∀ e : Exception, (prefetched s).pendingInterrupt = some e →
      ((q.breakpoint = true ∧ q.mark = .ok) ∨
        (q.breakpoint = false ∧ (s.pins.dbgrq = true ∨ s.tap.dbgrqLatch = true))) →
      ∃ t : State, step s = .next t ∧ t.dbg.halted = true ∧ t.cpsr.m = exceptionMode e ∧ t.cpsr.i = true ∧ t.cpsr.t = false ∧
        t.gpr[physIndex (exceptionMode e) 14#4] = s.pc + 4#32 ∧ t.spsrOf (exceptionMode e) = some s.cpsr ∧
        t.pc = s.vectorBase + exceptionOffset e + (if q.breakpoint then 12#32 else 8#32)) ∧
    (∀ (i : Instr) (u : State), q.breakpoint = false → q.mark = .ok → (prefetched s).requestDue = false →
      (prefetched s).pendingInterrupt = none → (prefetched s).decodeBits q.bits = .ok i →
      exec i (prefetched s) = .next u → u.dbg.watchHit = true → legalMode u.cpsr.m = true →
      (∀ e : Exception, u.dbg.dataAborted = false → u.pendingInterrupt = some e →
        ∃ t : State, step s = .next t ∧ t.dbg.halted = true ∧ t.dbg.moe = false ∧ t.dbg.bit33 = true ∧
          t.cpsr.m = exceptionMode e ∧ t.cpsr.i = true ∧ t.cpsr.t = false ∧
          t.gpr[physIndex (exceptionMode e) 14#4] = u.pc + 4#32 ∧ t.spsrOf (exceptionMode e) = some u.cpsr ∧
          t.pc = u.vectorBase + exceptionOffset e + 8#32) ∧
      ((u.dbg.dataAborted = true ∨ u.pendingInterrupt = none) →
      ∃ t : State, step s = .next t ∧ t.dbg.halted = true ∧ t.dbg.moe = false ∧ t.dbg.bit33 = true ∧ t.gpr = u.gpr ∧
        t.cpsr = u.cpsr ∧ t.cp15 = u.cp15 ∧ t.mem = u.mem ∧
        t.pc = u.pc + u.instrBytes * (if u.dbg.dataAborted then 2#32 else 3#32)))

/-- The comparators: a unit's address part compares A with the write, size and PROT bits of the control bus, its data part D with RANGE,
CHAIN and DBGEXT, where the mask bits are clear; an enabled unit that matches both triggers. The address part of watchpoint 1 lets its
data part into the CHAINOUT latch. In halt mode a data access that triggers
completes and leaves the watchpoint to the end of the instruction. The model's choices are: the RANGE and CHAIN inputs of watchpoint 1
are 0 (decision D28); DBGBREAK triggers in halt mode (log 33); data and RANGE comparisons act in monitor mode too, where R704 calls them
unsupported (log 32); debug control bit 5 disables DBGBREAK too (log 33); a byte or halfword read shows the comparators the whole memory word (log 50). -/
def Obligations.WatchpointsMatch : Prop :=
  (∀ (u : WatchUnit) (o : Observed),
    addrMatch u o = true ↔
      (∀ i : Nat, i < 32 → u.addrMask.getLsbD i = true ∨ u.addrValue.getLsbD i = o.addr.getLsbD i) ∧
      (u.ctrlMask.getLsbD 0 = true ∨ u.ctrlValue.getLsbD 0 = o.write) ∧
      (∀ i : Nat, i < 2 → u.ctrlMask.getLsbD (i + 1) = true ∨ u.ctrlValue.getLsbD (i + 1) = (sizeBits o.size).getLsbD i) ∧
      (u.ctrlMask.getLsbD 3 = true ∨ u.ctrlValue.getLsbD 3 = o.isData) ∧
      (u.ctrlMask.getLsbD 4 = true ∨ u.ctrlValue.getLsbD 4 = o.priv)) ∧
  (∀ (u : WatchUnit) (o : Observed) (range chain ext : Bool),
    dataMatch u o range chain ext = true ↔
      (∀ i : Nat, i < 32 → u.dataMask.getLsbD i = true ∨ o.dataValid.getLsbD i = false ∨
        u.dataValue.getLsbD i = o.data.getLsbD i) ∧
      (u.ctrlMask.getLsbD 5 = true ∨ u.ctrlValue.getLsbD 5 = ext) ∧
      (u.ctrlMask.getLsbD 6 = true ∨ u.ctrlValue.getLsbD 6 = chain) ∧
      (u.ctrlMask.getLsbD 7 = true ∨ u.ctrlValue.getLsbD 7 = range)) ∧
  (∀ (s : State) (o : Observed) (m0 m1 : Bool),
    m1 = (addrMatch s.ice.unit1 o && dataMatch s.ice.unit1 o false false (s.pins.dbgext.getLsbD 1)) →
    m0 = (addrMatch s.ice.unit0 o && dataMatch s.ice.unit0 o m1 s.ice.chainOut (s.pins.dbgext.getLsbD 0)) →
    s.dbg.halted = false → s.testMode = false →
    (s.triggers o = true ↔ s.pins.dbgen = true ∧ s.ice.ctrl.getLsbD 5 = false ∧
      ((m0 = true ∧ s.ice.unit0.ctrlValue.getLsbD 8 = true) ∨ (m1 = true ∧ s.ice.unit1.ctrlValue.getLsbD 8 = true) ∨
        (s.pins.dbgbreak = true ∧ s.ice.ctrl.getLsbD 4 = false))) ∧
    (s.pins.dbgen = true → s.ice.ctrl.getLsbD 5 = false → (s.observe o).ice.range0 = m0 ∧ (s.observe o).ice.range1 = m1 ∧
      (s.observe o).ice.chainOut =
        if addrMatch s.ice.unit1 o then dataMatch s.ice.unit1 o false false (s.pins.dbgext.getLsbD 1) else s.ice.chainOut)) ∧
  ∀ (s : State) (a v : Word) (size : Size) (priv lock : Bool), Direct s → Ready s a size → s.ice.ctrl.getLsbD 4 = false →
    (s.triggers (dataObserved a (readWord s a) size false priv) = true →
      ∃ t : State, dataRead s a size priv lock = .done (readValue s a size) t ∧ t.dbg.watchHit = true) ∧
    (s.triggers (dataObserved a (replicateLanes size v) size true priv) = true →
      ∃ t : State, dataWrite s a size v priv lock = .done 0 t ∧ t.dbg.watchHit = true ∧ t.mem = (afterWrite s a size v priv lock).mem)

/-- Monitor mode: a breakpointed instruction takes the prefetch abort and a watchpointed access counts as aborted, with DbgAbt set and
FSR and FAR as they were; a write is inhibited. A fetch that the bus aborted as well takes its own abort and leaves DbgAbt. That the
breakpoint and the watchpoint act as these two aborts is decision D27 (log 32). -/
def Obligations.MonitorModeTakesAborts : Prop :=
  (∀ (s : State) (q : FetchSlot) (rest : List FetchSlot), CoreRuns s → (prefetched s).queue = q :: rest →
    s.pins.dbgen = true → s.ice.ctrl.getLsbD 4 = true → q.breakpoint = true → (prefetched s).pendingInterrupt = none →
    ((q.mark = .ok ∨ q.mark = .aborted) →
      step s = .next (ended (State.takeException
        { prefetched s with dcc := { (prefetched s).dcc with dbgAbt := true } } .prefetchAbort))) ∧
    (q.mark = .external → step s = .next (ended ((prefetched s).takeException .prefetchAbort)))) ∧
  ∀ (s : State) (a v : Word) (size : Size) (priv lock : Bool), Direct s → Ready s a size → s.ice.ctrl.getLsbD 4 = true →
    (s.triggers (dataObserved a (readWord s a) size false priv) = true →
      ∃ t : State, dataRead s a size priv lock = .abort t ∧ t.dcc.dbgAbt = true ∧ t.cp15 = s.cp15 ∧
        t.fixedPart = s.fixedPart ∧ ∀ b : Word, t.settledByte b = s.settledByte b) ∧
    (s.triggers (dataObserved a (replicateLanes size v) size true priv) = true →
      ∃ t : State, dataWrite s a size v priv lock = .abort t ∧ t.dcc.dbgAbt = true ∧ t.cp15 = s.cp15 ∧
        t.fixedPart = s.fixedPart ∧ t.cache = s.cache ∧ ∀ b : Word, t.settledByte b = s.settledByte b)

/-- The EmbeddedICE-RT registers: what is written is read back at its width, the write of one changes nothing else of the machine; the
status register, in which IFEN is as R697 has it and DBGRQ and DBGACK are those after the OR with the control bits (log 57); the
communications channel; scan chain 2 writes and reads them, and scan chain 15 those of CP15, with every operation of R715. Which value of
the read/write bit of scan chain 15 is a write is decision D28; that a narrow register reads 0 above its width is the model's choice of
log 62. -/
def Obligations.DebuggerRegisters : Prop :=
  (∀ (s : State) (a : BitVec 5) (v : Word) (mask : Word),
    (a, mask) ∈ ([(0b01000#5, 0xFFFFFFFF#32), (0b01001#5, 0xFFFFFFFF#32), (0b01010#5, 0xFFFFFFFF#32),
      (0b01011#5, 0xFFFFFFFF#32), (0b01100#5, 0x1FF#32), (0b01101#5, 0xFF#32), (0b10000#5, 0xFFFFFFFF#32),
      (0b10001#5, 0xFFFFFFFF#32), (0b10010#5, 0xFFFFFFFF#32), (0b10011#5, 0xFFFFFFFF#32), (0b10100#5, 0x1FF#32),
      (0b10101#5, 0xFF#32), (0b00000#5, 0x37#32)] : List (BitVec 5 × Word)) →
    (iceReadReg (iceWriteReg s a v) a).1 = v &&& mask ∧ { iceWriteReg s a v with ice := s.ice } = s) ∧
  (∀ (s : State) (v : Word), iceWriteReg s 0b00001#5 v = s ∧
    (iceReadReg s 0b00001#5).1.getLsbD 0 = s.dbgack ∧
    (iceReadReg s 0b00001#5).1.getLsbD 1 = (s.pins.dbgrq || s.tap.dbgrqLatch) ∧
    (iceReadReg s 0b00001#5).1.getLsbD 2 = s.ifen ∧
    (s.pins.dbgen = true → s.ifen = (!s.dbgack && !(s.ice.ctrl.getLsbD 2))) ∧
    (s.dbg.halted = true → (iceReadReg s 0b00001#5).1.getLsbD 3 = s.dbg.trans1) ∧
    (iceReadReg s 0b00001#5).1.getLsbD 4 = s.cpsr.t ∧ (iceReadReg s 0b00001#5).1.getLsbD 12 = s.dbg.moe ∧
    (iceWriteReg s 0b10100#5 v).ice.chainOut = false) ∧
  (∀ (s : State) (v : Word),
    iceReadReg s 0b00100#5 = (0x40000000#32 ||| (if s.dcc.w then 2#32 else 0) ||| (if s.dcc.r then 1#32 else 0), s) ∧
    iceReadReg s 0b00101#5 = (s.dcc.writeData, { s with dcc := { s.dcc with w := false } }) ∧
    iceWriteReg s 0b00101#5 v = { s with dcc := { s.dcc with readData := v, r := true } }) ∧
  (∀ (s : State) (a : BitVec 5) (v : Word) (rest : List EnvEvent),
    (s.env = .iceRead a :: rest → s.pins.dbgtcken = true → ∃ t : State, step s = .next t ∧
      t.dbg.readData = (iceReadReg { s.clearOutputs with env := rest } a).1) ∧
    (s.env = .iceWrite a v :: rest → s.pins.dbgtcken = true → ∃ t : State, step s = .next t ∧
      t.ice = (iceWriteReg { s.clearOutputs with env := rest } a v).ice ∧
      t.dcc = (iceWriteReg { s.clearOutputs with env := rest } a v).dcc ∧ t.gpr = s.gpr ∧ t.cpsr = s.cpsr ∧ t.pc = s.pc) ∧
    (s.tap.chain2 = 1#1 ++ a ++ v → updateChain2 s = iceWriteReg s a v) ∧
    (s.tap.chain2 = 0#1 ++ a ++ v → (updateChain2 s).tap.chain2.extractLsb' 0 32 = (iceReadReg s a).1)) ∧
  (∀ (s : State) (op : BitVec 4) (v : Word),
    (s.tap.chain15 = 1#1 ++ op ++ v → updateChain15 s = scan15Write op v s) ∧
    (s.tap.chain15 = 0#1 ++ op ++ v → (updateChain15 s).dbg.readData = (scan15Read op s).1) ∧
    (11 ≤ op.toNat → scan15Write op v s = s)) ∧
  ∀ (s : State) (v : Word),
    (scan15Read 1#4 s).1 &&& 0x23FF#32 = controlWord s.cp15 ∧
    (scan15Read 4#4 s).1 &&& 0x1FF#32 = s.cp15.fsr.setWidth 32 ∧
    (scan15Read 6#4 s).1 &&& 0xFE000000#32 = s.cp15.pid ++ 0#25 ∧
    (∀ op : BitVec 4, { (scan15Read op s).2 with draws := s.draws } = s) ∧
    controlWord (scan15Write 1#4 v s).cp15 = (v &&& 0x238F#32) ||| 0x70#32 ∧
    scan15Write 7#4 v s = { s with cp15 := { s.cp15 with procId := v }, procIdWr := true } ∧
    (∀ k : Fin 64, (scan15Write 9#4 v s).tlb.entries[k] =
      if s.params.tlbInvalidateKeepsPreserved && s.tlb.entries[k].preserve then s.tlb.entries[k]
      else { s.tlb.entries[k] with valid := false }) ∧
    (∀ k : Fin 64, (scan15Write 10#4 v s).tlb.entries[k] =
      if tlbMatches s.tlb.entries[k] v then { s.tlb.entries[k] with valid := false } else s.tlb.entries[k]) ∧
    (∀ op : BitVec 4, op = 9#4 ∨ op = 10#4 →
      { scan15Write op v s with tlb := { (scan15Write op v s).tlb with entries := s.tlb.entries } } = s) ∧
    { scan15Write 8#4 v s with cache := { (scan15Write 8#4 v s).cache with lines := s.cache.lines } } = s ∧
    scan15Read 0#4 s = (0x41807204#32, s) ∧ scan15Read 2#4 s = (s.cp15.ttb ++ 0#14, s) ∧
    scan15Read 3#4 s = (s.cp15.dacr, s) ∧ scan15Read 5#4 s = (s.cp15.far, s) ∧ scan15Read 7#4 s = (s.cp15.procId, s) ∧
    scan15Write 2#4 v s = { s with cp15 := { s.cp15 with ttb := v.extractLsb' 14 18 } } ∧
    scan15Write 3#4 v s = { s with cp15 := { s.cp15 with dacr := v } } ∧
    scan15Write 4#4 v s = { s with cp15 := { s.cp15 with fsr := v.extractLsb' 0 8 } } ∧
    scan15Write 5#4 v s = { s with cp15 := { s.cp15 with far := v } } ∧
    scan15Write 6#4 v s = { s with cp15 := { s.cp15 with pid := v.extractLsb' 25 7 } } ∧
    (∀ k : Fin 256, (scan15Write 8#4 v s).cache.lines[k] = { s.cache.lines[k] with valid := false }) ∧
    scan15Write 0#4 v s = s

/-- The TAP controller. Five enabled clocks with DBGTMS High take it from any state to Test-Logic-Reset; DBGnTRST puts it there with
IDCODE and scan chain 0 selected. Four clocks in SHIFT-IR shift a new instruction in, least significant bit first, while 0001 comes
out; IDCODE captures the identification code. With DBGTCKEN Low nothing moves. Scan chain 1 of a running core in INTEST captures the
data bus and DBGBREAK, and its update drives both inputs of the core. That DBGnTRST clears DBGMOE too is the model's choice, read from decision
D14 (log 45). -/
def Obligations.TapController : Prop :=
  (∀ t : TapState, nextTap (nextTap (nextTap (nextTap (nextTap t true) true) true) true) true = .testLogicReset) ∧
  (∀ (s : State) (rest : List EnvEvent), s.env = .ntrst :: rest → ∃ t : State, step s = .next t ∧
    t.tap.state = .testLogicReset ∧ t.tap.ir = 0b1110#4 ∧ t.tap.scanSel = 0#4 ∧ t.ice.chainOut = false ∧
    t.dbg.moe = false ∧ t.gpr = s.gpr ∧ t.cpsr = s.cpsr ∧ t.pc = s.pc ∧ t.mem = s.mem ∧ t.cp15 = s.cp15) ∧
  (∀ (s : State) (b0 b1 b2 b3 last : Bool), s.pins.dbgtcken = true → s.tap.state = .captureIr →
    ∃ t0 t1 t2 t3 t4 t5 : State, tapClock s false b0 = .next t0 ∧ tapClock t0 false b0 = .next t1 ∧
      tapClock t1 false b1 = .next t2 ∧ tapClock t2 false b2 = .next t3 ∧ tapClock t3 true b3 = .next t4 ∧
      tapClock t4 true last = .next t5 ∧ t1.tap.tdo = true ∧ t2.tap.tdo = false ∧ t3.tap.tdo = false ∧ t4.tap.tdo = false ∧
      t5.tap.state = .updateIr ∧
      t5.tap.ir = BitVec.ofBool b3 ++ BitVec.ofBool b2 ++ BitVec.ofBool b1 ++ BitVec.ofBool b0) ∧
  (∀ s : State, s.tap.ir = 0b1110#4 → (captureDr s).tap.idShift = 0x7F1F0F0F#32) ∧
  (∀ (s : State) (tms tdi : Bool), s.pins.dbgtcken = false → tapClock s tms tdi = .next s) ∧
  ∀ (s : State) (w : Word), s.dbg.halted = false → s.tap.ir = 0b1100#4 → s.tap.scanSel = 1#4 →
    (captureDr s).tap.chain1 = BitVec.ofBool s.pins.dbgbreak ++ s.trace.dataBus ∧
    ∃ t : State, updateDr s = .next t ∧ t.dataIntoCore w = s.tap.chain1.extractLsb' 0 32 ∧
      t.breakInput = s.tap.chain1.getLsbD 32

/-- The debugger's insertions. At debug speed the instruction executes, with no effect on memory or on the system: a store puts its word
on the data bus, a load takes one from it. The word inserted shows on the ETM outputs as a fetch at the PC without a memory request (log 49).
After an instruction with bit 33 High the next one waits. RESTART runs a transfer that waits
at system speed, with its effect on memory, and debug state is entered again, HTRANS[1], bit 33 and DBGACK High; with HCLKEN Low it waits
at system speed (log 6). RESTART after a branch leaves debug state at its target, the scan chains in system mode. Outside debug state and
for an instruction that R717 does not list an insertion is refused (log 9, log 29). The PC's count is that of R720 (log 28, log 31). -/
def Obligations.InsertionAndRestart : Prop :=
  (∀ (s u : State) (bit33 : Bool) (w : Word) (words : List Word) (rest : List EnvEvent) (i : Instr),
    Debugging s (.insert bit33 w words) rest → s.dbg.pending = none → s.dbg.skip = 0 → s.insertedInstr w = some i →
    u = ((atEvent s rest).showScanned w).insertState bit33 w words →
    (s.dbg.prevBit33 = false → ∀ t : State, exec i u = .next t → ∃ v : State, step s = .next v ∧
      v.gpr = t.gpr ∧ v.pc = t.pc ∧ v.cpsr = t.cpsr ∧ v.dbg.dataOut = t.dbg.dataOut ∧ v.dbg.prevBit33 = bit33 ∧
      v.dbg.halted = true ∧ v.mem = s.mem ∧ v.bus = [] ∧ v.writeBuffer = s.writeBuffer ∧ v.cache = s.cache ∧ v.tlb = s.tlb ∧
      v.cp15 = s.cp15) ∧
    (s.dbg.prevBit33 = true → ∃ v : State, step s = .next v ∧ v.dbg.pending = some w ∧ v.dbg.prevBit33 = bit33 ∧
      v.dbg.halted = true ∧ v.gpr = s.gpr ∧ v.pc = s.pc ∧ v.cpsr = s.cpsr ∧ v.mem = s.mem ∧
      ∃ a : CoreAccess, v.trace.accesses = [a] ∧ a.data = w ∧ a.addr = s.pc ∧ a.nOpc = false ∧ a.request = false)) ∧
  (∀ (s : State) (a v : Word) (size : Size) (priv lock : Bool), s.debugSpeed = true →
    (∃ t : State, dataWrite s a size v priv lock = .done 0 t ∧
      t.dbg = { s.dbg with dataOut := s.dbg.dataOut ++ [replicateLanes size v] } ∧ t.fixedPart = s.fixedPart ∧ t.mem = s.mem) ∧
    ∀ (x : Word) (rest : List Word), s.dbg.dataIn = x :: rest →
      ∃ t : State, dataRead s a size priv lock = .done (selectLanes s.cp15.b size a x) t ∧
        t.dbg = { s.dbg with dataIn := rest } ∧ t.fixedPart = s.fixedPart ∧ t.mem = s.mem) ∧
  (∀ (s b : State) (w : Word) (rest : List EnvEvent) (i : Instr), Debugging s .restart rest → s.dbg.pending = some w →
    s.insertedInstr w = some i → debugClass i = .transfer → b = (atEvent s rest).restartTap.beginInserted w →
    ∀ t : State, exec i { b with dbg := { b.dbg with systemSpeed := true } } = .next t →
      (s.pins.hclken = true → ∃ v : State, step s = .next v ∧ v.dbg.halted = true ∧ v.dbg.systemSpeed = false ∧
        v.dbg.trans1 = true ∧ v.dbg.bit33 = true ∧ v.dbg.pending = none ∧ (s.pins.dbgen = true → v.dbgack = true) ∧
        v.gpr = t.gpr ∧ v.cpsr = t.cpsr ∧ v.cp15 = t.cp15 ∧ v.mem = t.mem ∧
        (t.dbg.dataAborted = true ∨ t.pc = s.pc + s.instrBytes → v.pc = t.pc + t.instrBytes * 2#32)) ∧
      (s.pins.hclken = false → t.bus ≠ [] → ∃ v : State, step s = .next v ∧ v.dbg.halted = true ∧
        v.dbg.systemSpeed = true ∧ v.dbg.pending = some w ∧ v.gpr = s.gpr ∧ v.pc = s.pc ∧ v.cpsr = s.cpsr ∧ v.mem = s.mem)) ∧
  (∀ (s : State) (w : Word) (rest : List EnvEvent) (cond : Cond) (off24 : BitVec 24), Debugging s .restart rest →
    s.pins.hclken = true → s.dbg.pending = some w → s.insertedInstr w = some (.b cond off24) → condPassed cond s.cpsr = true →
    ∃ v : State, step s = .next v ∧ v.dbg.halted = false ∧ v.tap.ir = 0b0100#4 ∧ v.testMode = false ∧ v.gpr = s.gpr ∧
      v.cpsr = s.cpsr ∧ v.pc = alignPc s.cpsr.t (s.pc + 8#32 + BitVec.ofInt 32 (4 * off24.toInt)) ∧
      ∀ a : Word, v.settledByte a = s.settledByte a) ∧
  (∀ (s : State) (bit33 : Bool) (w : Word) (words : List Word) (rest : List EnvEvent),
    s.env = .insert bit33 w words :: rest → s.pins.dbgtcken = true →
    (s.dbg.halted = false ∨ s.dbg.systemSpeed = true ∨ s.dbg.pending ≠ none ∨ (s.dbg.skip = 0 ∧ s.insertedInstr w = none)) →
      step s = .refused .insertNotAllowed) ∧
  ∀ (s : State) (w : Word) (i : Instr), s.decodeBits (instrBits s.cpsr.t s.cp15.b s.pc w) = .ok i →
    (s.insertedInstr w = none ↔ debugClass i = .other)

/-- Every step keeps memory canonical, the PC aligned for its state, the write buffer at most eight deep, and bit 3 of the debug
control register 0. -/
def Obligations.StepKeepsTheInvariant : Prop :=
  ∀ s t : State, s.Inv → step s = .next t → t.Inv

/-- The invariant holds after reset. -/
def Obligations.ResetHasTheInvariant : Prop := State.reset.Inv

/-- User mode: a step of the core changes no CP15 register but the fault registers, nor the lockdown fields of the cache and the TLB but
the TLB victim that a table walk moves. It leaves the mode, the interrupt masks, every SPSR and every banked register as they are,
unless an exception is taken: then those of the exception's mode alone are written, and the core is at its vector or in debug state. -/
def Obligations.UserModeIsConfined : Prop :=
  ∀ s t : State, CoreRuns s → s.cpsr.m = modeUsr → step s = .next t →
    ({ t.cp15 with fsr := 0, far := 0 } : Cp15) = { s.cp15 with fsr := 0, far := 0 } ∧
    t.cache.base = s.cache.base ∧ t.cache.camOnly = s.cache.camOnly ∧ t.tlb.base = s.tlb.base ∧ t.tlb.p = s.tlb.p ∧
    t.tlb.index2 = s.tlb.index2 ∧
    ((SameControl s t ∧ BanksKept none s t) ∨
      ∃ e : Exception, t.cpsr.m = exceptionMode e ∧ t.cpsr.i = true ∧ t.cpsr.t = false ∧
        BanksKept (some (exceptionMode e)) s t ∧ (AtVector e t ∨ t.dbg.halted = true))
end

