-- ==== Sys2Proof/Laws/State.lean ====
section
/-! SUPPORT. One lemma per field of State and per update of it. -/

namespace Sys2Proof.Machine

@[simp] theorem State.setReg_gpr (s : State) (r : RegNum) (v : Word) : (s.setReg r v).gpr = s.gpr.set (physIndex s.cpsr.m r) v := rfl
@[simp] theorem State.setReg_pc (s : State) (r : RegNum) (v : Word) : (s.setReg r v).pc = s.pc := rfl
@[simp] theorem State.setReg_cpsr (s : State) (r : RegNum) (v : Word) : (s.setReg r v).cpsr = s.cpsr := rfl
@[simp] theorem State.setReg_spsrFiq (s : State) (r : RegNum) (v : Word) : (s.setReg r v).spsrFiq = s.spsrFiq := rfl
@[simp] theorem State.setReg_spsrSvc (s : State) (r : RegNum) (v : Word) : (s.setReg r v).spsrSvc = s.spsrSvc := rfl
@[simp] theorem State.setReg_spsrAbt (s : State) (r : RegNum) (v : Word) : (s.setReg r v).spsrAbt = s.spsrAbt := rfl
@[simp] theorem State.setReg_spsrIrq (s : State) (r : RegNum) (v : Word) : (s.setReg r v).spsrIrq = s.spsrIrq := rfl
@[simp] theorem State.setReg_spsrUnd (s : State) (r : RegNum) (v : Word) : (s.setReg r v).spsrUnd = s.spsrUnd := rfl
@[simp] theorem State.setReg_cp15 (s : State) (r : RegNum) (v : Word) : (s.setReg r v).cp15 = s.cp15 := rfl
@[simp] theorem State.setReg_cache (s : State) (r : RegNum) (v : Word) : (s.setReg r v).cache = s.cache := rfl
@[simp] theorem State.setReg_tlb (s : State) (r : RegNum) (v : Word) : (s.setReg r v).tlb = s.tlb := rfl
@[simp] theorem State.setReg_writeBuffer (s : State) (r : RegNum) (v : Word) : (s.setReg r v).writeBuffer = s.writeBuffer := rfl
@[simp] theorem State.setReg_queue (s : State) (r : RegNum) (v : Word) : (s.setReg r v).queue = s.queue := rfl
@[simp] theorem State.setReg_mem (s : State) (r : RegNum) (v : Word) : (s.setReg r v).mem = s.mem := rfl
@[simp] theorem State.setReg_ice (s : State) (r : RegNum) (v : Word) : (s.setReg r v).ice = s.ice := rfl
@[simp] theorem State.setReg_dcc (s : State) (r : RegNum) (v : Word) : (s.setReg r v).dcc = s.dcc := rfl
@[simp] theorem State.setReg_dbg (s : State) (r : RegNum) (v : Word) : (s.setReg r v).dbg = s.dbg := rfl
@[simp] theorem State.setReg_tap (s : State) (r : RegNum) (v : Word) : (s.setReg r v).tap = s.tap := rfl
@[simp] theorem State.setReg_pins (s : State) (r : RegNum) (v : Word) : (s.setReg r v).pins = s.pins := rfl
@[simp] theorem State.setReg_params (s : State) (r : RegNum) (v : Word) : (s.setReg r v).params = s.params := rfl
@[simp] theorem State.setReg_copros (s : State) (r : RegNum) (v : Word) : (s.setReg r v).copros = s.copros := rfl
@[simp] theorem State.setReg_env (s : State) (r : RegNum) (v : Word) : (s.setReg r v).env = s.env := rfl
@[simp] theorem State.setReg_bus (s : State) (r : RegNum) (v : Word) : (s.setReg r v).bus = s.bus := rfl
@[simp] theorem State.setReg_masters (s : State) (r : RegNum) (v : Word) : (s.setReg r v).masters = s.masters := rfl
@[simp] theorem State.setReg_trace (s : State) (r : RegNum) (v : Word) : (s.setReg r v).trace = s.trace := rfl
@[simp] theorem State.setReg_procIdWr (s : State) (r : RegNum) (v : Word) : (s.setReg r v).procIdWr = s.procIdWr := rfl
@[simp] theorem State.setReg_bankHazard (s : State) (r : RegNum) (v : Word) : (s.setReg r v).bankHazard = s.bankHazard := rfl
@[simp] theorem State.setReg_bankHazardNext (s : State) (r : RegNum) (v : Word) : (s.setReg r v).bankHazardNext = s.bankHazardNext := rfl
@[simp] theorem State.setReg_draws (s : State) (r : RegNum) (v : Word) : (s.setReg r v).draws = s.draws := rfl

@[simp] theorem State.setUserReg_gpr (s : State) (r : RegNum) (v : Word) : (s.setUserReg r v).gpr = s.gpr.set (userIndex r) v := rfl
@[simp] theorem State.setUserReg_pc (s : State) (r : RegNum) (v : Word) : (s.setUserReg r v).pc = s.pc := rfl
@[simp] theorem State.setUserReg_cpsr (s : State) (r : RegNum) (v : Word) : (s.setUserReg r v).cpsr = s.cpsr := rfl
@[simp] theorem State.setUserReg_spsrFiq (s : State) (r : RegNum) (v : Word) : (s.setUserReg r v).spsrFiq = s.spsrFiq := rfl
@[simp] theorem State.setUserReg_spsrSvc (s : State) (r : RegNum) (v : Word) : (s.setUserReg r v).spsrSvc = s.spsrSvc := rfl
@[simp] theorem State.setUserReg_spsrAbt (s : State) (r : RegNum) (v : Word) : (s.setUserReg r v).spsrAbt = s.spsrAbt := rfl
@[simp] theorem State.setUserReg_spsrIrq (s : State) (r : RegNum) (v : Word) : (s.setUserReg r v).spsrIrq = s.spsrIrq := rfl
@[simp] theorem State.setUserReg_spsrUnd (s : State) (r : RegNum) (v : Word) : (s.setUserReg r v).spsrUnd = s.spsrUnd := rfl
@[simp] theorem State.setUserReg_cp15 (s : State) (r : RegNum) (v : Word) : (s.setUserReg r v).cp15 = s.cp15 := rfl
@[simp] theorem State.setUserReg_cache (s : State) (r : RegNum) (v : Word) : (s.setUserReg r v).cache = s.cache := rfl
@[simp] theorem State.setUserReg_tlb (s : State) (r : RegNum) (v : Word) : (s.setUserReg r v).tlb = s.tlb := rfl
@[simp] theorem State.setUserReg_writeBuffer (s : State) (r : RegNum) (v : Word) : (s.setUserReg r v).writeBuffer = s.writeBuffer := rfl
@[simp] theorem State.setUserReg_queue (s : State) (r : RegNum) (v : Word) : (s.setUserReg r v).queue = s.queue := rfl
@[simp] theorem State.setUserReg_mem (s : State) (r : RegNum) (v : Word) : (s.setUserReg r v).mem = s.mem := rfl
@[simp] theorem State.setUserReg_ice (s : State) (r : RegNum) (v : Word) : (s.setUserReg r v).ice = s.ice := rfl
@[simp] theorem State.setUserReg_dcc (s : State) (r : RegNum) (v : Word) : (s.setUserReg r v).dcc = s.dcc := rfl
@[simp] theorem State.setUserReg_dbg (s : State) (r : RegNum) (v : Word) : (s.setUserReg r v).dbg = s.dbg := rfl
@[simp] theorem State.setUserReg_tap (s : State) (r : RegNum) (v : Word) : (s.setUserReg r v).tap = s.tap := rfl
@[simp] theorem State.setUserReg_pins (s : State) (r : RegNum) (v : Word) : (s.setUserReg r v).pins = s.pins := rfl
@[simp] theorem State.setUserReg_params (s : State) (r : RegNum) (v : Word) : (s.setUserReg r v).params = s.params := rfl
@[simp] theorem State.setUserReg_copros (s : State) (r : RegNum) (v : Word) : (s.setUserReg r v).copros = s.copros := rfl
@[simp] theorem State.setUserReg_env (s : State) (r : RegNum) (v : Word) : (s.setUserReg r v).env = s.env := rfl
@[simp] theorem State.setUserReg_bus (s : State) (r : RegNum) (v : Word) : (s.setUserReg r v).bus = s.bus := rfl
@[simp] theorem State.setUserReg_masters (s : State) (r : RegNum) (v : Word) : (s.setUserReg r v).masters = s.masters := rfl
@[simp] theorem State.setUserReg_trace (s : State) (r : RegNum) (v : Word) : (s.setUserReg r v).trace = s.trace := rfl
@[simp] theorem State.setUserReg_procIdWr (s : State) (r : RegNum) (v : Word) : (s.setUserReg r v).procIdWr = s.procIdWr := rfl
@[simp] theorem State.setUserReg_bankHazard (s : State) (r : RegNum) (v : Word) : (s.setUserReg r v).bankHazard = s.bankHazard := rfl
@[simp] theorem State.setUserReg_bankHazardNext (s : State) (r : RegNum) (v : Word) : (s.setUserReg r v).bankHazardNext = s.bankHazardNext := rfl
@[simp] theorem State.setUserReg_draws (s : State) (r : RegNum) (v : Word) : (s.setUserReg r v).draws = s.draws := rfl

@[simp] theorem State.branchTo_gpr (s : State) (a : Word) : (s.branchTo a).gpr = s.gpr := rfl
@[simp] theorem State.branchTo_pc (s : State) (a : Word) : (s.branchTo a).pc = alignPc s.cpsr.t a := rfl
@[simp] theorem State.branchTo_cpsr (s : State) (a : Word) : (s.branchTo a).cpsr = s.cpsr := rfl
@[simp] theorem State.branchTo_spsrFiq (s : State) (a : Word) : (s.branchTo a).spsrFiq = s.spsrFiq := rfl
@[simp] theorem State.branchTo_spsrSvc (s : State) (a : Word) : (s.branchTo a).spsrSvc = s.spsrSvc := rfl
@[simp] theorem State.branchTo_spsrAbt (s : State) (a : Word) : (s.branchTo a).spsrAbt = s.spsrAbt := rfl
@[simp] theorem State.branchTo_spsrIrq (s : State) (a : Word) : (s.branchTo a).spsrIrq = s.spsrIrq := rfl
@[simp] theorem State.branchTo_spsrUnd (s : State) (a : Word) : (s.branchTo a).spsrUnd = s.spsrUnd := rfl
@[simp] theorem State.branchTo_cp15 (s : State) (a : Word) : (s.branchTo a).cp15 = s.cp15 := rfl
@[simp] theorem State.branchTo_cache (s : State) (a : Word) : (s.branchTo a).cache = s.cache := rfl
@[simp] theorem State.branchTo_tlb (s : State) (a : Word) : (s.branchTo a).tlb = s.tlb := rfl
@[simp] theorem State.branchTo_writeBuffer (s : State) (a : Word) : (s.branchTo a).writeBuffer = s.writeBuffer := rfl
@[simp] theorem State.branchTo_queue (s : State) (a : Word) : (s.branchTo a).queue = [] := rfl
@[simp] theorem State.branchTo_mem (s : State) (a : Word) : (s.branchTo a).mem = s.mem := rfl
@[simp] theorem State.branchTo_ice (s : State) (a : Word) : (s.branchTo a).ice = s.ice := rfl
@[simp] theorem State.branchTo_dcc (s : State) (a : Word) : (s.branchTo a).dcc = s.dcc := rfl
@[simp] theorem State.branchTo_dbg (s : State) (a : Word) : (s.branchTo a).dbg = s.dbg := rfl
@[simp] theorem State.branchTo_tap (s : State) (a : Word) : (s.branchTo a).tap = s.tap := rfl
@[simp] theorem State.branchTo_pins (s : State) (a : Word) : (s.branchTo a).pins = s.pins := rfl
@[simp] theorem State.branchTo_params (s : State) (a : Word) : (s.branchTo a).params = s.params := rfl
@[simp] theorem State.branchTo_copros (s : State) (a : Word) : (s.branchTo a).copros = s.copros := rfl
@[simp] theorem State.branchTo_env (s : State) (a : Word) : (s.branchTo a).env = s.env := rfl
@[simp] theorem State.branchTo_bus (s : State) (a : Word) : (s.branchTo a).bus = s.bus := rfl
@[simp] theorem State.branchTo_masters (s : State) (a : Word) : (s.branchTo a).masters = s.masters := rfl
@[simp] theorem State.branchTo_trace (s : State) (a : Word) : (s.branchTo a).trace = s.trace := rfl
@[simp] theorem State.branchTo_procIdWr (s : State) (a : Word) : (s.branchTo a).procIdWr = s.procIdWr := rfl
@[simp] theorem State.branchTo_bankHazard (s : State) (a : Word) : (s.branchTo a).bankHazard = s.bankHazard := rfl
@[simp] theorem State.branchTo_bankHazardNext (s : State) (a : Word) : (s.branchTo a).bankHazardNext = s.bankHazardNext := rfl
@[simp] theorem State.branchTo_draws (s : State) (a : Word) : (s.branchTo a).draws = s.draws := rfl

@[simp] theorem State.advance_gpr (s : State) : (s.advance).gpr = s.gpr := rfl
@[simp] theorem State.advance_pc (s : State) : (s.advance).pc = s.pc + s.instrBytes := rfl
@[simp] theorem State.advance_cpsr (s : State) : (s.advance).cpsr = s.cpsr := rfl
@[simp] theorem State.advance_spsrFiq (s : State) : (s.advance).spsrFiq = s.spsrFiq := rfl
@[simp] theorem State.advance_spsrSvc (s : State) : (s.advance).spsrSvc = s.spsrSvc := rfl
@[simp] theorem State.advance_spsrAbt (s : State) : (s.advance).spsrAbt = s.spsrAbt := rfl
@[simp] theorem State.advance_spsrIrq (s : State) : (s.advance).spsrIrq = s.spsrIrq := rfl
@[simp] theorem State.advance_spsrUnd (s : State) : (s.advance).spsrUnd = s.spsrUnd := rfl
@[simp] theorem State.advance_cp15 (s : State) : (s.advance).cp15 = s.cp15 := rfl
@[simp] theorem State.advance_cache (s : State) : (s.advance).cache = s.cache := rfl
@[simp] theorem State.advance_tlb (s : State) : (s.advance).tlb = s.tlb := rfl
@[simp] theorem State.advance_writeBuffer (s : State) : (s.advance).writeBuffer = s.writeBuffer := rfl
@[simp] theorem State.advance_queue (s : State) : (s.advance).queue = s.queue.tail := rfl
@[simp] theorem State.advance_mem (s : State) : (s.advance).mem = s.mem := rfl
@[simp] theorem State.advance_ice (s : State) : (s.advance).ice = s.ice := rfl
@[simp] theorem State.advance_dcc (s : State) : (s.advance).dcc = s.dcc := rfl
@[simp] theorem State.advance_dbg (s : State) : (s.advance).dbg = s.dbg := rfl
@[simp] theorem State.advance_tap (s : State) : (s.advance).tap = s.tap := rfl
@[simp] theorem State.advance_pins (s : State) : (s.advance).pins = s.pins := rfl
@[simp] theorem State.advance_params (s : State) : (s.advance).params = s.params := rfl
@[simp] theorem State.advance_copros (s : State) : (s.advance).copros = s.copros := rfl
@[simp] theorem State.advance_env (s : State) : (s.advance).env = s.env := rfl
@[simp] theorem State.advance_bus (s : State) : (s.advance).bus = s.bus := rfl
@[simp] theorem State.advance_masters (s : State) : (s.advance).masters = s.masters := rfl
@[simp] theorem State.advance_trace (s : State) : (s.advance).trace = s.trace := rfl
@[simp] theorem State.advance_procIdWr (s : State) : (s.advance).procIdWr = s.procIdWr := rfl
@[simp] theorem State.advance_bankHazard (s : State) : (s.advance).bankHazard = s.bankHazard := rfl
@[simp] theorem State.advance_bankHazardNext (s : State) : (s.advance).bankHazardNext = s.bankHazardNext := rfl
@[simp] theorem State.advance_draws (s : State) : (s.advance).draws = s.draws := rfl

@[simp] theorem State.drew_gpr (s : State) : (s.drew).gpr = s.gpr := rfl
@[simp] theorem State.drew_pc (s : State) : (s.drew).pc = s.pc := rfl
@[simp] theorem State.drew_cpsr (s : State) : (s.drew).cpsr = s.cpsr := rfl
@[simp] theorem State.drew_spsrFiq (s : State) : (s.drew).spsrFiq = s.spsrFiq := rfl
@[simp] theorem State.drew_spsrSvc (s : State) : (s.drew).spsrSvc = s.spsrSvc := rfl
@[simp] theorem State.drew_spsrAbt (s : State) : (s.drew).spsrAbt = s.spsrAbt := rfl
@[simp] theorem State.drew_spsrIrq (s : State) : (s.drew).spsrIrq = s.spsrIrq := rfl
@[simp] theorem State.drew_spsrUnd (s : State) : (s.drew).spsrUnd = s.spsrUnd := rfl
@[simp] theorem State.drew_cp15 (s : State) : (s.drew).cp15 = s.cp15 := rfl
@[simp] theorem State.drew_cache (s : State) : (s.drew).cache = s.cache := rfl
@[simp] theorem State.drew_tlb (s : State) : (s.drew).tlb = s.tlb := rfl
@[simp] theorem State.drew_writeBuffer (s : State) : (s.drew).writeBuffer = s.writeBuffer := rfl
@[simp] theorem State.drew_queue (s : State) : (s.drew).queue = s.queue := rfl
@[simp] theorem State.drew_mem (s : State) : (s.drew).mem = s.mem := rfl
@[simp] theorem State.drew_ice (s : State) : (s.drew).ice = s.ice := rfl
@[simp] theorem State.drew_dcc (s : State) : (s.drew).dcc = s.dcc := rfl
@[simp] theorem State.drew_dbg (s : State) : (s.drew).dbg = s.dbg := rfl
@[simp] theorem State.drew_tap (s : State) : (s.drew).tap = s.tap := rfl
@[simp] theorem State.drew_pins (s : State) : (s.drew).pins = s.pins := rfl
@[simp] theorem State.drew_params (s : State) : (s.drew).params = s.params := rfl
@[simp] theorem State.drew_copros (s : State) : (s.drew).copros = s.copros := rfl
@[simp] theorem State.drew_env (s : State) : (s.drew).env = s.env := rfl
@[simp] theorem State.drew_bus (s : State) : (s.drew).bus = s.bus := rfl
@[simp] theorem State.drew_masters (s : State) : (s.drew).masters = s.masters := rfl
@[simp] theorem State.drew_trace (s : State) : (s.drew).trace = s.trace := rfl
@[simp] theorem State.drew_procIdWr (s : State) : (s.drew).procIdWr = s.procIdWr := rfl
@[simp] theorem State.drew_bankHazard (s : State) : (s.drew).bankHazard = s.bankHazard := rfl
@[simp] theorem State.drew_bankHazardNext (s : State) : (s.drew).bankHazardNext = s.bankHazardNext := rfl
@[simp] theorem State.drew_draws (s : State) : (s.drew).draws = s.draws + 1 := rfl

@[simp] theorem State.setCpsr_gpr (s : State) (p : Psr) : (s.setCpsr p).gpr = s.gpr := rfl
@[simp] theorem State.setCpsr_pc (s : State) (p : Psr) : (s.setCpsr p).pc = s.pc := rfl
@[simp] theorem State.setCpsr_cpsr (s : State) (p : Psr) : (s.setCpsr p).cpsr = p := rfl
@[simp] theorem State.setCpsr_spsrFiq (s : State) (p : Psr) : (s.setCpsr p).spsrFiq = s.spsrFiq := rfl
@[simp] theorem State.setCpsr_spsrSvc (s : State) (p : Psr) : (s.setCpsr p).spsrSvc = s.spsrSvc := rfl
@[simp] theorem State.setCpsr_spsrAbt (s : State) (p : Psr) : (s.setCpsr p).spsrAbt = s.spsrAbt := rfl
@[simp] theorem State.setCpsr_spsrIrq (s : State) (p : Psr) : (s.setCpsr p).spsrIrq = s.spsrIrq := rfl
@[simp] theorem State.setCpsr_spsrUnd (s : State) (p : Psr) : (s.setCpsr p).spsrUnd = s.spsrUnd := rfl
@[simp] theorem State.setCpsr_cp15 (s : State) (p : Psr) : (s.setCpsr p).cp15 = s.cp15 := rfl
@[simp] theorem State.setCpsr_cache (s : State) (p : Psr) : (s.setCpsr p).cache = s.cache := rfl
@[simp] theorem State.setCpsr_tlb (s : State) (p : Psr) : (s.setCpsr p).tlb = s.tlb := rfl
@[simp] theorem State.setCpsr_writeBuffer (s : State) (p : Psr) : (s.setCpsr p).writeBuffer = s.writeBuffer := rfl
@[simp] theorem State.setCpsr_queue (s : State) (p : Psr) : (s.setCpsr p).queue = s.queue := rfl
@[simp] theorem State.setCpsr_mem (s : State) (p : Psr) : (s.setCpsr p).mem = s.mem := rfl
@[simp] theorem State.setCpsr_ice (s : State) (p : Psr) : (s.setCpsr p).ice = s.ice := rfl
@[simp] theorem State.setCpsr_dcc (s : State) (p : Psr) : (s.setCpsr p).dcc = s.dcc := rfl
@[simp] theorem State.setCpsr_dbg (s : State) (p : Psr) : (s.setCpsr p).dbg = s.dbg := rfl
@[simp] theorem State.setCpsr_tap (s : State) (p : Psr) : (s.setCpsr p).tap = s.tap := rfl
@[simp] theorem State.setCpsr_pins (s : State) (p : Psr) : (s.setCpsr p).pins = s.pins := rfl
@[simp] theorem State.setCpsr_params (s : State) (p : Psr) : (s.setCpsr p).params = s.params := rfl
@[simp] theorem State.setCpsr_copros (s : State) (p : Psr) : (s.setCpsr p).copros = s.copros := rfl
@[simp] theorem State.setCpsr_env (s : State) (p : Psr) : (s.setCpsr p).env = s.env := rfl
@[simp] theorem State.setCpsr_bus (s : State) (p : Psr) : (s.setCpsr p).bus = s.bus := rfl
@[simp] theorem State.setCpsr_masters (s : State) (p : Psr) : (s.setCpsr p).masters = s.masters := rfl
@[simp] theorem State.setCpsr_trace (s : State) (p : Psr) : (s.setCpsr p).trace = s.trace := rfl
@[simp] theorem State.setCpsr_procIdWr (s : State) (p : Psr) : (s.setCpsr p).procIdWr = s.procIdWr := rfl
@[simp] theorem State.setCpsr_bankHazard (s : State) (p : Psr) : (s.setCpsr p).bankHazard = s.bankHazard := rfl
@[simp] theorem State.setCpsr_bankHazardNext (s : State) (p : Psr) : (s.setCpsr p).bankHazardNext = s.bankHazardNext := rfl
@[simp] theorem State.setCpsr_draws (s : State) (p : Psr) : (s.setCpsr p).draws = s.draws := rfl

@[simp] theorem State.setByte_gpr (s : State) (a : Word) (b : Byte) : (s.setByte a b).gpr = s.gpr := rfl
@[simp] theorem State.setByte_pc (s : State) (a : Word) (b : Byte) : (s.setByte a b).pc = s.pc := rfl
@[simp] theorem State.setByte_cpsr (s : State) (a : Word) (b : Byte) : (s.setByte a b).cpsr = s.cpsr := rfl
@[simp] theorem State.setByte_spsrFiq (s : State) (a : Word) (b : Byte) : (s.setByte a b).spsrFiq = s.spsrFiq := rfl
@[simp] theorem State.setByte_spsrSvc (s : State) (a : Word) (b : Byte) : (s.setByte a b).spsrSvc = s.spsrSvc := rfl
@[simp] theorem State.setByte_spsrAbt (s : State) (a : Word) (b : Byte) : (s.setByte a b).spsrAbt = s.spsrAbt := rfl
@[simp] theorem State.setByte_spsrIrq (s : State) (a : Word) (b : Byte) : (s.setByte a b).spsrIrq = s.spsrIrq := rfl
@[simp] theorem State.setByte_spsrUnd (s : State) (a : Word) (b : Byte) : (s.setByte a b).spsrUnd = s.spsrUnd := rfl
@[simp] theorem State.setByte_cp15 (s : State) (a : Word) (b : Byte) : (s.setByte a b).cp15 = s.cp15 := rfl
@[simp] theorem State.setByte_cache (s : State) (a : Word) (b : Byte) : (s.setByte a b).cache = s.cache := rfl
@[simp] theorem State.setByte_tlb (s : State) (a : Word) (b : Byte) : (s.setByte a b).tlb = s.tlb := rfl
@[simp] theorem State.setByte_writeBuffer (s : State) (a : Word) (b : Byte) : (s.setByte a b).writeBuffer = s.writeBuffer := rfl
@[simp] theorem State.setByte_queue (s : State) (a : Word) (b : Byte) : (s.setByte a b).queue = s.queue := rfl
@[simp] theorem State.setByte_mem (s : State) (a : Word) (b : Byte) : (s.setByte a b).mem = cellsWrite s.mem a.toNat b := rfl
@[simp] theorem State.setByte_ice (s : State) (a : Word) (b : Byte) : (s.setByte a b).ice = s.ice := rfl
@[simp] theorem State.setByte_dcc (s : State) (a : Word) (b : Byte) : (s.setByte a b).dcc = s.dcc := rfl
@[simp] theorem State.setByte_dbg (s : State) (a : Word) (b : Byte) : (s.setByte a b).dbg = s.dbg := rfl
@[simp] theorem State.setByte_tap (s : State) (a : Word) (b : Byte) : (s.setByte a b).tap = s.tap := rfl
@[simp] theorem State.setByte_pins (s : State) (a : Word) (b : Byte) : (s.setByte a b).pins = s.pins := rfl
@[simp] theorem State.setByte_params (s : State) (a : Word) (b : Byte) : (s.setByte a b).params = s.params := rfl
@[simp] theorem State.setByte_copros (s : State) (a : Word) (b : Byte) : (s.setByte a b).copros = s.copros := rfl
@[simp] theorem State.setByte_env (s : State) (a : Word) (b : Byte) : (s.setByte a b).env = s.env := rfl
@[simp] theorem State.setByte_bus (s : State) (a : Word) (b : Byte) : (s.setByte a b).bus = s.bus := rfl
@[simp] theorem State.setByte_masters (s : State) (a : Word) (b : Byte) : (s.setByte a b).masters = s.masters := rfl
@[simp] theorem State.setByte_trace (s : State) (a : Word) (b : Byte) : (s.setByte a b).trace = s.trace := rfl
@[simp] theorem State.setByte_procIdWr (s : State) (a : Word) (b : Byte) : (s.setByte a b).procIdWr = s.procIdWr := rfl
@[simp] theorem State.setByte_bankHazard (s : State) (a : Word) (b : Byte) : (s.setByte a b).bankHazard = s.bankHazard := rfl
@[simp] theorem State.setByte_bankHazardNext (s : State) (a : Word) (b : Byte) : (s.setByte a b).bankHazardNext = s.bankHazardNext := rfl
@[simp] theorem State.setByte_draws (s : State) (a : Word) (b : Byte) : (s.setByte a b).draws = s.draws := rfl

@[simp] theorem State.onBus_gpr (s : State) (t : BusTransfer) : (s.onBus t).gpr = s.gpr := rfl
@[simp] theorem State.onBus_pc (s : State) (t : BusTransfer) : (s.onBus t).pc = s.pc := rfl
@[simp] theorem State.onBus_cpsr (s : State) (t : BusTransfer) : (s.onBus t).cpsr = s.cpsr := rfl
@[simp] theorem State.onBus_spsrFiq (s : State) (t : BusTransfer) : (s.onBus t).spsrFiq = s.spsrFiq := rfl
@[simp] theorem State.onBus_spsrSvc (s : State) (t : BusTransfer) : (s.onBus t).spsrSvc = s.spsrSvc := rfl
@[simp] theorem State.onBus_spsrAbt (s : State) (t : BusTransfer) : (s.onBus t).spsrAbt = s.spsrAbt := rfl
@[simp] theorem State.onBus_spsrIrq (s : State) (t : BusTransfer) : (s.onBus t).spsrIrq = s.spsrIrq := rfl
@[simp] theorem State.onBus_spsrUnd (s : State) (t : BusTransfer) : (s.onBus t).spsrUnd = s.spsrUnd := rfl
@[simp] theorem State.onBus_cp15 (s : State) (t : BusTransfer) : (s.onBus t).cp15 = s.cp15 := rfl
@[simp] theorem State.onBus_cache (s : State) (t : BusTransfer) : (s.onBus t).cache = s.cache := rfl
@[simp] theorem State.onBus_tlb (s : State) (t : BusTransfer) : (s.onBus t).tlb = s.tlb := rfl
@[simp] theorem State.onBus_writeBuffer (s : State) (t : BusTransfer) : (s.onBus t).writeBuffer = s.writeBuffer := rfl
@[simp] theorem State.onBus_queue (s : State) (t : BusTransfer) : (s.onBus t).queue = s.queue := rfl
@[simp] theorem State.onBus_mem (s : State) (t : BusTransfer) : (s.onBus t).mem = if t.holdsBus then s.mem else masterWrites s.mem (s.masters.headD []) := rfl
@[simp] theorem State.onBus_ice (s : State) (t : BusTransfer) : (s.onBus t).ice = s.ice := rfl
@[simp] theorem State.onBus_dcc (s : State) (t : BusTransfer) : (s.onBus t).dcc = s.dcc := rfl
@[simp] theorem State.onBus_dbg (s : State) (t : BusTransfer) : (s.onBus t).dbg = s.dbg := rfl
@[simp] theorem State.onBus_tap (s : State) (t : BusTransfer) : (s.onBus t).tap = s.tap := rfl
@[simp] theorem State.onBus_pins (s : State) (t : BusTransfer) : (s.onBus t).pins = s.pins := rfl
@[simp] theorem State.onBus_params (s : State) (t : BusTransfer) : (s.onBus t).params = s.params := rfl
@[simp] theorem State.onBus_copros (s : State) (t : BusTransfer) : (s.onBus t).copros = s.copros := rfl
@[simp] theorem State.onBus_env (s : State) (t : BusTransfer) : (s.onBus t).env = s.env := rfl
@[simp] theorem State.onBus_bus (s : State) (t : BusTransfer) : (s.onBus t).bus = s.bus ++ [t] := rfl
@[simp] theorem State.onBus_masters (s : State) (t : BusTransfer) : (s.onBus t).masters = if t.holdsBus then s.masters else s.masters.tail := rfl
@[simp] theorem State.onBus_trace (s : State) (t : BusTransfer) : (s.onBus t).trace = s.trace := rfl
@[simp] theorem State.onBus_procIdWr (s : State) (t : BusTransfer) : (s.onBus t).procIdWr = s.procIdWr := rfl
@[simp] theorem State.onBus_bankHazard (s : State) (t : BusTransfer) : (s.onBus t).bankHazard = s.bankHazard := rfl
@[simp] theorem State.onBus_bankHazardNext (s : State) (t : BusTransfer) : (s.onBus t).bankHazardNext = s.bankHazardNext := rfl
@[simp] theorem State.onBus_draws (s : State) (t : BusTransfer) : (s.onBus t).draws = s.draws := rfl

@[simp] theorem State.recordFault_gpr (s : State) (fs d : BitVec 4) (a : Word) : (s.recordFault fs d a).gpr = s.gpr := rfl
@[simp] theorem State.recordFault_pc (s : State) (fs d : BitVec 4) (a : Word) : (s.recordFault fs d a).pc = s.pc := rfl
@[simp] theorem State.recordFault_cpsr (s : State) (fs d : BitVec 4) (a : Word) : (s.recordFault fs d a).cpsr = s.cpsr := rfl
@[simp] theorem State.recordFault_spsrFiq (s : State) (fs d : BitVec 4) (a : Word) : (s.recordFault fs d a).spsrFiq = s.spsrFiq := rfl
@[simp] theorem State.recordFault_spsrSvc (s : State) (fs d : BitVec 4) (a : Word) : (s.recordFault fs d a).spsrSvc = s.spsrSvc := rfl
@[simp] theorem State.recordFault_spsrAbt (s : State) (fs d : BitVec 4) (a : Word) : (s.recordFault fs d a).spsrAbt = s.spsrAbt := rfl
@[simp] theorem State.recordFault_spsrIrq (s : State) (fs d : BitVec 4) (a : Word) : (s.recordFault fs d a).spsrIrq = s.spsrIrq := rfl
@[simp] theorem State.recordFault_spsrUnd (s : State) (fs d : BitVec 4) (a : Word) : (s.recordFault fs d a).spsrUnd = s.spsrUnd := rfl
@[simp] theorem State.recordFault_cp15 (s : State) (fs d : BitVec 4) (a : Word) : (s.recordFault fs d a).cp15 = { s.cp15 with fsr := d ++ fs, far := a } := rfl
@[simp] theorem State.recordFault_cache (s : State) (fs d : BitVec 4) (a : Word) : (s.recordFault fs d a).cache = s.cache := rfl
@[simp] theorem State.recordFault_tlb (s : State) (fs d : BitVec 4) (a : Word) : (s.recordFault fs d a).tlb = s.tlb := rfl
@[simp] theorem State.recordFault_writeBuffer (s : State) (fs d : BitVec 4) (a : Word) : (s.recordFault fs d a).writeBuffer = s.writeBuffer := rfl
@[simp] theorem State.recordFault_queue (s : State) (fs d : BitVec 4) (a : Word) : (s.recordFault fs d a).queue = s.queue := rfl
@[simp] theorem State.recordFault_mem (s : State) (fs d : BitVec 4) (a : Word) : (s.recordFault fs d a).mem = s.mem := rfl
@[simp] theorem State.recordFault_ice (s : State) (fs d : BitVec 4) (a : Word) : (s.recordFault fs d a).ice = s.ice := rfl
@[simp] theorem State.recordFault_dcc (s : State) (fs d : BitVec 4) (a : Word) : (s.recordFault fs d a).dcc = s.dcc := rfl
@[simp] theorem State.recordFault_dbg (s : State) (fs d : BitVec 4) (a : Word) : (s.recordFault fs d a).dbg = s.dbg := rfl
@[simp] theorem State.recordFault_tap (s : State) (fs d : BitVec 4) (a : Word) : (s.recordFault fs d a).tap = s.tap := rfl
@[simp] theorem State.recordFault_pins (s : State) (fs d : BitVec 4) (a : Word) : (s.recordFault fs d a).pins = s.pins := rfl
@[simp] theorem State.recordFault_params (s : State) (fs d : BitVec 4) (a : Word) : (s.recordFault fs d a).params = s.params := rfl
@[simp] theorem State.recordFault_copros (s : State) (fs d : BitVec 4) (a : Word) : (s.recordFault fs d a).copros = s.copros := rfl
@[simp] theorem State.recordFault_env (s : State) (fs d : BitVec 4) (a : Word) : (s.recordFault fs d a).env = s.env := rfl
@[simp] theorem State.recordFault_bus (s : State) (fs d : BitVec 4) (a : Word) : (s.recordFault fs d a).bus = s.bus := rfl
@[simp] theorem State.recordFault_masters (s : State) (fs d : BitVec 4) (a : Word) : (s.recordFault fs d a).masters = s.masters := rfl
@[simp] theorem State.recordFault_trace (s : State) (fs d : BitVec 4) (a : Word) : (s.recordFault fs d a).trace = s.trace := rfl
@[simp] theorem State.recordFault_procIdWr (s : State) (fs d : BitVec 4) (a : Word) : (s.recordFault fs d a).procIdWr = s.procIdWr := rfl
@[simp] theorem State.recordFault_bankHazard (s : State) (fs d : BitVec 4) (a : Word) : (s.recordFault fs d a).bankHazard = s.bankHazard := rfl
@[simp] theorem State.recordFault_bankHazardNext (s : State) (fs d : BitVec 4) (a : Word) : (s.recordFault fs d a).bankHazardNext = s.bankHazardNext := rfl
@[simp] theorem State.recordFault_draws (s : State) (fs d : BitVec 4) (a : Word) : (s.recordFault fs d a).draws = s.draws := rfl

@[simp] theorem State.markAborted_gpr (s : State) : (s.markAborted).gpr = s.gpr := rfl
@[simp] theorem State.markAborted_pc (s : State) : (s.markAborted).pc = s.pc := rfl
@[simp] theorem State.markAborted_cpsr (s : State) : (s.markAborted).cpsr = s.cpsr := rfl
@[simp] theorem State.markAborted_spsrFiq (s : State) : (s.markAborted).spsrFiq = s.spsrFiq := rfl
@[simp] theorem State.markAborted_spsrSvc (s : State) : (s.markAborted).spsrSvc = s.spsrSvc := rfl
@[simp] theorem State.markAborted_spsrAbt (s : State) : (s.markAborted).spsrAbt = s.spsrAbt := rfl
@[simp] theorem State.markAborted_spsrIrq (s : State) : (s.markAborted).spsrIrq = s.spsrIrq := rfl
@[simp] theorem State.markAborted_spsrUnd (s : State) : (s.markAborted).spsrUnd = s.spsrUnd := rfl
@[simp] theorem State.markAborted_cp15 (s : State) : (s.markAborted).cp15 = s.cp15 := rfl
@[simp] theorem State.markAborted_cache (s : State) : (s.markAborted).cache = s.cache := rfl
@[simp] theorem State.markAborted_tlb (s : State) : (s.markAborted).tlb = s.tlb := rfl
@[simp] theorem State.markAborted_writeBuffer (s : State) : (s.markAborted).writeBuffer = s.writeBuffer := rfl
@[simp] theorem State.markAborted_queue (s : State) : (s.markAborted).queue = s.queue := rfl
@[simp] theorem State.markAborted_mem (s : State) : (s.markAborted).mem = s.mem := rfl
@[simp] theorem State.markAborted_ice (s : State) : (s.markAborted).ice = s.ice := rfl
@[simp] theorem State.markAborted_dcc (s : State) : (s.markAborted).dcc = s.dcc := rfl
@[simp] theorem State.markAborted_dbg (s : State) : (s.markAborted).dbg = { s.dbg with dataAborted := true } := rfl
@[simp] theorem State.markAborted_tap (s : State) : (s.markAborted).tap = s.tap := rfl
@[simp] theorem State.markAborted_pins (s : State) : (s.markAborted).pins = s.pins := rfl
@[simp] theorem State.markAborted_params (s : State) : (s.markAborted).params = s.params := rfl
@[simp] theorem State.markAborted_copros (s : State) : (s.markAborted).copros = s.copros := rfl
@[simp] theorem State.markAborted_env (s : State) : (s.markAborted).env = s.env := rfl
@[simp] theorem State.markAborted_bus (s : State) : (s.markAborted).bus = s.bus := rfl
@[simp] theorem State.markAborted_masters (s : State) : (s.markAborted).masters = s.masters := rfl
@[simp] theorem State.markAborted_trace (s : State) : (s.markAborted).trace = s.trace := rfl
@[simp] theorem State.markAborted_procIdWr (s : State) : (s.markAborted).procIdWr = s.procIdWr := rfl
@[simp] theorem State.markAborted_bankHazard (s : State) : (s.markAborted).bankHazard = s.bankHazard := rfl
@[simp] theorem State.markAborted_bankHazardNext (s : State) : (s.markAborted).bankHazardNext = s.bankHazardNext := rfl
@[simp] theorem State.markAborted_draws (s : State) : (s.markAborted).draws = s.draws := rfl

@[simp] theorem State.setCp15_gpr (s : State) (c : Cp15) : (s.setCp15 c).gpr = s.gpr := rfl
@[simp] theorem State.setCp15_pc (s : State) (c : Cp15) : (s.setCp15 c).pc = s.pc := rfl
@[simp] theorem State.setCp15_cpsr (s : State) (c : Cp15) : (s.setCp15 c).cpsr = s.cpsr := rfl
@[simp] theorem State.setCp15_spsrFiq (s : State) (c : Cp15) : (s.setCp15 c).spsrFiq = s.spsrFiq := rfl
@[simp] theorem State.setCp15_spsrSvc (s : State) (c : Cp15) : (s.setCp15 c).spsrSvc = s.spsrSvc := rfl
@[simp] theorem State.setCp15_spsrAbt (s : State) (c : Cp15) : (s.setCp15 c).spsrAbt = s.spsrAbt := rfl
@[simp] theorem State.setCp15_spsrIrq (s : State) (c : Cp15) : (s.setCp15 c).spsrIrq = s.spsrIrq := rfl
@[simp] theorem State.setCp15_spsrUnd (s : State) (c : Cp15) : (s.setCp15 c).spsrUnd = s.spsrUnd := rfl
@[simp] theorem State.setCp15_cp15 (s : State) (c : Cp15) : (s.setCp15 c).cp15 = c := rfl
@[simp] theorem State.setCp15_cache (s : State) (c : Cp15) : (s.setCp15 c).cache = s.cache := rfl
@[simp] theorem State.setCp15_tlb (s : State) (c : Cp15) : (s.setCp15 c).tlb = s.tlb := rfl
@[simp] theorem State.setCp15_writeBuffer (s : State) (c : Cp15) : (s.setCp15 c).writeBuffer = s.writeBuffer := rfl
@[simp] theorem State.setCp15_queue (s : State) (c : Cp15) : (s.setCp15 c).queue = s.queue := rfl
@[simp] theorem State.setCp15_mem (s : State) (c : Cp15) : (s.setCp15 c).mem = s.mem := rfl
@[simp] theorem State.setCp15_ice (s : State) (c : Cp15) : (s.setCp15 c).ice = s.ice := rfl
@[simp] theorem State.setCp15_dcc (s : State) (c : Cp15) : (s.setCp15 c).dcc = s.dcc := rfl
@[simp] theorem State.setCp15_dbg (s : State) (c : Cp15) : (s.setCp15 c).dbg = s.dbg := rfl
@[simp] theorem State.setCp15_tap (s : State) (c : Cp15) : (s.setCp15 c).tap = s.tap := rfl
@[simp] theorem State.setCp15_pins (s : State) (c : Cp15) : (s.setCp15 c).pins = s.pins := rfl
@[simp] theorem State.setCp15_params (s : State) (c : Cp15) : (s.setCp15 c).params = s.params := rfl
@[simp] theorem State.setCp15_copros (s : State) (c : Cp15) : (s.setCp15 c).copros = s.copros := rfl
@[simp] theorem State.setCp15_env (s : State) (c : Cp15) : (s.setCp15 c).env = s.env := rfl
@[simp] theorem State.setCp15_bus (s : State) (c : Cp15) : (s.setCp15 c).bus = s.bus := rfl
@[simp] theorem State.setCp15_masters (s : State) (c : Cp15) : (s.setCp15 c).masters = s.masters := rfl
@[simp] theorem State.setCp15_trace (s : State) (c : Cp15) : (s.setCp15 c).trace = s.trace := rfl
@[simp] theorem State.setCp15_procIdWr (s : State) (c : Cp15) : (s.setCp15 c).procIdWr = s.procIdWr := rfl
@[simp] theorem State.setCp15_bankHazard (s : State) (c : Cp15) : (s.setCp15 c).bankHazard = s.bankHazard := rfl
@[simp] theorem State.setCp15_bankHazardNext (s : State) (c : Cp15) : (s.setCp15 c).bankHazardNext = s.bankHazardNext := rfl
@[simp] theorem State.setCp15_draws (s : State) (c : Cp15) : (s.setCp15 c).draws = s.draws := rfl

@[simp] theorem State.clearOutputs_gpr (s : State) : (s.clearOutputs).gpr = s.gpr := rfl
@[simp] theorem State.clearOutputs_pc (s : State) : (s.clearOutputs).pc = s.pc := rfl
@[simp] theorem State.clearOutputs_cpsr (s : State) : (s.clearOutputs).cpsr = s.cpsr := rfl
@[simp] theorem State.clearOutputs_spsrFiq (s : State) : (s.clearOutputs).spsrFiq = s.spsrFiq := rfl
@[simp] theorem State.clearOutputs_spsrSvc (s : State) : (s.clearOutputs).spsrSvc = s.spsrSvc := rfl
@[simp] theorem State.clearOutputs_spsrAbt (s : State) : (s.clearOutputs).spsrAbt = s.spsrAbt := rfl
@[simp] theorem State.clearOutputs_spsrIrq (s : State) : (s.clearOutputs).spsrIrq = s.spsrIrq := rfl
@[simp] theorem State.clearOutputs_spsrUnd (s : State) : (s.clearOutputs).spsrUnd = s.spsrUnd := rfl
@[simp] theorem State.clearOutputs_cp15 (s : State) : (s.clearOutputs).cp15 = s.cp15 := rfl
@[simp] theorem State.clearOutputs_cache (s : State) : (s.clearOutputs).cache = s.cache := rfl
@[simp] theorem State.clearOutputs_tlb (s : State) : (s.clearOutputs).tlb = s.tlb := rfl
@[simp] theorem State.clearOutputs_writeBuffer (s : State) : (s.clearOutputs).writeBuffer = s.writeBuffer := rfl
@[simp] theorem State.clearOutputs_queue (s : State) : (s.clearOutputs).queue = s.queue := rfl
@[simp] theorem State.clearOutputs_mem (s : State) : (s.clearOutputs).mem = s.mem := rfl
@[simp] theorem State.clearOutputs_ice (s : State) : (s.clearOutputs).ice = s.ice := rfl
@[simp] theorem State.clearOutputs_dcc (s : State) : (s.clearOutputs).dcc = s.dcc := rfl
@[simp] theorem State.clearOutputs_dbg (s : State) : (s.clearOutputs).dbg = s.dbg := rfl
@[simp] theorem State.clearOutputs_tap (s : State) : (s.clearOutputs).tap = s.tap := rfl
@[simp] theorem State.clearOutputs_pins (s : State) : (s.clearOutputs).pins = s.pins := rfl
@[simp] theorem State.clearOutputs_params (s : State) : (s.clearOutputs).params = s.params := rfl
@[simp] theorem State.clearOutputs_copros (s : State) : (s.clearOutputs).copros = s.copros := rfl
@[simp] theorem State.clearOutputs_env (s : State) : (s.clearOutputs).env = s.env := rfl
@[simp] theorem State.clearOutputs_bus (s : State) : (s.clearOutputs).bus = [] := rfl
@[simp] theorem State.clearOutputs_masters (s : State) : (s.clearOutputs).masters = [] := rfl
@[simp] theorem State.clearOutputs_trace (s : State) : (s.clearOutputs).trace = { s.trace with accesses := [], nExec := true, instrValid := false, nCpi := true, cpa := true, cpb := true, lastTransfer := s.prevTransfer } := rfl
@[simp] theorem State.clearOutputs_procIdWr (s : State) : (s.clearOutputs).procIdWr = false := rfl
@[simp] theorem State.clearOutputs_bankHazard (s : State) : (s.clearOutputs).bankHazard = s.bankHazard := rfl
@[simp] theorem State.clearOutputs_bankHazardNext (s : State) : (s.clearOutputs).bankHazardNext = s.bankHazardNext := rfl
@[simp] theorem State.clearOutputs_draws (s : State) : (s.clearOutputs).draws = s.draws := rfl

@[simp] theorem State.setTap_gpr (s : State) (t : Tap) : (s.setTap t).gpr = s.gpr := rfl
@[simp] theorem State.setTap_pc (s : State) (t : Tap) : (s.setTap t).pc = s.pc := rfl
@[simp] theorem State.setTap_cpsr (s : State) (t : Tap) : (s.setTap t).cpsr = s.cpsr := rfl
@[simp] theorem State.setTap_spsrFiq (s : State) (t : Tap) : (s.setTap t).spsrFiq = s.spsrFiq := rfl
@[simp] theorem State.setTap_spsrSvc (s : State) (t : Tap) : (s.setTap t).spsrSvc = s.spsrSvc := rfl
@[simp] theorem State.setTap_spsrAbt (s : State) (t : Tap) : (s.setTap t).spsrAbt = s.spsrAbt := rfl
@[simp] theorem State.setTap_spsrIrq (s : State) (t : Tap) : (s.setTap t).spsrIrq = s.spsrIrq := rfl
@[simp] theorem State.setTap_spsrUnd (s : State) (t : Tap) : (s.setTap t).spsrUnd = s.spsrUnd := rfl
@[simp] theorem State.setTap_cp15 (s : State) (t : Tap) : (s.setTap t).cp15 = s.cp15 := rfl
@[simp] theorem State.setTap_cache (s : State) (t : Tap) : (s.setTap t).cache = s.cache := rfl
@[simp] theorem State.setTap_tlb (s : State) (t : Tap) : (s.setTap t).tlb = s.tlb := rfl
@[simp] theorem State.setTap_writeBuffer (s : State) (t : Tap) : (s.setTap t).writeBuffer = s.writeBuffer := rfl
@[simp] theorem State.setTap_queue (s : State) (t : Tap) : (s.setTap t).queue = s.queue := rfl
@[simp] theorem State.setTap_mem (s : State) (t : Tap) : (s.setTap t).mem = s.mem := rfl
@[simp] theorem State.setTap_ice (s : State) (t : Tap) : (s.setTap t).ice = s.ice := rfl
@[simp] theorem State.setTap_dcc (s : State) (t : Tap) : (s.setTap t).dcc = s.dcc := rfl
@[simp] theorem State.setTap_dbg (s : State) (t : Tap) : (s.setTap t).dbg = s.dbg := rfl
@[simp] theorem State.setTap_tap (s : State) (t : Tap) : (s.setTap t).tap = t := rfl
@[simp] theorem State.setTap_pins (s : State) (t : Tap) : (s.setTap t).pins = s.pins := rfl
@[simp] theorem State.setTap_params (s : State) (t : Tap) : (s.setTap t).params = s.params := rfl
@[simp] theorem State.setTap_copros (s : State) (t : Tap) : (s.setTap t).copros = s.copros := rfl
@[simp] theorem State.setTap_env (s : State) (t : Tap) : (s.setTap t).env = s.env := rfl
@[simp] theorem State.setTap_bus (s : State) (t : Tap) : (s.setTap t).bus = s.bus := rfl
@[simp] theorem State.setTap_masters (s : State) (t : Tap) : (s.setTap t).masters = s.masters := rfl
@[simp] theorem State.setTap_trace (s : State) (t : Tap) : (s.setTap t).trace = s.trace := rfl
@[simp] theorem State.setTap_procIdWr (s : State) (t : Tap) : (s.setTap t).procIdWr = s.procIdWr := rfl
@[simp] theorem State.setTap_bankHazard (s : State) (t : Tap) : (s.setTap t).bankHazard = s.bankHazard := rfl
@[simp] theorem State.setTap_bankHazardNext (s : State) (t : Tap) : (s.setTap t).bankHazardNext = s.bankHazardNext := rfl
@[simp] theorem State.setTap_draws (s : State) (t : Tap) : (s.setTap t).draws = s.draws := rfl

@[simp] theorem State.setDbg_gpr (s : State) (d : Debug) : (s.setDbg d).gpr = s.gpr := rfl
@[simp] theorem State.setDbg_pc (s : State) (d : Debug) : (s.setDbg d).pc = s.pc := rfl
@[simp] theorem State.setDbg_cpsr (s : State) (d : Debug) : (s.setDbg d).cpsr = s.cpsr := rfl
@[simp] theorem State.setDbg_spsrFiq (s : State) (d : Debug) : (s.setDbg d).spsrFiq = s.spsrFiq := rfl
@[simp] theorem State.setDbg_spsrSvc (s : State) (d : Debug) : (s.setDbg d).spsrSvc = s.spsrSvc := rfl
@[simp] theorem State.setDbg_spsrAbt (s : State) (d : Debug) : (s.setDbg d).spsrAbt = s.spsrAbt := rfl
@[simp] theorem State.setDbg_spsrIrq (s : State) (d : Debug) : (s.setDbg d).spsrIrq = s.spsrIrq := rfl
@[simp] theorem State.setDbg_spsrUnd (s : State) (d : Debug) : (s.setDbg d).spsrUnd = s.spsrUnd := rfl
@[simp] theorem State.setDbg_cp15 (s : State) (d : Debug) : (s.setDbg d).cp15 = s.cp15 := rfl
@[simp] theorem State.setDbg_cache (s : State) (d : Debug) : (s.setDbg d).cache = s.cache := rfl
@[simp] theorem State.setDbg_tlb (s : State) (d : Debug) : (s.setDbg d).tlb = s.tlb := rfl
@[simp] theorem State.setDbg_writeBuffer (s : State) (d : Debug) : (s.setDbg d).writeBuffer = s.writeBuffer := rfl
@[simp] theorem State.setDbg_queue (s : State) (d : Debug) : (s.setDbg d).queue = s.queue := rfl
@[simp] theorem State.setDbg_mem (s : State) (d : Debug) : (s.setDbg d).mem = s.mem := rfl
@[simp] theorem State.setDbg_ice (s : State) (d : Debug) : (s.setDbg d).ice = s.ice := rfl
@[simp] theorem State.setDbg_dcc (s : State) (d : Debug) : (s.setDbg d).dcc = s.dcc := rfl
@[simp] theorem State.setDbg_dbg (s : State) (d : Debug) : (s.setDbg d).dbg = d := rfl
@[simp] theorem State.setDbg_tap (s : State) (d : Debug) : (s.setDbg d).tap = s.tap := rfl
@[simp] theorem State.setDbg_pins (s : State) (d : Debug) : (s.setDbg d).pins = s.pins := rfl
@[simp] theorem State.setDbg_params (s : State) (d : Debug) : (s.setDbg d).params = s.params := rfl
@[simp] theorem State.setDbg_copros (s : State) (d : Debug) : (s.setDbg d).copros = s.copros := rfl
@[simp] theorem State.setDbg_env (s : State) (d : Debug) : (s.setDbg d).env = s.env := rfl
@[simp] theorem State.setDbg_bus (s : State) (d : Debug) : (s.setDbg d).bus = s.bus := rfl
@[simp] theorem State.setDbg_masters (s : State) (d : Debug) : (s.setDbg d).masters = s.masters := rfl
@[simp] theorem State.setDbg_trace (s : State) (d : Debug) : (s.setDbg d).trace = s.trace := rfl
@[simp] theorem State.setDbg_procIdWr (s : State) (d : Debug) : (s.setDbg d).procIdWr = s.procIdWr := rfl
@[simp] theorem State.setDbg_bankHazard (s : State) (d : Debug) : (s.setDbg d).bankHazard = s.bankHazard := rfl
@[simp] theorem State.setDbg_bankHazardNext (s : State) (d : Debug) : (s.setDbg d).bankHazardNext = s.bankHazardNext := rfl
@[simp] theorem State.setDbg_draws (s : State) (d : Debug) : (s.setDbg d).draws = s.draws := rfl

@[simp] theorem State.othersFinish_gpr (s : State) : (s.othersFinish).gpr = s.gpr := rfl
@[simp] theorem State.othersFinish_pc (s : State) : (s.othersFinish).pc = s.pc := rfl
@[simp] theorem State.othersFinish_cpsr (s : State) : (s.othersFinish).cpsr = s.cpsr := rfl
@[simp] theorem State.othersFinish_spsrFiq (s : State) : (s.othersFinish).spsrFiq = s.spsrFiq := rfl
@[simp] theorem State.othersFinish_spsrSvc (s : State) : (s.othersFinish).spsrSvc = s.spsrSvc := rfl
@[simp] theorem State.othersFinish_spsrAbt (s : State) : (s.othersFinish).spsrAbt = s.spsrAbt := rfl
@[simp] theorem State.othersFinish_spsrIrq (s : State) : (s.othersFinish).spsrIrq = s.spsrIrq := rfl
@[simp] theorem State.othersFinish_spsrUnd (s : State) : (s.othersFinish).spsrUnd = s.spsrUnd := rfl
@[simp] theorem State.othersFinish_cp15 (s : State) : (s.othersFinish).cp15 = s.cp15 := rfl
@[simp] theorem State.othersFinish_cache (s : State) : (s.othersFinish).cache = s.cache := rfl
@[simp] theorem State.othersFinish_tlb (s : State) : (s.othersFinish).tlb = s.tlb := rfl
@[simp] theorem State.othersFinish_writeBuffer (s : State) : (s.othersFinish).writeBuffer = s.writeBuffer := rfl
@[simp] theorem State.othersFinish_queue (s : State) : (s.othersFinish).queue = s.queue := rfl
@[simp] theorem State.othersFinish_mem (s : State) : (s.othersFinish).mem = masterWrites s.mem s.masters.flatten := rfl
@[simp] theorem State.othersFinish_ice (s : State) : (s.othersFinish).ice = s.ice := rfl
@[simp] theorem State.othersFinish_dcc (s : State) : (s.othersFinish).dcc = s.dcc := rfl
@[simp] theorem State.othersFinish_dbg (s : State) : (s.othersFinish).dbg = s.dbg := rfl
@[simp] theorem State.othersFinish_tap (s : State) : (s.othersFinish).tap = s.tap := rfl
@[simp] theorem State.othersFinish_pins (s : State) : (s.othersFinish).pins = s.pins := rfl
@[simp] theorem State.othersFinish_params (s : State) : (s.othersFinish).params = s.params := rfl
@[simp] theorem State.othersFinish_copros (s : State) : (s.othersFinish).copros = s.copros := rfl
@[simp] theorem State.othersFinish_env (s : State) : (s.othersFinish).env = s.env := rfl
@[simp] theorem State.othersFinish_bus (s : State) : (s.othersFinish).bus = s.bus := rfl
@[simp] theorem State.othersFinish_masters (s : State) : (s.othersFinish).masters = [] := rfl
@[simp] theorem State.othersFinish_trace (s : State) : (s.othersFinish).trace = s.trace := rfl
@[simp] theorem State.othersFinish_procIdWr (s : State) : (s.othersFinish).procIdWr = s.procIdWr := rfl
@[simp] theorem State.othersFinish_bankHazard (s : State) : (s.othersFinish).bankHazard = s.bankHazard := rfl
@[simp] theorem State.othersFinish_bankHazardNext (s : State) : (s.othersFinish).bankHazardNext = s.bankHazardNext := rfl
@[simp] theorem State.othersFinish_draws (s : State) : (s.othersFinish).draws = s.draws := rfl

@[simp] theorem State.recordAccess_gpr (s : State) (o : Observed) : (s.recordAccess o).gpr = s.gpr := rfl
@[simp] theorem State.recordAccess_pc (s : State) (o : Observed) : (s.recordAccess o).pc = s.pc := rfl
@[simp] theorem State.recordAccess_cpsr (s : State) (o : Observed) : (s.recordAccess o).cpsr = s.cpsr := rfl
@[simp] theorem State.recordAccess_spsrFiq (s : State) (o : Observed) : (s.recordAccess o).spsrFiq = s.spsrFiq := rfl
@[simp] theorem State.recordAccess_spsrSvc (s : State) (o : Observed) : (s.recordAccess o).spsrSvc = s.spsrSvc := rfl
@[simp] theorem State.recordAccess_spsrAbt (s : State) (o : Observed) : (s.recordAccess o).spsrAbt = s.spsrAbt := rfl
@[simp] theorem State.recordAccess_spsrIrq (s : State) (o : Observed) : (s.recordAccess o).spsrIrq = s.spsrIrq := rfl
@[simp] theorem State.recordAccess_spsrUnd (s : State) (o : Observed) : (s.recordAccess o).spsrUnd = s.spsrUnd := rfl
@[simp] theorem State.recordAccess_cp15 (s : State) (o : Observed) : (s.recordAccess o).cp15 = s.cp15 := rfl
@[simp] theorem State.recordAccess_cache (s : State) (o : Observed) : (s.recordAccess o).cache = s.cache := rfl
@[simp] theorem State.recordAccess_tlb (s : State) (o : Observed) : (s.recordAccess o).tlb = s.tlb := rfl
@[simp] theorem State.recordAccess_writeBuffer (s : State) (o : Observed) : (s.recordAccess o).writeBuffer = s.writeBuffer := rfl
@[simp] theorem State.recordAccess_queue (s : State) (o : Observed) : (s.recordAccess o).queue = s.queue := rfl
@[simp] theorem State.recordAccess_mem (s : State) (o : Observed) : (s.recordAccess o).mem = s.mem := rfl
@[simp] theorem State.recordAccess_ice (s : State) (o : Observed) : (s.recordAccess o).ice = s.ice := rfl
@[simp] theorem State.recordAccess_dcc (s : State) (o : Observed) : (s.recordAccess o).dcc = s.dcc := rfl
@[simp] theorem State.recordAccess_dbg (s : State) (o : Observed) : (s.recordAccess o).dbg = s.dbg := rfl
@[simp] theorem State.recordAccess_tap (s : State) (o : Observed) : (s.recordAccess o).tap = s.tap := rfl
@[simp] theorem State.recordAccess_pins (s : State) (o : Observed) : (s.recordAccess o).pins = s.pins := rfl
@[simp] theorem State.recordAccess_params (s : State) (o : Observed) : (s.recordAccess o).params = s.params := rfl
@[simp] theorem State.recordAccess_copros (s : State) (o : Observed) : (s.recordAccess o).copros = s.copros := rfl
@[simp] theorem State.recordAccess_env (s : State) (o : Observed) : (s.recordAccess o).env = s.env := rfl
@[simp] theorem State.recordAccess_bus (s : State) (o : Observed) : (s.recordAccess o).bus = s.bus := rfl
@[simp] theorem State.recordAccess_masters (s : State) (o : Observed) : (s.recordAccess o).masters = s.masters := rfl
@[simp] theorem State.recordAccess_procIdWr (s : State) (o : Observed) : (s.recordAccess o).procIdWr = s.procIdWr := rfl
@[simp] theorem State.recordAccess_bankHazard (s : State) (o : Observed) : (s.recordAccess o).bankHazard = s.bankHazard := rfl
@[simp] theorem State.recordAccess_bankHazardNext (s : State) (o : Observed) : (s.recordAccess o).bankHazardNext = s.bankHazardNext := rfl
@[simp] theorem State.recordAccess_draws (s : State) (o : Observed) : (s.recordAccess o).draws = s.draws := rfl

@[simp] theorem State.recordWord_gpr (s : State) (d : Bool) (w : Word) : (s.recordWord d w).gpr = s.gpr := rfl
@[simp] theorem State.recordWord_pc (s : State) (d : Bool) (w : Word) : (s.recordWord d w).pc = s.pc := rfl
@[simp] theorem State.recordWord_cpsr (s : State) (d : Bool) (w : Word) : (s.recordWord d w).cpsr = s.cpsr := rfl
@[simp] theorem State.recordWord_spsrFiq (s : State) (d : Bool) (w : Word) : (s.recordWord d w).spsrFiq = s.spsrFiq := rfl
@[simp] theorem State.recordWord_spsrSvc (s : State) (d : Bool) (w : Word) : (s.recordWord d w).spsrSvc = s.spsrSvc := rfl
@[simp] theorem State.recordWord_spsrAbt (s : State) (d : Bool) (w : Word) : (s.recordWord d w).spsrAbt = s.spsrAbt := rfl
@[simp] theorem State.recordWord_spsrIrq (s : State) (d : Bool) (w : Word) : (s.recordWord d w).spsrIrq = s.spsrIrq := rfl
@[simp] theorem State.recordWord_spsrUnd (s : State) (d : Bool) (w : Word) : (s.recordWord d w).spsrUnd = s.spsrUnd := rfl
@[simp] theorem State.recordWord_cp15 (s : State) (d : Bool) (w : Word) : (s.recordWord d w).cp15 = s.cp15 := rfl
@[simp] theorem State.recordWord_cache (s : State) (d : Bool) (w : Word) : (s.recordWord d w).cache = s.cache := rfl
@[simp] theorem State.recordWord_tlb (s : State) (d : Bool) (w : Word) : (s.recordWord d w).tlb = s.tlb := rfl
@[simp] theorem State.recordWord_writeBuffer (s : State) (d : Bool) (w : Word) : (s.recordWord d w).writeBuffer = s.writeBuffer := rfl
@[simp] theorem State.recordWord_queue (s : State) (d : Bool) (w : Word) : (s.recordWord d w).queue = s.queue := rfl
@[simp] theorem State.recordWord_mem (s : State) (d : Bool) (w : Word) : (s.recordWord d w).mem = s.mem := rfl
@[simp] theorem State.recordWord_ice (s : State) (d : Bool) (w : Word) : (s.recordWord d w).ice = s.ice := rfl
@[simp] theorem State.recordWord_dcc (s : State) (d : Bool) (w : Word) : (s.recordWord d w).dcc = s.dcc := rfl
@[simp] theorem State.recordWord_dbg (s : State) (d : Bool) (w : Word) : (s.recordWord d w).dbg = s.dbg := rfl
@[simp] theorem State.recordWord_tap (s : State) (d : Bool) (w : Word) : (s.recordWord d w).tap = s.tap := rfl
@[simp] theorem State.recordWord_pins (s : State) (d : Bool) (w : Word) : (s.recordWord d w).pins = s.pins := rfl
@[simp] theorem State.recordWord_params (s : State) (d : Bool) (w : Word) : (s.recordWord d w).params = s.params := rfl
@[simp] theorem State.recordWord_copros (s : State) (d : Bool) (w : Word) : (s.recordWord d w).copros = s.copros := rfl
@[simp] theorem State.recordWord_env (s : State) (d : Bool) (w : Word) : (s.recordWord d w).env = s.env := rfl
@[simp] theorem State.recordWord_bus (s : State) (d : Bool) (w : Word) : (s.recordWord d w).bus = s.bus := rfl
@[simp] theorem State.recordWord_masters (s : State) (d : Bool) (w : Word) : (s.recordWord d w).masters = s.masters := rfl
@[simp] theorem State.recordWord_procIdWr (s : State) (d : Bool) (w : Word) : (s.recordWord d w).procIdWr = s.procIdWr := rfl
@[simp] theorem State.recordWord_bankHazard (s : State) (d : Bool) (w : Word) : (s.recordWord d w).bankHazard = s.bankHazard := rfl
@[simp] theorem State.recordWord_bankHazardNext (s : State) (d : Bool) (w : Word) : (s.recordWord d w).bankHazardNext = s.bankHazardNext := rfl
@[simp] theorem State.recordWord_draws (s : State) (d : Bool) (w : Word) : (s.recordWord d w).draws = s.draws := rfl

@[simp] theorem State.showAccesses_gpr (s : State) (l : List CoreAccess) : (s.showAccesses l).gpr = s.gpr := rfl
@[simp] theorem State.showAccesses_pc (s : State) (l : List CoreAccess) : (s.showAccesses l).pc = s.pc := rfl
@[simp] theorem State.showAccesses_cpsr (s : State) (l : List CoreAccess) : (s.showAccesses l).cpsr = s.cpsr := rfl
@[simp] theorem State.showAccesses_spsrFiq (s : State) (l : List CoreAccess) : (s.showAccesses l).spsrFiq = s.spsrFiq := rfl
@[simp] theorem State.showAccesses_spsrSvc (s : State) (l : List CoreAccess) : (s.showAccesses l).spsrSvc = s.spsrSvc := rfl
@[simp] theorem State.showAccesses_spsrAbt (s : State) (l : List CoreAccess) : (s.showAccesses l).spsrAbt = s.spsrAbt := rfl
@[simp] theorem State.showAccesses_spsrIrq (s : State) (l : List CoreAccess) : (s.showAccesses l).spsrIrq = s.spsrIrq := rfl
@[simp] theorem State.showAccesses_spsrUnd (s : State) (l : List CoreAccess) : (s.showAccesses l).spsrUnd = s.spsrUnd := rfl
@[simp] theorem State.showAccesses_cp15 (s : State) (l : List CoreAccess) : (s.showAccesses l).cp15 = s.cp15 := rfl
@[simp] theorem State.showAccesses_cache (s : State) (l : List CoreAccess) : (s.showAccesses l).cache = s.cache := rfl
@[simp] theorem State.showAccesses_tlb (s : State) (l : List CoreAccess) : (s.showAccesses l).tlb = s.tlb := rfl
@[simp] theorem State.showAccesses_writeBuffer (s : State) (l : List CoreAccess) : (s.showAccesses l).writeBuffer = s.writeBuffer := rfl
@[simp] theorem State.showAccesses_queue (s : State) (l : List CoreAccess) : (s.showAccesses l).queue = s.queue := rfl
@[simp] theorem State.showAccesses_mem (s : State) (l : List CoreAccess) : (s.showAccesses l).mem = s.mem := rfl
@[simp] theorem State.showAccesses_ice (s : State) (l : List CoreAccess) : (s.showAccesses l).ice = s.ice := rfl
@[simp] theorem State.showAccesses_dcc (s : State) (l : List CoreAccess) : (s.showAccesses l).dcc = s.dcc := rfl
@[simp] theorem State.showAccesses_dbg (s : State) (l : List CoreAccess) : (s.showAccesses l).dbg = s.dbg := rfl
@[simp] theorem State.showAccesses_tap (s : State) (l : List CoreAccess) : (s.showAccesses l).tap = s.tap := rfl
@[simp] theorem State.showAccesses_pins (s : State) (l : List CoreAccess) : (s.showAccesses l).pins = s.pins := rfl
@[simp] theorem State.showAccesses_params (s : State) (l : List CoreAccess) : (s.showAccesses l).params = s.params := rfl
@[simp] theorem State.showAccesses_copros (s : State) (l : List CoreAccess) : (s.showAccesses l).copros = s.copros := rfl
@[simp] theorem State.showAccesses_env (s : State) (l : List CoreAccess) : (s.showAccesses l).env = s.env := rfl
@[simp] theorem State.showAccesses_bus (s : State) (l : List CoreAccess) : (s.showAccesses l).bus = s.bus := rfl
@[simp] theorem State.showAccesses_masters (s : State) (l : List CoreAccess) : (s.showAccesses l).masters = s.masters := rfl
@[simp] theorem State.showAccesses_procIdWr (s : State) (l : List CoreAccess) : (s.showAccesses l).procIdWr = s.procIdWr := rfl
@[simp] theorem State.showAccesses_bankHazard (s : State) (l : List CoreAccess) : (s.showAccesses l).bankHazard = s.bankHazard := rfl
@[simp] theorem State.showAccesses_bankHazardNext (s : State) (l : List CoreAccess) : (s.showAccesses l).bankHazardNext = s.bankHazardNext := rfl
@[simp] theorem State.showAccesses_draws (s : State) (l : List CoreAccess) : (s.showAccesses l).draws = s.draws := rfl

@[simp] theorem State.showExecute_gpr (s : State) (x v : Bool) (c : Option (Bool × Bool)) : (s.showExecute x v c).gpr = s.gpr := rfl
@[simp] theorem State.showExecute_pc (s : State) (x v : Bool) (c : Option (Bool × Bool)) : (s.showExecute x v c).pc = s.pc := rfl
@[simp] theorem State.showExecute_cpsr (s : State) (x v : Bool) (c : Option (Bool × Bool)) : (s.showExecute x v c).cpsr = s.cpsr := rfl
@[simp] theorem State.showExecute_spsrFiq (s : State) (x v : Bool) (c : Option (Bool × Bool)) : (s.showExecute x v c).spsrFiq = s.spsrFiq := rfl
@[simp] theorem State.showExecute_spsrSvc (s : State) (x v : Bool) (c : Option (Bool × Bool)) : (s.showExecute x v c).spsrSvc = s.spsrSvc := rfl
@[simp] theorem State.showExecute_spsrAbt (s : State) (x v : Bool) (c : Option (Bool × Bool)) : (s.showExecute x v c).spsrAbt = s.spsrAbt := rfl
@[simp] theorem State.showExecute_spsrIrq (s : State) (x v : Bool) (c : Option (Bool × Bool)) : (s.showExecute x v c).spsrIrq = s.spsrIrq := rfl
@[simp] theorem State.showExecute_spsrUnd (s : State) (x v : Bool) (c : Option (Bool × Bool)) : (s.showExecute x v c).spsrUnd = s.spsrUnd := rfl
@[simp] theorem State.showExecute_cp15 (s : State) (x v : Bool) (c : Option (Bool × Bool)) : (s.showExecute x v c).cp15 = s.cp15 := rfl
@[simp] theorem State.showExecute_cache (s : State) (x v : Bool) (c : Option (Bool × Bool)) : (s.showExecute x v c).cache = s.cache := rfl
@[simp] theorem State.showExecute_tlb (s : State) (x v : Bool) (c : Option (Bool × Bool)) : (s.showExecute x v c).tlb = s.tlb := rfl
@[simp] theorem State.showExecute_writeBuffer (s : State) (x v : Bool) (c : Option (Bool × Bool)) : (s.showExecute x v c).writeBuffer = s.writeBuffer := rfl
@[simp] theorem State.showExecute_queue (s : State) (x v : Bool) (c : Option (Bool × Bool)) : (s.showExecute x v c).queue = s.queue := rfl
@[simp] theorem State.showExecute_mem (s : State) (x v : Bool) (c : Option (Bool × Bool)) : (s.showExecute x v c).mem = s.mem := rfl
@[simp] theorem State.showExecute_ice (s : State) (x v : Bool) (c : Option (Bool × Bool)) : (s.showExecute x v c).ice = s.ice := rfl
@[simp] theorem State.showExecute_dcc (s : State) (x v : Bool) (c : Option (Bool × Bool)) : (s.showExecute x v c).dcc = s.dcc := rfl
@[simp] theorem State.showExecute_dbg (s : State) (x v : Bool) (c : Option (Bool × Bool)) : (s.showExecute x v c).dbg = s.dbg := rfl
@[simp] theorem State.showExecute_tap (s : State) (x v : Bool) (c : Option (Bool × Bool)) : (s.showExecute x v c).tap = s.tap := rfl
@[simp] theorem State.showExecute_pins (s : State) (x v : Bool) (c : Option (Bool × Bool)) : (s.showExecute x v c).pins = s.pins := rfl
@[simp] theorem State.showExecute_params (s : State) (x v : Bool) (c : Option (Bool × Bool)) : (s.showExecute x v c).params = s.params := rfl
@[simp] theorem State.showExecute_copros (s : State) (x v : Bool) (c : Option (Bool × Bool)) : (s.showExecute x v c).copros = s.copros := rfl
@[simp] theorem State.showExecute_env (s : State) (x v : Bool) (c : Option (Bool × Bool)) : (s.showExecute x v c).env = s.env := rfl
@[simp] theorem State.showExecute_bus (s : State) (x v : Bool) (c : Option (Bool × Bool)) : (s.showExecute x v c).bus = s.bus := rfl
@[simp] theorem State.showExecute_masters (s : State) (x v : Bool) (c : Option (Bool × Bool)) : (s.showExecute x v c).masters = s.masters := rfl
@[simp] theorem State.showExecute_trace (s : State) (x v : Bool) (c : Option (Bool × Bool)) : (s.showExecute x v c).trace = { s.trace with nExec := !x, instrValid := v, nCpi := c.isNone, cpa := (c.getD (true, true)).1, cpb := (c.getD (true, true)).2 } := rfl
@[simp] theorem State.showExecute_procIdWr (s : State) (x v : Bool) (c : Option (Bool × Bool)) : (s.showExecute x v c).procIdWr = s.procIdWr := rfl
@[simp] theorem State.showExecute_bankHazard (s : State) (x v : Bool) (c : Option (Bool × Bool)) : (s.showExecute x v c).bankHazard = s.bankHazard := rfl
@[simp] theorem State.showExecute_bankHazardNext (s : State) (x v : Bool) (c : Option (Bool × Bool)) : (s.showExecute x v c).bankHazardNext = s.bankHazardNext := rfl
@[simp] theorem State.showExecute_draws (s : State) (x v : Bool) (c : Option (Bool × Bool)) : (s.showExecute x v c).draws = s.draws := rfl

@[simp] theorem State.setTlbEntry_gpr (s : State) (k : Nat) (e : TlbEntry) : (s.setTlbEntry k e).gpr = s.gpr := rfl
@[simp] theorem State.setTlbEntry_pc (s : State) (k : Nat) (e : TlbEntry) : (s.setTlbEntry k e).pc = s.pc := rfl
@[simp] theorem State.setTlbEntry_cpsr (s : State) (k : Nat) (e : TlbEntry) : (s.setTlbEntry k e).cpsr = s.cpsr := rfl
@[simp] theorem State.setTlbEntry_spsrFiq (s : State) (k : Nat) (e : TlbEntry) : (s.setTlbEntry k e).spsrFiq = s.spsrFiq := rfl
@[simp] theorem State.setTlbEntry_spsrSvc (s : State) (k : Nat) (e : TlbEntry) : (s.setTlbEntry k e).spsrSvc = s.spsrSvc := rfl
@[simp] theorem State.setTlbEntry_spsrAbt (s : State) (k : Nat) (e : TlbEntry) : (s.setTlbEntry k e).spsrAbt = s.spsrAbt := rfl
@[simp] theorem State.setTlbEntry_spsrIrq (s : State) (k : Nat) (e : TlbEntry) : (s.setTlbEntry k e).spsrIrq = s.spsrIrq := rfl
@[simp] theorem State.setTlbEntry_spsrUnd (s : State) (k : Nat) (e : TlbEntry) : (s.setTlbEntry k e).spsrUnd = s.spsrUnd := rfl
@[simp] theorem State.setTlbEntry_cp15 (s : State) (k : Nat) (e : TlbEntry) : (s.setTlbEntry k e).cp15 = s.cp15 := rfl
@[simp] theorem State.setTlbEntry_cache (s : State) (k : Nat) (e : TlbEntry) : (s.setTlbEntry k e).cache = s.cache := rfl
@[simp] theorem State.setTlbEntry_tlb (s : State) (k : Nat) (e : TlbEntry) : (s.setTlbEntry k e).tlb = { s.tlb with entries := s.tlb.entries.set (Fin.ofNat 64 k) e } := rfl
@[simp] theorem State.setTlbEntry_writeBuffer (s : State) (k : Nat) (e : TlbEntry) : (s.setTlbEntry k e).writeBuffer = s.writeBuffer := rfl
@[simp] theorem State.setTlbEntry_queue (s : State) (k : Nat) (e : TlbEntry) : (s.setTlbEntry k e).queue = s.queue := rfl
@[simp] theorem State.setTlbEntry_mem (s : State) (k : Nat) (e : TlbEntry) : (s.setTlbEntry k e).mem = s.mem := rfl
@[simp] theorem State.setTlbEntry_ice (s : State) (k : Nat) (e : TlbEntry) : (s.setTlbEntry k e).ice = s.ice := rfl
@[simp] theorem State.setTlbEntry_dcc (s : State) (k : Nat) (e : TlbEntry) : (s.setTlbEntry k e).dcc = s.dcc := rfl
@[simp] theorem State.setTlbEntry_dbg (s : State) (k : Nat) (e : TlbEntry) : (s.setTlbEntry k e).dbg = s.dbg := rfl
@[simp] theorem State.setTlbEntry_tap (s : State) (k : Nat) (e : TlbEntry) : (s.setTlbEntry k e).tap = s.tap := rfl
@[simp] theorem State.setTlbEntry_pins (s : State) (k : Nat) (e : TlbEntry) : (s.setTlbEntry k e).pins = s.pins := rfl
@[simp] theorem State.setTlbEntry_params (s : State) (k : Nat) (e : TlbEntry) : (s.setTlbEntry k e).params = s.params := rfl
@[simp] theorem State.setTlbEntry_copros (s : State) (k : Nat) (e : TlbEntry) : (s.setTlbEntry k e).copros = s.copros := rfl
@[simp] theorem State.setTlbEntry_env (s : State) (k : Nat) (e : TlbEntry) : (s.setTlbEntry k e).env = s.env := rfl
@[simp] theorem State.setTlbEntry_bus (s : State) (k : Nat) (e : TlbEntry) : (s.setTlbEntry k e).bus = s.bus := rfl
@[simp] theorem State.setTlbEntry_masters (s : State) (k : Nat) (e : TlbEntry) : (s.setTlbEntry k e).masters = s.masters := rfl
@[simp] theorem State.setTlbEntry_trace (s : State) (k : Nat) (e : TlbEntry) : (s.setTlbEntry k e).trace = s.trace := rfl
@[simp] theorem State.setTlbEntry_procIdWr (s : State) (k : Nat) (e : TlbEntry) : (s.setTlbEntry k e).procIdWr = s.procIdWr := rfl
@[simp] theorem State.setTlbEntry_bankHazard (s : State) (k : Nat) (e : TlbEntry) : (s.setTlbEntry k e).bankHazard = s.bankHazard := rfl
@[simp] theorem State.setTlbEntry_bankHazardNext (s : State) (k : Nat) (e : TlbEntry) : (s.setTlbEntry k e).bankHazardNext = s.bankHazardNext := rfl
@[simp] theorem State.setTlbEntry_draws (s : State) (k : Nat) (e : TlbEntry) : (s.setTlbEntry k e).draws = s.draws := rfl

@[simp] theorem State.setCacheLine_gpr (s : State) (g i : Nat) (l : CacheLine) : (s.setCacheLine g i l).gpr = s.gpr := rfl
@[simp] theorem State.setCacheLine_pc (s : State) (g i : Nat) (l : CacheLine) : (s.setCacheLine g i l).pc = s.pc := rfl
@[simp] theorem State.setCacheLine_cpsr (s : State) (g i : Nat) (l : CacheLine) : (s.setCacheLine g i l).cpsr = s.cpsr := rfl
@[simp] theorem State.setCacheLine_spsrFiq (s : State) (g i : Nat) (l : CacheLine) : (s.setCacheLine g i l).spsrFiq = s.spsrFiq := rfl
@[simp] theorem State.setCacheLine_spsrSvc (s : State) (g i : Nat) (l : CacheLine) : (s.setCacheLine g i l).spsrSvc = s.spsrSvc := rfl
@[simp] theorem State.setCacheLine_spsrAbt (s : State) (g i : Nat) (l : CacheLine) : (s.setCacheLine g i l).spsrAbt = s.spsrAbt := rfl
@[simp] theorem State.setCacheLine_spsrIrq (s : State) (g i : Nat) (l : CacheLine) : (s.setCacheLine g i l).spsrIrq = s.spsrIrq := rfl
@[simp] theorem State.setCacheLine_spsrUnd (s : State) (g i : Nat) (l : CacheLine) : (s.setCacheLine g i l).spsrUnd = s.spsrUnd := rfl
@[simp] theorem State.setCacheLine_cp15 (s : State) (g i : Nat) (l : CacheLine) : (s.setCacheLine g i l).cp15 = s.cp15 := rfl
@[simp] theorem State.setCacheLine_cache (s : State) (g i : Nat) (l : CacheLine) : (s.setCacheLine g i l).cache = { s.cache with lines := s.cache.lines.set (Fin.ofNat 256 (64 * g + i)) l } := rfl
@[simp] theorem State.setCacheLine_tlb (s : State) (g i : Nat) (l : CacheLine) : (s.setCacheLine g i l).tlb = s.tlb := rfl
@[simp] theorem State.setCacheLine_writeBuffer (s : State) (g i : Nat) (l : CacheLine) : (s.setCacheLine g i l).writeBuffer = s.writeBuffer := rfl
@[simp] theorem State.setCacheLine_queue (s : State) (g i : Nat) (l : CacheLine) : (s.setCacheLine g i l).queue = s.queue := rfl
@[simp] theorem State.setCacheLine_mem (s : State) (g i : Nat) (l : CacheLine) : (s.setCacheLine g i l).mem = s.mem := rfl
@[simp] theorem State.setCacheLine_ice (s : State) (g i : Nat) (l : CacheLine) : (s.setCacheLine g i l).ice = s.ice := rfl
@[simp] theorem State.setCacheLine_dcc (s : State) (g i : Nat) (l : CacheLine) : (s.setCacheLine g i l).dcc = s.dcc := rfl
@[simp] theorem State.setCacheLine_dbg (s : State) (g i : Nat) (l : CacheLine) : (s.setCacheLine g i l).dbg = s.dbg := rfl
@[simp] theorem State.setCacheLine_tap (s : State) (g i : Nat) (l : CacheLine) : (s.setCacheLine g i l).tap = s.tap := rfl
@[simp] theorem State.setCacheLine_pins (s : State) (g i : Nat) (l : CacheLine) : (s.setCacheLine g i l).pins = s.pins := rfl
@[simp] theorem State.setCacheLine_params (s : State) (g i : Nat) (l : CacheLine) : (s.setCacheLine g i l).params = s.params := rfl
@[simp] theorem State.setCacheLine_copros (s : State) (g i : Nat) (l : CacheLine) : (s.setCacheLine g i l).copros = s.copros := rfl
@[simp] theorem State.setCacheLine_env (s : State) (g i : Nat) (l : CacheLine) : (s.setCacheLine g i l).env = s.env := rfl
@[simp] theorem State.setCacheLine_bus (s : State) (g i : Nat) (l : CacheLine) : (s.setCacheLine g i l).bus = s.bus := rfl
@[simp] theorem State.setCacheLine_masters (s : State) (g i : Nat) (l : CacheLine) : (s.setCacheLine g i l).masters = s.masters := rfl
@[simp] theorem State.setCacheLine_trace (s : State) (g i : Nat) (l : CacheLine) : (s.setCacheLine g i l).trace = s.trace := rfl
@[simp] theorem State.setCacheLine_procIdWr (s : State) (g i : Nat) (l : CacheLine) : (s.setCacheLine g i l).procIdWr = s.procIdWr := rfl
@[simp] theorem State.setCacheLine_bankHazard (s : State) (g i : Nat) (l : CacheLine) : (s.setCacheLine g i l).bankHazard = s.bankHazard := rfl
@[simp] theorem State.setCacheLine_bankHazardNext (s : State) (g i : Nat) (l : CacheLine) : (s.setCacheLine g i l).bankHazardNext = s.bankHazardNext := rfl
@[simp] theorem State.setCacheLine_draws (s : State) (g i : Nat) (l : CacheLine) : (s.setCacheLine g i l).draws = s.draws := rfl

end Sys2Proof.Machine
end

