-- ==== Sys2Proof/Laws/Memory.lean ====
section
/-! SUPPORT. Memory: read after write, and the canonical form, which every operation keeps. -/

namespace Sys2Proof.Machine

/-! One list of cells. -/

theorem cellsRead_consCell (a k : Nat) (b : Byte) (m : List Host.Cell) (h : k = a → cellsRead m k = unlistedByte) :
    cellsRead (consCell a b m) k = if a = k then b else cellsRead m k := by
  unfold consCell
  split
  · rename_i hb
    by_cases hk : a = k
    · rw [if_pos hk, hb]; exact h hk.symm
    · rw [if_neg hk]
  · rfl

/-- Every address of a canonical list is above what is below its head. -/
theorem cellsRead_below {m : List Host.Cell} {a k : Nat} {b : Byte} (h : cellsWf ((a, b) :: m) = true) (hk : k ≤ a) :
    cellsRead m k = unlistedByte := by
  induction m generalizing a b with
  | nil => rfl
  | cons c rest ih =>
    obtain ⟨j, d⟩ := c
    simp only [cellsWf, Bool.and_eq_true, decide_eq_true_eq] at h
    obtain ⟨⟨-, hj⟩, hrest⟩ := h
    rw [cellsRead, if_neg (by omega)]
    exact ih (a := j) (b := d) (by simpa [cellsWf] using hrest) (by omega)

theorem cellsWf_tail {c : Host.Cell} {m : List Host.Cell} (h : cellsWf (c :: m) = true) : cellsWf m = true := by
  obtain ⟨a, b⟩ := c
  simp only [cellsWf, Bool.and_eq_true] at h
  exact h.2

/-- A byte read after it was written. -/
theorem cellsRead_write_same {m : List Host.Cell} (a : Nat) (b : Byte) (h : cellsWf m = true) :
    cellsRead (cellsWrite m a b) a = b := by
  induction m with
  | nil =>
    rw [cellsWrite, cellsRead_consCell _ _ _ _ (fun _ => rfl), if_pos rfl]
  | cons c rest ih =>
    obtain ⟨k, d⟩ := c
    unfold cellsWrite
    split
    · rename_i hlt
      rw [cellsRead_consCell _ _ _ _ (fun _ => ?_), if_pos rfl]
      rw [cellsRead, if_neg (by omega)]
      exact cellsRead_below h (by omega)
    · split
      · rename_i hk
        subst hk
        rw [cellsRead_consCell _ _ _ _ (fun _ => cellsRead_below h (Nat.le_refl _)), if_pos rfl]
      · rename_i hne
        rw [cellsRead, if_neg hne, ih (cellsWf_tail h)]

/-- A byte read after another was written. -/
theorem cellsRead_write_other {m : List Host.Cell} {a k : Nat} (b : Byte) (h : cellsWf m = true) (hk : k ≠ a) :
    cellsRead (cellsWrite m a b) k = cellsRead m k := by
  induction m with
  | nil =>
    rw [cellsWrite, cellsRead_consCell _ _ _ _ (fun _ => rfl), if_neg hk.symm]
  | cons c rest ih =>
    obtain ⟨j, d⟩ := c
    unfold cellsWrite
    split
    · rw [cellsRead_consCell _ _ _ _ (fun e => absurd e hk), if_neg hk.symm]
    · split
      · rename_i hj
        subst hj
        rw [cellsRead_consCell _ _ _ _ (fun e => absurd e hk), if_neg hk.symm, cellsRead, if_neg hk.symm]
      · rw [cellsRead, cellsRead, ih (cellsWf_tail h)]

/-- The head of a list, where there is one, is above an address. -/
def headAbove (a : Nat) (m : List Host.Cell) : Prop := ∀ c ∈ m.head?, a < c.1

theorem cellsWf_cons {a : Nat} {b : Byte} {m : List Host.Cell} (ha : a < 2 ^ 32) (hb : b ≠ unlistedByte)
    (hm : cellsWf m = true) (hh : headAbove a m) : cellsWf ((a, b) :: m) = true := by
  cases m with
  | nil => simp [cellsWf, hb]; omega
  | cons c rest =>
    obtain ⟨j, d⟩ := c
    have hj : a < j := hh (j, d) (by simp)
    rw [cellsWf, hm]
    simp [hb, hj]; omega

theorem headAbove_of_wf {a : Nat} {b : Byte} {m : List Host.Cell} (h : cellsWf ((a, b) :: m) = true) : headAbove a m := by
  cases m with
  | nil => intro c hc; simp at hc
  | cons c rest =>
    obtain ⟨j, d⟩ := c
    simp only [cellsWf, Bool.and_eq_true, decide_eq_true_eq] at h
    intro c hc
    simp at hc
    subst hc
    exact h.1.2

theorem consCell_wf {a : Nat} {b : Byte} {m : List Host.Cell} (ha : a < 2 ^ 32) (hm : cellsWf m = true)
    (hh : headAbove a m) : cellsWf (consCell a b m) = true := by
  unfold consCell
  split
  · exact hm
  · rename_i hb; exact cellsWf_cons ha hb hm hh

theorem headAbove_write {k a : Nat} {b : Byte} {m : List Host.Cell} (hk : k < a) (hm : headAbove k m)
    (hw : cellsWf m = true) : headAbove k (cellsWrite m a b) := by
  cases m with
  | nil =>
    intro c hc
    simp only [cellsWrite, consCell] at hc
    split at hc
    · simp at hc
    · simp at hc; subst hc; exact hk
  | cons c rest =>
    obtain ⟨j, d⟩ := c
    have hj : k < j := hm (j, d) (by simp)
    intro c hc
    unfold cellsWrite at hc
    split at hc
    · unfold consCell at hc
      split at hc
      · simp at hc; subst hc; exact hj
      · simp at hc; subst hc; exact hk
    · split at hc
      · unfold consCell at hc
        split at hc
        · have := headAbove_of_wf hw c hc; omega
        · simp at hc; subst hc; exact hk
      · simp at hc; subst hc; exact hj

/-- A write keeps the canonical form. -/
theorem cellsWrite_wf {m : List Host.Cell} {a : Nat} (b : Byte) (ha : a < 2 ^ 32) (h : cellsWf m = true) :
    cellsWf (cellsWrite m a b) = true := by
  induction m with
  | nil => exact consCell_wf ha rfl (fun c hc => by simp at hc)
  | cons c rest ih =>
    obtain ⟨k, d⟩ := c
    have hrest := cellsWf_tail h
    unfold cellsWrite
    split
    · rename_i hlt
      exact consCell_wf ha h (fun c hc => by simp at hc; subst hc; exact hlt)
    · split
      · rename_i hk
        subst hk
        exact consCell_wf ha hrest (headAbove_of_wf h)
      · rename_i h1 h2
        have hk : k < 2 ^ 32 ∧ d ≠ unlistedByte := by
          simp only [cellsWf, Bool.and_eq_true, decide_eq_true_eq, bne_iff_ne] at h
          exact h.1.1
        exact cellsWf_cons hk.1 hk.2 (ih hrest) (headAbove_write (by omega) (headAbove_of_wf h) hrest)

/-! The bytes of a state. -/

theorem byteAt_setByte_same {s : State} (a : Word) (b : Byte) (h : cellsWf s.mem = true) : (s.setByte a b).byteAt a = b :=
  cellsRead_write_same _ _ h

theorem byteAt_setByte_other {s : State} {a k : Word} (b : Byte) (h : cellsWf s.mem = true) (hk : k ≠ a) :
    (s.setByte a b).byteAt k = s.byteAt k :=
  cellsRead_write_other _ h (fun e => hk (BitVec.eq_of_toNat_eq e))

theorem setByte_wf {s : State} (a : Word) (b : Byte) (h : cellsWf s.mem = true) : cellsWf (s.setByte a b).mem = true :=
  cellsWrite_wf _ (BitVec.isLt a) h

/-- What other masters write keeps the canonical form. -/
theorem masterWrites_wf {m : List Host.Cell} (ws : List MasterWrite) (h : cellsWf m = true) :
    cellsWf (masterWrites m ws) = true := by
  induction ws generalizing m with
  | nil => exact h
  | cons w rest ih => exact ih (cellsWrite_wf _ (BitVec.isLt w.addr) h)

/-- With no other master writing, a transfer changes nothing but the bus log. -/
theorem onBus_alone {s : State} (t : BusTransfer) (h : s.masters = []) : s.onBus t = { s with bus := s.bus ++ [t] } := by
  obtain ⟨⟩ := s
  simp only at h
  subst h
  simp only [State.onBus, List.tail_nil, List.headD_nil, masterWrites, ite_self]

theorem reset_mem_wf : cellsWf State.reset.mem = true := rfl

end Sys2Proof.Machine
end

