-- ==== Sys2Proof/Laws/Access.lean ====
section
/-! SUPPORT. What the operations over memory can do: each is a MemoryStep. -/

namespace Sys2Proof.Machine

theorem MemoryStep.refl (s : State) : MemoryStep s s := ⟨rfl, id, id, id⟩

theorem MemoryStep.trans {s t u : State} (h : MemoryStep s t) (k : MemoryStep t u) : MemoryStep s u :=
  ⟨k.fixed.trans h.fixed, k.alone ∘ h.alone, k.memory ∘ h.memory, k.buffer ∘ h.buffer⟩

/-- A change of the state that leaves memory, the write buffer and the fixed part. -/
theorem MemoryStep.of_eq {s t : State} (hf : t.fixedPart = s.fixedPart) (hm : t.mem = s.mem)
    (hb : t.writeBuffer = s.writeBuffer) (hx : t.masters = s.masters) : MemoryStep s t :=
  ⟨hf, fun h => hx.trans h, fun h => hm ▸ h, fun h => hb ▸ h⟩

/-! What a MemoryStep leaves. -/

theorem MemoryStep.gpr {s t : State} (h : MemoryStep s t) : t.gpr = s.gpr := by
  have k := congrArg (fun x : State => x.gpr) h.fixed; exact k
theorem MemoryStep.pc {s t : State} (h : MemoryStep s t) : t.pc = s.pc := by
  have k := congrArg (fun x : State => x.pc) h.fixed; exact k
theorem MemoryStep.cpsr {s t : State} (h : MemoryStep s t) : t.cpsr = s.cpsr := by
  have k := congrArg (fun x : State => x.cpsr) h.fixed; exact k
theorem MemoryStep.spsrFiq {s t : State} (h : MemoryStep s t) : t.spsrFiq = s.spsrFiq := by
  have k := congrArg (fun x : State => x.spsrFiq) h.fixed; exact k
theorem MemoryStep.spsrSvc {s t : State} (h : MemoryStep s t) : t.spsrSvc = s.spsrSvc := by
  have k := congrArg (fun x : State => x.spsrSvc) h.fixed; exact k
theorem MemoryStep.spsrAbt {s t : State} (h : MemoryStep s t) : t.spsrAbt = s.spsrAbt := by
  have k := congrArg (fun x : State => x.spsrAbt) h.fixed; exact k
theorem MemoryStep.spsrIrq {s t : State} (h : MemoryStep s t) : t.spsrIrq = s.spsrIrq := by
  have k := congrArg (fun x : State => x.spsrIrq) h.fixed; exact k
theorem MemoryStep.spsrUnd {s t : State} (h : MemoryStep s t) : t.spsrUnd = s.spsrUnd := by
  have k := congrArg (fun x : State => x.spsrUnd) h.fixed; exact k
theorem MemoryStep.queue {s t : State} (h : MemoryStep s t) : t.queue = s.queue := by
  have k := congrArg (fun x : State => x.queue) h.fixed; exact k
theorem MemoryStep.pins {s t : State} (h : MemoryStep s t) : t.pins = s.pins := by
  have k := congrArg (fun x : State => x.pins) h.fixed; exact k
theorem MemoryStep.params {s t : State} (h : MemoryStep s t) : t.params = s.params := by
  have k := congrArg (fun x : State => x.params) h.fixed; exact k
theorem MemoryStep.copros {s t : State} (h : MemoryStep s t) : t.copros = s.copros := by
  have k := congrArg (fun x : State => x.copros) h.fixed; exact k
theorem MemoryStep.env {s t : State} (h : MemoryStep s t) : t.env = s.env := by
  have k := congrArg (fun x : State => x.env) h.fixed; exact k
theorem MemoryStep.tap {s t : State} (h : MemoryStep s t) : t.tap = s.tap := by
  have k := congrArg (fun x : State => x.tap) h.fixed; exact k
theorem MemoryStep.halted {s t : State} (h : MemoryStep s t) : t.dbg.halted = s.dbg.halted := by
  have k := congrArg (fun x : State => x.dbg.halted) h.fixed; exact k
theorem MemoryStep.iceCtrl {s t : State} (h : MemoryStep s t) : t.ice.ctrl = s.ice.ctrl := by
  have k := congrArg (fun x : State => x.ice.ctrl) h.fixed; exact k
theorem MemoryStep.vectors {s t : State} (h : MemoryStep s t) : t.cp15.v = s.cp15.v := by
  have k := congrArg (fun x : State => x.cp15.v) h.fixed; exact k

/-! The bus and the write buffer. -/

theorem drew_step (s : State) : MemoryStep s s.drew := .of_eq rfl rfl rfl rfl

theorem onBus_step (s : State) (t : BusTransfer) : MemoryStep s (s.onBus t) := by
  refine ⟨rfl, fun h => by simp [h], fun h => ?_, id⟩
  rw [State.onBus_mem]
  split
  · exact h
  · exact masterWrites_wf _ h

theorem setByte_step (s : State) (a : Word) (b : Byte) : MemoryStep s (s.setByte a b) :=
  ⟨rfl, id, setByte_wf a b, id⟩

theorem storeLanes_step (s : State) (a : Word) (big : Bool) (v : Word) (js : List Nat) :
    MemoryStep s (s.storeLanes a big v js) := by
  induction js generalizing s with
  | nil => exact .refl s
  | cons j rest ih => exact (setByte_step s _ _).trans (ih _)

theorem busRead_step (s : State) (a : Word) (size : Size) (shape : BusShape) (prot : BitVec 4) (lock : Bool) :
    MemoryStep s (busRead s a size shape prot lock).state := by
  unfold busRead
  cases s.regionOf (sizeAlign size a)
  · exact onBus_step s _
  · exact (onBus_step s _).trans (drew_step _)
  · exact (onBus_step s _).trans (drew_step _)

theorem busWrite_step (s : State) (e : BufferedWrite) (lock : Bool) :
    MemoryStep s (busWrite s e lock).1 := by
  unfold busWrite
  cases s.regionOf (sizeAlign e.size e.addr)
  · exact (onBus_step s _).trans (storeLanes_step _ _ _ _ _)
  · exact onBus_step s _
  · exact onBus_step s _

theorem drainOne_cons {s : State} {e : BufferedWrite} {rest : List BufferedWrite} (h : s.writeBuffer = e :: rest) :
    s.drainOne = (busWrite { s with writeBuffer := rest } e false).1 := by
  simp only [State.drainOne, h]

theorem drainOne_nil {s : State} (h : s.writeBuffer = []) : s.drainOne = s := by
  simp only [State.drainOne, h]

theorem drainOne_step (s : State) : MemoryStep s s.drainOne := by
  cases h : s.writeBuffer with
  | nil => rw [drainOne_nil h]; exact .refl s
  | cons e rest =>
    rw [drainOne_cons h]
    refine MemoryStep.trans (t := { s with writeBuffer := rest }) ⟨rfl, id, id, fun hb => ?_⟩ (busWrite_step _ e false)
    have : s.writeBuffer.length = rest.length + 1 := by rw [h]; rfl
    show rest.length ≤ 8
    omega

theorem drainSome_step (s : State) (n : Nat) : MemoryStep s (s.drainSome n) := by
  induction n generalizing s with
  | zero => exact .refl s
  | succ n ih => exact (drainOne_step s).trans (ih _)

theorem drainAll_step (s : State) : MemoryStep s s.drainAll := drainSome_step s _

/-- Performing the oldest write leaves the rest of the write buffer. -/
theorem drainOne_writeBuffer (s : State) : s.drainOne.writeBuffer = s.writeBuffer.tail := by
  have key : ∀ (js : List Nat) (t : State) (a : Word) (big : Bool) (v : Word),
      (t.storeLanes a big v js).writeBuffer = t.writeBuffer := by
    intro js
    induction js with
    | nil => intros; rfl
    | cons j rest ih => intro t a big v; exact ih _ a big v
  cases h : s.writeBuffer with
  | nil => rw [drainOne_nil h, h]; rfl
  | cons e rest =>
    rw [drainOne_cons h]
    unfold busWrite
    cases State.regionOf { s with writeBuffer := rest } (sizeAlign e.size e.addr)
    · exact key _ _ _ _ _
    · rfl
    · rfl

theorem drainSome_writeBuffer (s : State) (n : Nat) : (s.drainSome n).writeBuffer = s.writeBuffer.drop n := by
  induction n generalizing s with
  | zero => rfl
  | succ n ih =>
    show (s.drainOne.drainSome n).writeBuffer = _
    rw [ih, drainOne_writeBuffer, List.drop_tail]

theorem drainAll_writeBuffer (s : State) : s.drainAll.writeBuffer = [] := by
  rw [State.drainAll, drainSome_writeBuffer, List.drop_length]

theorem bufferWrite_step (s : State) (e : BufferedWrite) : MemoryStep s (s.bufferWrite e) := by
  unfold State.bufferWrite
  split
  · rename_i h
    refine ⟨rfl, id, id, fun _ => ?_⟩
    simp only [List.length_append, List.length_cons, List.length_nil]
    omega
  · have k := drainOne_step s
    refine ⟨k.fixed, k.alone, k.memory, fun hb => ?_⟩
    have h1 : s.drainOne.writeBuffer.length = s.writeBuffer.length - 1 := by
      rw [drainOne_writeBuffer, List.length_tail]
    simp only [List.length_append, List.length_cons, List.length_nil]
    omega

/-! The TLB and the table walk. -/

theorem pick_step (s : State) (ks : List Nat) : MemoryStep s (s.pick ks).2 := by
  match ks with
  | [] => exact .refl s
  | [_] => exact .refl s
  | _ :: _ :: _ => exact drew_step s

theorem tlbLookup_step (s : State) (a : Word) : MemoryStep s (s.tlbLookup a).2 := pick_step s _

theorem fillTlb_step (s : State) (e : TlbEntry) : MemoryStep s (s.fillTlb e) := .of_eq rfl rfl rfl rfl

theorem readDescriptor_step (s : State) (a : Word) : MemoryStep s (readDescriptor s a).2 :=
  (drainAll_step s).trans (busRead_step _ _ _ _ _ _)

theorem walk_step (s : State) (a : Word) : MemoryStep s (walk s a).2 := by
  unfold walk
  dsimp only
  split
  · exact readDescriptor_step s _
  · exact readDescriptor_step s _
  · exact (readDescriptor_step s _).trans (readDescriptor_step _ _)
  · exact (readDescriptor_step s _).trans (readDescriptor_step _ _)

theorem translate_step (s : State) (a : Word) (priv write : Bool) : MemoryStep s (translate s a priv write).2 := by
  unfold translate
  dsimp only
  split
  · split
    · exact tlbLookup_step s a
    · have h := (tlbLookup_step s a).trans (walk_step _ a)
      split
      · exact h.trans (fillTlb_step _ _)
      · exact h.trans (drew_step _)
      · exact h
      · exact h
  · exact .refl s

theorem recordFault_step (s : State) (fs d : BitVec 4) (a : Word) : MemoryStep s (s.recordFault fs d a) :=
  .of_eq rfl rfl rfl rfl

/-! The cache. -/

theorem setCacheLine_step (s : State) (g i : Nat) (l : CacheLine) : MemoryStep s (s.setCacheLine g i l) :=
  .of_eq rfl rfl rfl rfl

theorem fetchLineWords_step (s : State) (a : Word) (prot : BitVec 4) (n : Nat) :
    MemoryStep s (fetchLineWords s a prot n).2 := by
  induction n with
  | zero => exact .refl s
  | succ n ih => exact ih.trans (busRead_step _ _ _ _ _ _)

theorem fillMovesVictim_step (s : State) (g : Fin 4) : MemoryStep s (s.fillMovesVictim g) := by
  unfold State.fillMovesVictim
  split
  · exact .of_eq rfl rfl rfl rfl
  · exact .refl s

theorem lineFill_step (s : State) (mva pa : Word) (prot : BitVec 4) : MemoryStep s (lineFill s mva pa prot).2 :=
  ((drainAll_step s).trans (fetchLineWords_step _ pa prot 8)).trans
    ((fillMovesVictim_step _ _).trans ((drew_step _).trans ((drew_step _).trans (setCacheLine_step _ _ _ _))))

theorem cachedRead_step (s : State) (mva pa : Word) (prot : BitVec 4) : MemoryStep s (cachedRead s mva pa prot).2 := by
  unfold cachedRead
  dsimp only
  split
  · exact pick_step s _
  · exact (pick_step s _).trans (lineFill_step _ _ _ _)

theorem updateCache_step (s : State) (mva : Word) (size : Size) (v : Word) : MemoryStep s (s.updateCache mva size v) := by
  have key : ∀ (ks : List Nat) (t : State) (f : State → Nat → State), (∀ u k, MemoryStep u (f u k)) →
      MemoryStep t (ks.foldl f t) := by
    intro ks
    induction ks with
    | nil => intro t f _; exact .refl t
    | cons k rest ih => intro t f hf; exact (hf t k).trans (ih _ f hf)
  exact key _ _ _ (fun u k => setCacheLine_step _ _ _ _)

/-! Accesses. -/

theorem compared_step (s : State) (o : Observed) : MemoryStep s (s.compared o) := by
  unfold State.compared
  split
  · exact .of_eq rfl rfl rfl rfl
  · exact .refl s

theorem observe_step (s : State) (o : Observed) : MemoryStep s (s.observe o) :=
  (compared_step s o).trans (.of_eq rfl rfl rfl rfl)

theorem abortedWatch_step (s : State) (hit external : Bool) : MemoryStep s (s.abortedWatch hit external) := by
  unfold State.abortedWatch
  split
  · split
    · exact .of_eq rfl rfl rfl rfl
    · exact .of_eq rfl rfl rfl rfl
  · exact .refl s

theorem takeDataIn_step (s : State) : MemoryStep s s.takeDataIn.2 := by
  unfold State.takeDataIn
  split
  · exact .of_eq rfl rfl rfl rfl
  · exact drew_step s

theorem putDataOut_step (s : State) (w : Word) : MemoryStep s (s.putDataOut w) := .of_eq rfl rfl rfl rfl

theorem externalOrCached_step (s : State) (mva : Word) (m : Mapping) (size : Size) (priv isData lock : Bool) :
    MemoryStep s (externalOrCached s mva m size priv isData lock).state := by
  unfold externalOrCached
  dsimp only
  split
  · exact cachedRead_step _ _ _ _
  · exact (drainAll_step s).trans (busRead_step _ _ _ _ _ _)

theorem performWrite_step (s : State) (mva : Word) (m : Mapping) (size : Size) (v : Word) (priv lock : Bool) :
    MemoryStep s (performWrite s mva m size v priv lock).1 := by
  unfold performWrite
  dsimp only
  split
  · exact (updateCache_step s _ _ _).trans (bufferWrite_step _ _)
  · exact ((updateCache_step s _ _ _).trans (drainAll_step _)).trans (busWrite_step _ _ _)

/-- Every state an access ends in is a MemoryStep from where it began. -/
def Access.From (s : State) : Access → Prop
  | .done _ t => MemoryStep s t
  | .abort t => MemoryStep s t
  | .refused _ => True

theorem Access.From.after {s t : State} {a : Access} (h : MemoryStep s t) (k : Access.From t a) : Access.From s a := by
  cases a
  · exact h.trans k
  · exact h.trans k
  · trivial

theorem abortSeen_from (s : State) (a : Word) (size : Size) (written : Option Word) (priv external : Bool) :
    Access.From s (abortSeen s a size written priv external) :=
  (abortedWatch_step s _ _).trans ((observe_step _ _).trans ((drew_step _).trans (.of_eq rfl rfl rfl rfl)))

theorem watchOutcome_from (hit : Bool) (v : Word) (s : State) : Access.From s (watchOutcome hit v s) := by
  unfold watchOutcome
  split
  · split
    · exact .of_eq rfl rfl rfl rfl
    · exact .of_eq rfl rfl rfl rfl
  · exact .refl s

theorem alignmentFault_step (s : State) (a : Word) : MemoryStep s (s.alignmentFault a) := .of_eq rfl rfl rfl rfl

theorem externalAbort_step (s : State) (m : Mapping) (a : Word) : MemoryStep s (s.externalAbort m a) := .of_eq rfl rfl rfl rfl

/-- What a data read can do. -/
theorem dataRead_from (s : State) (va : Word) (size : Size) (priv lock : Bool) :
    Access.From s (dataRead s va size priv lock) := by
  unfold dataRead
  dsimp only
  split
  · exact (takeDataIn_step s).trans (observe_step _ _)
  · split
    · exact .after (alignmentFault_step _ _) (abortSeen_from _ _ _ _ _ _)
    · split
      · trivial
      · have ht := translate_step s (s.relocate va) priv false
        split
        · trivial
        · exact .after (ht.trans (recordFault_step _ _ _ _)) (abortSeen_from _ _ _ _ _ _)
        · have hr := ht.trans (externalOrCached_step (translate s (s.relocate va) priv false).2 (s.relocate va) ‹Mapping› size
            priv true lock)
          split
          · exact .after (hr.trans (externalAbort_step _ _ _)) (abortSeen_from _ _ _ _ _ _)
          · exact .after (hr.trans (observe_step _ _)) (watchOutcome_from _ _ _)

/-- What a data write can do. -/
theorem dataWrite_from (s : State) (va : Word) (size : Size) (v : Word) (priv lock : Bool) :
    Access.From s (dataWrite s va size v priv lock) := by
  unfold dataWrite
  dsimp only
  split
  · exact (putDataOut_step s _).trans (observe_step _ _)
  · split
    · exact .after (alignmentFault_step _ _) (abortSeen_from _ _ _ _ _ _)
    · split
      · trivial
      · have ht := translate_step s (s.relocate va) priv true
        split
        · trivial
        · exact .after (ht.trans (recordFault_step _ _ _ _)) (abortSeen_from _ _ _ _ _ _)
        · split
          · exact .after (ht.trans (observe_step _ _)) (watchOutcome_from _ _ _)
          · have hw := ht.trans (performWrite_step (translate s (s.relocate va) priv true).2 (s.relocate va) ‹Mapping› size
              (s.dataToSystem (replicateLanes size v)) priv lock)
            split
            · exact .after (hw.trans (externalAbort_step _ _ _)) (abortSeen_from _ _ _ _ _ _)
            · exact .after (hw.trans (observe_step _ _)) (watchOutcome_from _ _ _)

theorem dataRead_done {s t : State} {va v : Word} {size : Size} {priv lock : Bool}
    (h : dataRead s va size priv lock = .done v t) : MemoryStep s t := by
  have := dataRead_from s va size priv lock
  rwa [h] at this

theorem dataRead_abort {s t : State} {va : Word} {size : Size} {priv lock : Bool}
    (h : dataRead s va size priv lock = .abort t) : MemoryStep s t := by
  have := dataRead_from s va size priv lock
  rwa [h] at this

theorem dataWrite_done {s t : State} {va v w : Word} {size : Size} {priv lock : Bool}
    (h : dataWrite s va size v priv lock = .done w t) : MemoryStep s t := by
  have := dataWrite_from s va size v priv lock
  rwa [h] at this

theorem dataWrite_abort {s t : State} {va v : Word} {size : Size} {priv lock : Bool}
    (h : dataWrite s va size v priv lock = .abort t) : MemoryStep s t := by
  have := dataWrite_from s va size v priv lock
  rwa [h] at this

/-! The instruction fetch. -/

theorem makeSlot_step (s : State) (a w cell : Word) (mark : FetchMark) : MemoryStep s (makeSlot s a w cell mark).2 :=
  observe_step s _

theorem fetchSlot_step (s : State) (a : Word) : MemoryStep s (fetchSlot s a).2 := by
  unfold fetchSlot
  dsimp only
  have ht := translate_step s (s.relocate (wordAlign a)) s.privileged false
  split
  · exact ht.trans ((drew_step _).trans (makeSlot_step _ _ _ _ _))
  · exact ht.trans ((drew_step _).trans (makeSlot_step _ _ _ _ _))
  · exact ht.trans ((externalOrCached_step _ _ _ _ _ _ _).trans (makeSlot_step _ _ _ _ _))

theorem nextSlot_step (s : State) (a : Word) : MemoryStep s (nextSlot s a).2 := by
  unfold nextSlot
  split
  · split
    · exact makeSlot_step _ _ _ _ _
    · exact fetchSlot_step _ _
  · exact fetchSlot_step _ _

end Sys2Proof.Machine
end

