-- ==== Sys2Proof/Laws/Bits.lean ====
section
/-! SUPPORT. Fields of concatenations: how a field of an encoded word is read back. -/

namespace Sys2Proof

theorem append_field_low {n m : Nat} (x : BitVec n) (y : BitVec m) (k l : Nat) (h : k + l ≤ m) :
    (x ++ y).extractLsb' k l = y.extractLsb' k l := by
  ext j hj
  simp [BitVec.getLsbD_append]
  omega

theorem append_field_high {n m : Nat} (x : BitVec n) (y : BitVec m) (k l : Nat) (h : m ≤ k) :
    (x ++ y).extractLsb' k l = x.extractLsb' (k - m) l := by
  ext j hj
  simp [BitVec.getLsbD_append, show ¬ (k + j < m) by omega, show k + j - m = k - m + j by omega]

theorem append_bit_low {n m : Nat} (x : BitVec n) (y : BitVec m) (k : Nat) (h : k < m) :
    (x ++ y).getLsbD k = y.getLsbD k := by
  simp [BitVec.getLsbD_append, h]

theorem append_bit_high {n m : Nat} (x : BitVec n) (y : BitVec m) (k : Nat) (h : m ≤ k) :
    (x ++ y).getLsbD k = x.getLsbD (k - m) := by
  simp [BitVec.getLsbD_append, show ¬ (k < m) by omega]

@[simp] theorem field_all {n : Nat} (x : BitVec n) : x.extractLsb' 0 n = x := by simp

@[simp] theorem ofBool_bit (b : Bool) : (BitVec.ofBool b).getLsbD 0 = b := by cases b <;> rfl

@[simp] theorem Cond.ofBits_toBits (c : Cond) : Cond.ofBits c.toBits = c := by cases c <;> rfl

@[simp] theorem ShiftType.ofBits_toBits (t : ShiftType) : ShiftType.ofBits t.toBits = t := by cases t <;> rfl

/-- A field is its high part followed by its low part. -/
theorem field_split {n : Nat} (x : BitVec n) (k a b : Nat) :
    x.extractLsb' k (a + b) = x.extractLsb' (k + b) a ++ x.extractLsb' k b := by
  ext j hj
  simp only [BitVec.getElem_extractLsb', BitVec.getElem_append]
  split_ifs with h
  · rfl
  · rw [show k + b + (j - b) = k + j by omega]

/-- A field of a field. -/
theorem field_field {n : Nat} (x : BitVec n) (k l a b : Nat) (h : a + b ≤ l) :
    (x.extractLsb' k l).extractLsb' a b = x.extractLsb' (k + a) b := by
  ext j hj
  simp [Nat.add_assoc]
  omega

theorem bit_cases : ∀ b : BitVec 1, b = 0#1 ∨ b = 1#1 := by decide

theorem pair_cases : ∀ b : BitVec 2, b = 0#2 ∨ b = 1#2 ∨ b = 2#2 ∨ b = 3#2 := by decide

/-- Bits [27:16] of a coprocessor register transfer. -/
theorem transfer_high (cond : Cond) (op1 : BitVec 3) (b : BitVec 1) (crn rd cp : BitVec 4) (op2 : BitVec 3) (crm : BitVec 4) :
    (cond.toBits ++ 0b1110#4 ++ op1 ++ b ++ crn ++ rd ++ cp ++ op2 ++ 1#1 ++ crm).extractLsb' 16 12 =
      0b1110#4 ++ op1 ++ b ++ crn := by
  simp (disch := omega) only [append_field_high, Nat.reduceSub]
  refine BitVec.eq_of_getLsbD_eq fun j hj => ?_
  rw [BitVec.getLsbD_extractLsb', decide_eq_true hj, Bool.true_and, Nat.zero_add]
  simp only [BitVec.getLsbD_append]
  split_ifs <;> first | rfl | omega

/-- Bits [11:0] of a coprocessor register transfer. -/
theorem transfer_low (cond : Cond) (op1 : BitVec 3) (b : BitVec 1) (crn rd cp : BitVec 4) (op2 : BitVec 3) (crm : BitVec 4) :
    (cond.toBits ++ 0b1110#4 ++ op1 ++ b ++ crn ++ rd ++ cp ++ op2 ++ 1#1 ++ crm).extractLsb' 0 12 =
      cp ++ op2 ++ 1#1 ++ crm := by
  refine BitVec.eq_of_getLsbD_eq fun j hj => ?_
  rw [BitVec.getLsbD_extractLsb', decide_eq_true hj, Bool.true_and, Nat.zero_add]
  simp only [BitVec.getLsbD_append]
  split_ifs <;> first | rfl | omega

/-- A register transfer with a row of its own that names a CP15 operation decodes to it. -/
theorem decodeTransfer_cp15 {x : BitVec 32} {hi lo : BitVec 12} {i : Instr} (hh : x.extractLsb' 16 12 = hi)
    (hl : x.extractLsb' 0 12 = lo) (ha : isTransferAlias hi lo = true) (hc : x.extractLsb' 8 4 = 15#4)
    (hi' : decodeCp15 x = some i) : decodeTransfer x = i := by
  subst hh hl
  rw [decodeTransfer, if_pos ha, if_pos hc, hi']
  rfl

/-- A register transfer with a row of its own that names a CP14 operation decodes to it. -/
theorem decodeTransfer_cp14 {x : BitVec 32} {i : Instr} (hc : x.extractLsb' 8 4 = 14#4) (hb : x.extractLsb' 4 1 = 1#1)
    (hd : decodeCp14 x = some i) : decodeTransfer x = i := by
  have ha : isTransferAlias (x.extractLsb' 16 12) (x.extractLsb' 0 12) = true := by
    have h8 : (x.extractLsb' 0 12).extractLsb' 8 4 = 14#4 := by
      rw [field_field _ _ _ _ _ (by omega)]; exact hc
    have h4 : (x.extractLsb' 0 12).getLsbD 4 = true := by
      have := congrArg (fun b => b.getLsbD 0) hb
      simpa using this
    have h5 : (x.extractLsb' 16 12).extractLsb' 0 5 = x.extractLsb' 16 5 := field_field _ _ _ _ _ (by omega)
    simp only [isTransferAlias, isCp14Alias, h8, h4, h5, Bool.or_eq_true]
    right
    revert hd
    unfold decodeCp14
    split <;> simp_all
  rw [decodeTransfer, if_pos ha, if_neg (by rw [hc]; decide), hd]
  rfl

/-- A register transfer with no row of its own decodes to the generic form. -/
theorem decodeTransfer_generic {x : BitVec 32} {hi lo : BitVec 12} (hh : x.extractLsb' 16 12 = hi)
    (hl : x.extractLsb' 0 12 = lo) (ha : (!isTransferAlias hi lo) = true) : decodeTransfer x = decodeGenericTransfer x := by
  subst hh hl
  rw [decodeTransfer, if_neg (by simpa using ha)]

end Sys2Proof
end

