-- ==== Sys2Proof/Laws/Settled.lean ====
section
/-! SUPPORT. Memory with every buffered write performed: no read, table walk or fetch changes it. -/

namespace Sys2Proof.Machine

/-- Two states agree on all that decides what memory will hold. -/
structure SameStore (s t : State) : Prop where
  mem : t.mem = s.mem
  writeBuffer : t.writeBuffer = s.writeBuffer
  params : t.params = s.params
  masters : t.masters = s.masters

theorem storeLanes_store {s t : State} (h : SameStore s t) (a : Word) (big : Bool) (v : Word) (js : List Nat) :
    SameStore (s.storeLanes a big v js) (t.storeLanes a big v js) := by
  induction js generalizing s t with
  | nil => exact h
  | cons j rest ih =>
    refine ih ⟨?_, h.writeBuffer, h.params, h.masters⟩
    rw [State.setByte_mem, State.setByte_mem, h.mem]

theorem regionOf_params {s t : State} (h : t.params = s.params) (a : Word) : t.regionOf a = s.regionOf a := by
  unfold State.regionOf
  rw [h]

theorem onBus_store {s t : State} (h : SameStore s t) (x : BusTransfer) : SameStore (s.onBus x) (t.onBus x) := by
  refine ⟨?_, h.writeBuffer, h.params, ?_⟩
  · rw [State.onBus_mem, State.onBus_mem, h.mem, h.masters]
  · rw [State.onBus_masters, State.onBus_masters, h.masters]

theorem busWrite_store {s t : State} (h : SameStore s t) (e : BufferedWrite) (l : Bool) :
    SameStore (busWrite s e l).1 (busWrite t e l).1 := by
  unfold busWrite
  dsimp only
  rw [regionOf_params h.params]
  cases s.regionOf (sizeAlign e.size e.addr)
  · exact storeLanes_store (onBus_store h _) _ _ _ _
  · exact onBus_store h _
  · exact onBus_store h _

theorem drainOne_store {s t : State} (h : SameStore s t) : SameStore s.drainOne t.drainOne := by
  cases hs : s.writeBuffer with
  | nil => rw [drainOne_nil hs, drainOne_nil (h.writeBuffer.trans hs)]; exact h
  | cons e rest =>
    rw [drainOne_cons hs, drainOne_cons (h.writeBuffer.trans hs)]
    exact busWrite_store (s := { s with writeBuffer := rest }) (t := { t with writeBuffer := rest })
      ⟨h.mem, rfl, h.params, h.masters⟩ _ _

theorem drainSome_store {s t : State} (h : SameStore s t) (n : Nat) : SameStore (s.drainSome n) (t.drainSome n) := by
  induction n generalizing s t with
  | zero => exact h
  | succ n ih => exact ih (drainOne_store h)

theorem drainAll_store {s t : State} (h : SameStore s t) : SameStore s.drainAll t.drainAll := by
  unfold State.drainAll
  rw [h.writeBuffer]
  exact drainSome_store h _

/-- Draining twice is draining once. -/
theorem drainAll_drainAll (s : State) : s.drainAll.drainAll = s.drainAll := by
  show s.drainAll.drainSome s.drainAll.writeBuffer.length = _
  rw [drainAll_writeBuffer]
  rfl

theorem SameStore.refl (s : State) : SameStore s s := ⟨rfl, rfl, rfl, rfl⟩

theorem SameStore.trans {s t u : State} (h : SameStore s t) (k : SameStore t u) : SameStore s u :=
  ⟨k.mem.trans h.mem, k.writeBuffer.trans h.writeBuffer, k.params.trans h.params, k.masters.trans h.masters⟩

/-- While no other master writes, what memory holds in the end is the same. -/
structure Settled (s t : State) : Prop where
  alone : s.masters = [] → t.masters = []
  store : s.masters = [] → SameStore s.drainAll t.drainAll

theorem Settled.refl (s : State) : Settled s s := ⟨id, fun _ => .refl _⟩

theorem Settled.trans {s t u : State} (h : Settled s t) (k : Settled t u) : Settled s u :=
  ⟨k.alone ∘ h.alone, fun a => (h.store a).trans (k.store (h.alone a))⟩

theorem Settled.of_store {s t : State} (h : SameStore s t) : Settled s t :=
  ⟨fun a => h.masters.trans a, fun _ => drainAll_store h⟩

theorem Settled.of_eq {s t : State} (hm : t.mem = s.mem) (hb : t.writeBuffer = s.writeBuffer) (hp : t.params = s.params)
    (hx : t.masters = s.masters) : Settled s t := .of_store ⟨hm, hb, hp, hx⟩

theorem Settled.byte {s t : State} (h : Settled s t) (alone : s.masters = []) (a : Word) :
    t.settledByte a = s.settledByte a := by
  unfold State.settledByte State.byteAt
  rw [(h.store alone).mem]

theorem drainAll_settled (s : State) : Settled s s.drainAll := by
  refine ⟨(drainAll_step s).alone, fun _ => ?_⟩
  rw [drainAll_drainAll]
  exact .refl _

theorem drainOne_settled (s : State) : Settled s s.drainOne := by
  refine ⟨(drainOne_step s).alone, fun _ => ?_⟩
  cases h : s.writeBuffer with
  | nil => rw [drainOne_nil h]; exact .refl _
  | cons e rest =>
    have hl : s.drainAll = s.drainOne.drainAll := by
      unfold State.drainAll
      rw [drainOne_writeBuffer, h]
      rfl
    rw [hl]
    exact .refl _

theorem onBus_settled (s : State) (t : BusTransfer) : Settled s (s.onBus t) := by
  refine ⟨(onBus_step s t).alone, fun h => ?_⟩
  rw [onBus_alone t h]
  exact drainAll_store ⟨rfl, rfl, rfl, rfl⟩

theorem busRead_settled (s : State) (a : Word) (size : Size) (shape : BusShape) (prot : BitVec 4) (lock : Bool) :
    Settled s (busRead s a size shape prot lock).state := by
  unfold busRead
  cases s.regionOf (sizeAlign size a)
  · exact onBus_settled s _
  · exact (onBus_settled s _).trans (.of_eq rfl rfl rfl rfl)
  · exact (onBus_settled s _).trans (.of_eq rfl rfl rfl rfl)

theorem pick_settled (s : State) (ks : List Nat) : Settled s (s.pick ks).2 := by
  match ks with
  | [] => exact .refl s
  | [_] => exact .refl s
  | _ :: _ :: _ => exact .of_eq rfl rfl rfl rfl

theorem tlbLookup_settled (s : State) (a : Word) : Settled s (s.tlbLookup a).2 := pick_settled s _

theorem drew_settled (s : State) : Settled s s.drew := .of_eq rfl rfl rfl rfl

theorem fillTlb_settled (s : State) (e : TlbEntry) : Settled s (s.fillTlb e) := .of_eq rfl rfl rfl rfl

theorem recordFault_settled (s : State) (fs d : BitVec 4) (a : Word) : Settled s (s.recordFault fs d a) :=
  .of_eq rfl rfl rfl rfl

theorem alignmentFault_settled (s : State) (a : Word) : Settled s (s.alignmentFault a) := .of_eq rfl rfl rfl rfl

theorem externalAbort_settled (s : State) (m : Mapping) (a : Word) : Settled s (s.externalAbort m a) := .of_eq rfl rfl rfl rfl

theorem setCacheLine_settled (s : State) (g i : Nat) (l : CacheLine) : Settled s (s.setCacheLine g i l) :=
  .of_eq rfl rfl rfl rfl

theorem takeDataIn_settled (s : State) : Settled s s.takeDataIn.2 := by
  unfold State.takeDataIn
  split
  · exact .of_eq rfl rfl rfl rfl
  · exact drew_settled s

theorem readDescriptor_settled (s : State) (a : Word) : Settled s (readDescriptor s a).2 :=
  (drainAll_settled s).trans (busRead_settled _ _ _ _ _ _)

theorem walk_settled (s : State) (a : Word) : Settled s (walk s a).2 := by
  unfold walk
  dsimp only
  split
  · exact readDescriptor_settled s _
  · exact readDescriptor_settled s _
  · exact (readDescriptor_settled s _).trans (readDescriptor_settled _ _)
  · exact (readDescriptor_settled s _).trans (readDescriptor_settled _ _)

theorem translate_settled (s : State) (a : Word) (priv write : Bool) : Settled s (translate s a priv write).2 := by
  unfold translate
  dsimp only
  split
  · split
    · exact tlbLookup_settled s a
    · have h := (tlbLookup_settled s a).trans (walk_settled _ a)
      split
      · exact h.trans (fillTlb_settled _ _)
      · exact h.trans (drew_settled _)
      · exact h
      · exact h
  · exact .refl s

theorem fillMovesVictim_settled (s : State) (g : Fin 4) : Settled s (s.fillMovesVictim g) := by
  unfold State.fillMovesVictim
  split
  · exact .of_eq rfl rfl rfl rfl
  · exact .refl s

theorem fetchLineWords_settled (s : State) (a : Word) (prot : BitVec 4) (n : Nat) :
    Settled s (fetchLineWords s a prot n).2 := by
  induction n with
  | zero => exact .refl s
  | succ n ih => exact ih.trans (busRead_settled _ _ _ _ _ _)

theorem cachedRead_settled (s : State) (mva pa : Word) (prot : BitVec 4) : Settled s (cachedRead s mva pa prot).2 := by
  unfold cachedRead
  dsimp only
  split
  · exact pick_settled s _
  · exact (pick_settled s _).trans
      (((drainAll_settled _).trans (fetchLineWords_settled _ pa prot 8)).trans
        ((fillMovesVictim_settled _ _).trans
          ((drew_settled _).trans ((drew_settled _).trans (setCacheLine_settled _ _ _ _)))))

theorem externalOrCached_settled (s : State) (mva : Word) (m : Mapping) (size : Size) (priv isData lock : Bool) :
    Settled s (externalOrCached s mva m size priv isData lock).state := by
  unfold externalOrCached
  dsimp only
  split
  · exact cachedRead_settled _ _ _ _
  · exact (drainAll_settled s).trans (busRead_settled _ _ _ _ _ _)

theorem compared_settled (s : State) (o : Observed) : Settled s (s.compared o) := by
  unfold State.compared
  split
  · exact .of_eq rfl rfl rfl rfl
  · exact .refl s

theorem observe_settled (s : State) (o : Observed) : Settled s (s.observe o) :=
  (compared_settled s o).trans (.of_eq rfl rfl rfl rfl)

theorem abortedWatch_settled (s : State) (hit external : Bool) : Settled s (s.abortedWatch hit external) := by
  unfold State.abortedWatch
  split
  · split
    · exact .of_eq rfl rfl rfl rfl
    · exact .of_eq rfl rfl rfl rfl
  · exact .refl s

/-- The access leaves memory as it will settle. -/
def Access.Keeps (s : State) : Access → Prop
  | .done _ t => Settled s t
  | .abort t => Settled s t
  | .refused _ => True

theorem Access.Keeps.after {s t : State} {a : Access} (h : Settled s t) (k : Access.Keeps t a) : Access.Keeps s a := by
  cases a
  · exact h.trans k
  · exact h.trans k
  · trivial

theorem abortSeen_keeps (s : State) (a : Word) (size : Size) (written : Option Word) (priv external : Bool) :
    Access.Keeps s (abortSeen s a size written priv external) :=
  (abortedWatch_settled s _ _).trans ((observe_settled _ _).trans ((drew_settled _).trans (.of_eq rfl rfl rfl rfl)))

theorem watchOutcome_keeps (hit : Bool) (v : Word) (s : State) : Access.Keeps s (watchOutcome hit v s) := by
  unfold watchOutcome
  split
  · split
    · exact .of_eq rfl rfl rfl rfl
    · exact .of_eq rfl rfl rfl rfl
  · exact .refl s

/-- A data read changes no byte of memory. -/
theorem dataRead_keeps (s : State) (va : Word) (size : Size) (priv lock : Bool) :
    Access.Keeps s (dataRead s va size priv lock) := by
  unfold dataRead
  dsimp only
  split
  · exact (takeDataIn_settled s).trans (observe_settled _ _)
  · split
    · exact .after (alignmentFault_settled _ _) (abortSeen_keeps _ _ _ _ _ _)
    · split
      · trivial
      · have ht := translate_settled s (s.relocate va) priv false
        split
        · trivial
        · exact .after (ht.trans (recordFault_settled _ _ _ _)) (abortSeen_keeps _ _ _ _ _ _)
        · have hr := ht.trans (externalOrCached_settled (translate s (s.relocate va) priv false).2 (s.relocate va)
            ‹Mapping› size priv true lock)
          split
          · exact .after (hr.trans (externalAbort_settled _ _ _)) (abortSeen_keeps _ _ _ _ _ _)
          · exact .after (hr.trans (observe_settled _ _)) (watchOutcome_keeps _ _ _)

end Sys2Proof.Machine
end

