-- ==== Sys2Proof/Laws/Ops.lean ====
section
/-! SUPPORT. What each shared operation can do: a property holds of every next state of it if it holds of the states named here.
`Ends P r`: if the result `r` is a next state, `P` holds of it. -/

namespace Sys2Proof.Machine

/-- `P` holds of the next state, if the result is one. -/
def Ends (P : State → Prop) (r : Result) : Prop := ∀ t : State, r = .next t → P t

theorem ends_next {P : State → Prop} {s : State} (h : P s) : Ends P (.next s) := by
  intro t e; cases e; exact h

theorem ends_refused {P : State → Prop} {x : Refusal} : Ends P (.refused x) := by intro t e; cases e

theorem ends_fault {P : State → Prop} {x : Fault} : Ends P (.fault x) := by intro t e; cases e

theorem Ends.imp {P Q : State → Prop} {r : Result} (h : Ends P r) (k : ∀ t, P t → Q t) : Ends Q r :=
  fun t e => k t (h t e)

theorem ends_ite {P : State → Prop} {b : Prop} [Decidable b] {r q : Result} (h : b → Ends P r) (k : ¬ b → Ends P q) :
    Ends P (if b then r else q) := by
  split
  · exact h ‹_›
  · exact k ‹_›

/-! Conditions and guards. -/

/-- A failed condition advances, a passed one runs the body. -/
theorem conditionally_pass {c : Cond} {s : State} {body : Result} (h : condPassed c s.cpsr = true) :
    conditionally c s body = body := if_pos h

theorem conditionally_fail {c : Cond} {s : State} {body : Result} (h : condPassed c s.cpsr = false) :
    conditionally c s body = .next s.advance := if_neg (by rw [h]; exact Bool.false_ne_true)

theorem ends_conditionally {P : State → Prop} {c : Cond} {s : State} {body : Result} (ha : P s.advance) (hb : Ends P body) :
    Ends P (conditionally c s body) := ends_ite (fun _ => hb) (fun _ => ends_next ha)

theorem guardPc_pass {b : Bool} {r : Result} (h : b = false) : guardPc b r = r := by rw [h]; rfl

theorem guardClash_pass {b : Bool} {r : Result} (h : b = false) : guardClash b r = r := by rw [h]; rfl

theorem ends_guardPc {P : State → Prop} {b : Bool} {r : Result} (h : Ends P r) : Ends P (guardPc b r) :=
  ends_ite (fun _ => ends_refused) (fun _ => h)

theorem ends_guardClash {P : State → Prop} {b : Bool} {r : Result} (h : Ends P r) : Ends P (guardClash b r) :=
  ends_ite (fun _ => ends_refused) (fun _ => h)

theorem ends_guardHalfForm {P : State → Prop} {p w : Bool} {r : Result} (h : Ends P r) : Ends P (guardHalfForm p w r) :=
  ends_ite (fun _ => ends_refused) (fun _ => h)

theorem ends_guardBase {P : State → Prop} {m : Addressing} {rn rd : RegNum} {r : Result} (h : Ends P r) :
    Ends P (guardBase m rn rd r) := ends_guardPc (ends_guardClash h)

theorem ends_guardBlock {P : State → Prop} {rn : RegNum} {regs : List RegNum} {r : Result} (h : Ends P r) :
    Ends P (guardBlock rn regs r) := ends_guardPc (ends_guardClash h)

theorem ends_guardSwap {P : State → Prop} {rn rd rm : RegNum} {r : Result} (h : Ends P r) :
    Ends P (guardSwap rn rd rm r) := ends_guardPc (ends_guardClash h)

theorem ends_guardLong {P : State → Prop} {a b c d : RegNum} {r : Result} (h : Ends P r) :
    Ends P (guardLong a b c d r) := ends_guardPc (ends_guardClash h)

theorem ends_guardHi {P : State → Prop} {a b : Bool} {r : Result} (h : Ends P r) : Ends P (guardHi a b r) :=
  ends_ite (fun _ => h) (fun _ => ends_refused)

theorem ends_guardUserBank {P : State → Prop} {s : State} {r : Result} (h : Ends P r) : Ends P (guardUserBank s r) :=
  ends_ite (fun _ => ends_refused) (fun _ => h)

theorem ends_guardSpsr {P : State → Prop} {s : State} {r : Result} (h : (∃ p, s.spsrOf s.cpsr.m = some p) → Ends P r) :
    Ends P (guardSpsr s r) := by
  unfold guardSpsr
  split
  · exact ends_refused
  · exact h ⟨_, ‹_›⟩

/-! Data processing, status registers and branches. -/

/-- An exception return writes the CPSR from the SPSR of the mode and the PC aligned for the restored state. -/
theorem ends_exceptionReturn {P : State → Prop} {s : State} {a : Word}
    (h : ∀ p, s.spsrOf s.cpsr.m = some p → P { s with cpsr := p, pc := alignPc p.t a, queue := [] }) :
    Ends P (s.exceptionReturn a) := by
  unfold State.exceptionReturn
  split
  · exact ends_refused
  · exact ends_next (h _ ‹_›)

/-- A data processing result: a register and, with S, the flags; r15 is a branch or an exception return. -/
theorem ends_dpWrite {P : State → Prop} {sets : Bool} {rd : RegNum} {r : Word} {flags : Psr} {s : State}
    (hr : ∀ p, s.spsrOf s.cpsr.m = some p → P { s with cpsr := p, pc := alignPc p.t r, queue := [] })
    (hb : P (s.branchTo r)) (hw : ∀ p, (p = flags ∨ p = s.cpsr) → P ((s.setReg rd r).setCpsr p).advance) :
    Ends P (dpWrite sets rd r flags s) := by
  unfold dpWrite
  split
  · split
    · exact ends_exceptionReturn hr
    · exact ends_next hb
  · refine ends_next (hw _ ?_)
    split
    · exact .inl rfl
    · exact .inr rfl

theorem psrLogical_control (p : Psr) (r : Word) (c : Bool) :
    (psrLogical p r c).m = p.m ∧ (psrLogical p r c).t = p.t ∧ (psrLogical p r c).i = p.i ∧ (psrLogical p r c).f = p.f :=
  ⟨rfl, rfl, rfl, rfl⟩

theorem psrArith_control (p : Psr) (x : Sum) :
    (psrArith p x).m = p.m ∧ (psrArith p x).t = p.t ∧ (psrArith p x).i = p.i ∧ (psrArith p x).f = p.f :=
  ⟨rfl, rfl, rfl, rfl⟩

/-- Two status registers with the same control bits. -/
def Psr.sameControl (p q : Psr) : Prop := p.m = q.m ∧ p.t = q.t ∧ p.i = q.i ∧ p.f = q.f

/-- A register and flags written, then the next instruction; nothing else. -/
def Wrote (s t : State) : Prop :=
  ∃ (g : Vector Word 30) (p : Psr) (n : Nat), p.sameControl s.cpsr ∧
    t = State.advance { s with gpr := g, cpsr := p, draws := n }

theorem wrote_advance (s : State) : Wrote s s.advance := ⟨_, _, _, ⟨rfl, rfl, rfl, rfl⟩, rfl⟩

theorem wrote_setReg (s : State) (r : RegNum) (v : Word) : Wrote s (s.setReg r v).advance :=
  ⟨_, _, _, ⟨rfl, rfl, rfl, rfl⟩, rfl⟩

/-- What a data processing instruction does: a register and flags, or a branch, or an exception return. -/
theorem ends_dpLogical {P : State → Prop} {sets : Bool} {rd : RegNum} {r : Word} {o : Shifted} {s : State}
    (hr : ∀ p a, s.spsrOf s.cpsr.m = some p → P { s with cpsr := p, pc := alignPc p.t a, queue := [] })
    (hb : ∀ a, P (s.branchTo a)) (hw : ∀ t, Wrote s t → P t) : Ends P (dpLogical sets rd r o s) := by
  refine ends_dpWrite (fun p h => hr p _ h) (hb _) (fun p h => hw _ ⟨_, p, _, ?_, rfl⟩)
  rcases h with rfl | rfl
  · exact psrLogical_control _ _ _
  · exact ⟨rfl, rfl, rfl, rfl⟩

theorem ends_dpArith {P : State → Prop} {sets : Bool} {rd : RegNum} {x : Sum} {s : State}
    (hr : ∀ p a, s.spsrOf s.cpsr.m = some p → P { s with cpsr := p, pc := alignPc p.t a, queue := [] })
    (hb : ∀ a, P (s.branchTo a)) (hw : ∀ t, Wrote s t → P t) : Ends P (dpArith sets rd x s) := by
  refine ends_dpWrite (fun p h => hr p _ h) (hb _) (fun p h => hw _ ⟨_, p, _, ?_, rfl⟩)
  rcases h with rfl | rfl
  · exact psrArith_control _ _
  · exact ⟨rfl, rfl, rfl, rfl⟩

theorem ends_testLogical {P : State → Prop} {r : Word} {c : Bool} {s : State} (hw : ∀ t, Wrote s t → P t) :
    Ends P (dpTest (psrLogical s.cpsr r c) s) :=
  ends_next (hw _ ⟨_, _, _, psrLogical_control _ _ _, rfl⟩)

theorem ends_testArith {P : State → Prop} {x : Sum} {s : State} (hw : ∀ t, Wrote s t → P t) :
    Ends P (dpTest (psrArith s.cpsr x) s) :=
  ends_next (hw _ ⟨_, _, _, psrArith_control _ _, rfl⟩)

theorem ends_mulWrite {P : State → Prop} {sets : Bool} {rd : RegNum} {r : Word} {s : State} (hw : ∀ t, Wrote s t → P t) :
    Ends P (mulWrite sets rd r s) := by
  unfold mulWrite
  dsimp only
  split
  · exact ends_next (hw _ ⟨(s.setReg rd r).gpr, psrMul s.cpsr r s.drawn, s.draws + 1, ⟨rfl, rfl, rfl, rfl⟩, rfl⟩)
  · exact ends_next (hw _ ⟨_, _, _, ⟨rfl, rfl, rfl, rfl⟩, rfl⟩)

theorem ends_mulLongWrite {P : State → Prop} {sets : Bool} {rdHi rdLo : RegNum} {r : BitVec 64} {s : State}
    (hw : ∀ t, Wrote s t → P t) : Ends P (mulLongWrite sets rdHi rdLo r s) := by
  unfold mulLongWrite
  dsimp only
  split
  · exact ends_next (hw _ ⟨((s.setReg rdLo (r.extractLsb' 0 32)).setReg rdHi (r.extractLsb' 32 32)).gpr,
      psrMulLong s.cpsr r s.drawn, s.draws + 1, ⟨rfl, rfl, rfl, rfl⟩, rfl⟩)
  · exact ends_next (hw _ ⟨_, _, _, ⟨rfl, rfl, rfl, rfl⟩, rfl⟩)

/-- MSR writes the SPSR of the mode, or the CPSR with T as it was. -/
theorem ends_writeStatus {P : State → Prop} {r : Bool} {mask : BitVec 4} {v : Word} {s : State}
    (hs : ∀ p, P (s.setSpsrOf s.cpsr.m p).advance)
    (hc : ∀ p, p.t = s.cpsr.t →
      p = mergePsr s.cpsr (if s.privileged || s.dbg.halted then fieldBytes mask else fieldBytes mask &&& 0xFF000000#32) v →
      P (s.setCpsr p).advance) :
    Ends P (writeStatus r mask v s) := by
  unfold writeStatus
  split
  · split
    · exact ends_refused
    · exact ends_next (hs _)
  · exact ends_ite (fun h => ends_next (hc _ h rfl)) (fun _ => ends_refused)

/-! Transfers. -/

theorem writeBack_mem (s : State) (m : Addressing) (rn : RegNum) :
    ∃ g : Vector Word 30, s.writeBack m rn = { s with gpr := g } := by
  unfold State.writeBack
  split
  · exact ⟨_, rfl⟩
  · exact ⟨_, rfl⟩

/-- A load: after a step of memory, a register and the base, or a branch, or a data abort. -/
theorem ends_loadSingle {P : State → Prop} {size : Size} {signed priv : Bool} {m : Addressing} {rn rd : RegNum} {s : State}
    (hw : ∀ u g, MemoryStep s u → P (State.advance { u with gpr := g }))
    (hb : ∀ u g a, MemoryStep s u → P (State.branchTo { u with gpr := g } a))
    (ha : ∀ u g, MemoryStep s u → P (State.takeException { u with gpr := g } .dataAbort)) :
    Ends P (loadSingle size signed priv m rn rd s) := by
  unfold loadSingle
  split
  · exact ends_refused
  · rename_i s1 h
    obtain ⟨g, e⟩ := writeBack_mem s1 m rn
    rw [e]; exact ends_next (ha _ _ (dataRead_abort h))
  · rename_i v s1 h
    obtain ⟨g, e⟩ := writeBack_mem s1 m rn
    rw [e, State.writeResult]
    refine ends_next ?_
    split
    · exact hb s1 g _ (dataRead_done h)
    · exact hw s1 _ (dataRead_done h)

theorem ends_storeSingle {P : State → Prop} {size : Size} {priv : Bool} {m : Addressing} {rn : RegNum} {v : Word} {s : State}
    (hw : ∀ u g, MemoryStep s u → P (State.advance { u with gpr := g }))
    (ha : ∀ u g, MemoryStep s u → P (State.takeException { u with gpr := g } .dataAbort)) :
    Ends P (storeSingle size priv m rn v s) := by
  unfold storeSingle
  split
  · exact ends_refused
  · rename_i s1 h
    obtain ⟨g, e⟩ := writeBack_mem s1 m rn
    rw [e]; exact ends_next (ha _ _ (dataWrite_abort h))
  · rename_i v s1 h
    obtain ⟨g, e⟩ := writeBack_mem s1 m rn
    rw [e]; exact ends_next (hw _ _ (dataWrite_done h))

theorem ends_swapWith {P : State → Prop} {size : Size} {rn rd rm : RegNum} {s : State}
    (hw : ∀ u g, MemoryStep s u → P (State.advance { u with gpr := g }))
    (ha : ∀ u g, MemoryStep s u → P (State.takeException { u with gpr := g } .dataAbort)) :
    Ends P (swapWith size rn rd rm s) := by
  unfold swapWith
  dsimp only
  split
  · exact ends_refused
  · exact ends_next (ha _ _ (dataRead_abort ‹_›))
  · rename_i h
    split
    · exact ends_refused
    · exact ends_next (ha _ _ ((dataRead_done h).trans (dataWrite_abort ‹_›)))
    · exact ends_next (hw _ _ ((dataRead_done h).trans (dataWrite_done ‹_›)))

/-! Block transfers: a step of memory, and registers. -/

/-- A step of memory, then general registers written. -/
def BlockStep (s t : State) : Prop := ∃ (u : State) (g : Vector Word 30), MemoryStep s u ∧ t = { u with gpr := g }

theorem BlockStep.refl (s : State) : BlockStep s s := ⟨s, s.gpr, .refl s, rfl⟩

/-- A change of general registers does not change what a step of memory does to the rest. -/
theorem MemoryStep.onGpr {s t : State} (g : Vector Word 30) (h : MemoryStep { s with gpr := g } t) :
    MemoryStep s { t with gpr := s.gpr } := by
  refine ⟨?_, h.alone, h.memory, h.buffer⟩
  have k := congrArg (fun x : State => ({ x with gpr := s.gpr } : State)) h.fixed
  exact k

theorem BlockStep.step {s t u : State} (h : BlockStep s t) (k : MemoryStep t u) : BlockStep s u := by
  obtain ⟨v, g, hv, rfl⟩ := h
  exact ⟨_, u.gpr, hv.trans (k.onGpr g), rfl⟩

theorem BlockStep.setGpr {s t : State} (h : BlockStep s t) (g : Vector Word 30) : BlockStep s { t with gpr := g } := by
  obtain ⟨u, _, hu, rfl⟩ := h
  exact ⟨u, g, hu, rfl⟩

theorem keepFirstFault_step (b : BlockRun) (s : State) : MemoryStep s (keepFirstFault b s) := by
  unfold keepFirstFault
  split
  · exact .of_eq rfl rfl rfl rfl
  · exact .refl s

theorem blockLoadReg_gpr (user : Bool) (s : State) (r : RegNum) (v : Word) :
    ∃ g : Vector Word 30, blockLoadReg user s r v = { s with gpr := g } := by
  unfold blockLoadReg
  split
  · exact ⟨_, rfl⟩
  · exact ⟨_, rfl⟩

theorem loadWords_step {s : State} {user priv : Bool} (regs : List RegNum) :
    ∀ (a : Word) (b c : BlockRun), BlockStep s b.state → loadWords user priv regs a b = .ok c → BlockStep s c.state := by
  induction regs with
  | nil => intro a b c hb h; cases h; exact hb
  | cons r rest ih =>
    intro a b c hb h
    unfold loadWords at h
    split at h
    · cases h
    · exact ih _ _ _ ((hb.step (dataRead_abort ‹_›)).step (keepFirstFault_step _ _)) h
    · rename_i v s1 hd
      have h1 := hb.step (dataRead_done hd)
      split at h
      · exact ih _ _ _ h1 h
      · split at h
        · exact ih _ _ _ h1 h
        · refine ih _ _ _ ?_ h
          obtain ⟨g, e⟩ := blockLoadReg_gpr user s1 r v
          dsimp only
          rw [e]; exact h1.setGpr g

theorem storeWords_step {s : State} {user priv : Bool} {rn : RegNum} (regs : List RegNum) :
    ∀ (wb : Option Word) (a : Word) (b c : BlockRun), BlockStep s b.state →
      storeWords user priv rn wb regs a b = .ok c → BlockStep s c.state := by
  induction regs with
  | nil => intro wb a b c hb h; cases h; exact hb
  | cons r rest ih =>
    intro wb a b c hb h
    unfold storeWords at h
    dsimp only at h
    split at h
    · cases h
    · refine ih _ _ _ _ ?_ h
      have h1 := (hb.step (dataWrite_abort ‹_›)).step (keepFirstFault_step b _)
      dsimp only
      cases wb
      · exact h1
      · exact h1.setGpr _
    · refine ih _ _ _ _ ?_ h
      have h1 := hb.step (dataWrite_done ‹_›)
      dsimp only
      cases wb
      · exact h1
      · exact h1.setGpr _

/-- LDM in any form: after a step of memory, registers, and the next instruction, a branch, an exception return (only in the form
with the SPSR), or a data abort; the user-bank form that goes on leaves the hazard of 70 R757. -/
theorem ends_loadBlock {P : State → Prop} {user restore p u w : Bool} {rn : RegNum} {regs : List RegNum} {s : State}
    (hw : ∀ t g, MemoryStep s t → P (State.advance (State.leaveHazard { t with gpr := g } user)))
    (hb : ∀ t g a, MemoryStep s t → P (State.branchTo { t with gpr := g } a))
    (hr : restore = true → ∀ t g q a, MemoryStep s t → t.spsrOf t.cpsr.m = some q →
      P { t with gpr := g, cpsr := q, pc := alignPc q.t a, queue := [] })
    (ha : ∀ t g, MemoryStep s t → P (State.takeException { t with gpr := g } .dataAbort)) :
    Ends P (loadBlock user restore p u w rn regs s) := by
  unfold loadBlock
  dsimp only
  split
  · exact ends_refused
  · rename_i b h
    have h0 : BlockStep s (if w then s.setReg rn (blockEnd u (s.reg rn) regs.length) else s) := by
      split
      · exact (BlockStep.refl s).setGpr _
      · exact .refl s
    obtain ⟨t, g, ht, e⟩ := loadWords_step regs _ _ _ h0 h
    unfold finishLoad
    split
    · rw [e]; exact ends_next (ha t _ ht)
    · split
      · rw [e]; exact ends_next (hw t _ ht)
      · rw [e]
        split
        · rename_i hres
          exact ends_exceptionReturn (fun q hq => hr hres t _ _ _ ht hq)
        · exact ends_next (hb t _ _ ht)

/-- STM in any form: after a step of memory, registers, and the next instruction or a data abort. -/
theorem ends_storeBlock {P : State → Prop} {user p u w : Bool} {rn : RegNum} {regs : List RegNum} {s : State}
    (hw : ∀ t g, MemoryStep s t → P (State.advance { t with gpr := g }))
    (ha : ∀ t g, MemoryStep s t → P (State.takeException { t with gpr := g } .dataAbort)) :
    Ends P (storeBlock user p u w rn regs s) := by
  unfold storeBlock
  dsimp only
  split
  · exact ends_refused
  · rename_i b h
    obtain ⟨t, g, ht, e⟩ := storeWords_step regs _ _ _ _ (.refl s) h
    split
    · rw [e]; exact ends_next (ha _ _ ht)
    · rw [e]; exact ends_next (hw _ _ ht)

/-! Coprocessors. -/

/-- An operation on CP15, CP14 or the debug registers: the core's registers, memory, the write buffer and EmbeddedICE-RT stay. -/
structure RegisterStep (s t : State) : Prop where
  core : t.gpr = s.gpr ∧ t.pc = s.pc ∧ t.cpsr = s.cpsr ∧ t.queue = s.queue
  statuses : t.spsrFiq = s.spsrFiq ∧ t.spsrSvc = s.spsrSvc ∧ t.spsrAbt = s.spsrAbt ∧ t.spsrIrq = s.spsrIrq ∧
    t.spsrUnd = s.spsrUnd
  memory : t.mem = s.mem ∧ t.writeBuffer = s.writeBuffer
  dbg : t.ice = s.ice ∧ t.dbg = s.dbg ∧ t.tap = s.tap ∧ t.pins = s.pins
  rest : t.params = s.params ∧ t.copros = s.copros ∧ t.env = s.env

theorem RegisterStep.refl (s : State) : RegisterStep s s :=
  ⟨⟨rfl, rfl, rfl, rfl⟩, ⟨rfl, rfl, rfl, rfl, rfl⟩, ⟨rfl, rfl⟩, ⟨rfl, rfl, rfl, rfl⟩, ⟨rfl, rfl, rfl⟩⟩

theorem RegisterStep.trans {s t u : State} (h : RegisterStep s t) (k : RegisterStep t u) : RegisterStep s u := by
  obtain ⟨⟨a1, a2, a3, a4⟩, ⟨b1, b2, b3, b4, b5⟩, ⟨c1, c2⟩, ⟨d1, d2, d3, d4⟩, ⟨e1, e2, e3⟩⟩ := h
  obtain ⟨⟨f1, f2, f3, f4⟩, ⟨g1, g2, g3, g4, g5⟩, ⟨h1, h2⟩, ⟨i1, i2, i3, i4⟩, ⟨j1, j2, j3⟩⟩ := k
  exact ⟨⟨f1.trans a1, f2.trans a2, f3.trans a3, f4.trans a4⟩,
    ⟨g1.trans b1, g2.trans b2, g3.trans b3, g4.trans b4, g5.trans b5⟩, ⟨h1.trans c1, h2.trans c2⟩,
    ⟨i1.trans d1, i2.trans d2, i3.trans d3, i4.trans d4⟩, ⟨j1.trans e1, j2.trans e2, j3.trans e3⟩⟩

theorem setCp15_regs (s : State) (c : Cp15) : RegisterStep s (s.setCp15 c) :=
  ⟨⟨rfl, rfl, rfl, rfl⟩, ⟨rfl, rfl, rfl, rfl, rfl⟩, ⟨rfl, rfl⟩, ⟨rfl, rfl, rfl, rfl⟩, ⟨rfl, rfl, rfl⟩⟩

theorem drew_regs (s : State) : RegisterStep s s.drew :=
  ⟨⟨rfl, rfl, rfl, rfl⟩, ⟨rfl, rfl, rfl, rfl, rfl⟩, ⟨rfl, rfl⟩, ⟨rfl, rfl, rfl, rfl⟩, ⟨rfl, rfl, rfl⟩⟩

theorem cacheWritten_regs (s : State) (c : Cache) : RegisterStep s { s with cache := c } :=
  ⟨⟨rfl, rfl, rfl, rfl⟩, ⟨rfl, rfl, rfl, rfl, rfl⟩, ⟨rfl, rfl⟩, ⟨rfl, rfl, rfl, rfl⟩, ⟨rfl, rfl, rfl⟩⟩

theorem tlbWritten_regs (s : State) (t : Tlb) : RegisterStep s { s with tlb := t } :=
  ⟨⟨rfl, rfl, rfl, rfl⟩, ⟨rfl, rfl, rfl, rfl, rfl⟩, ⟨rfl, rfl⟩, ⟨rfl, rfl, rfl, rfl⟩, ⟨rfl, rfl, rfl⟩⟩

theorem dccWritten_regs (s : State) (d : Dcc) : RegisterStep s { s with dcc := d } :=
  ⟨⟨rfl, rfl, rfl, rfl⟩, ⟨rfl, rfl, rfl, rfl, rfl⟩, ⟨rfl, rfl⟩, ⟨rfl, rfl, rfl, rfl⟩, ⟨rfl, rfl, rfl⟩⟩

theorem pick_regs (s : State) (ks : List Nat) : RegisterStep s (s.pick ks).2 := by
  match ks with
  | [] => exact .refl s
  | [_] => exact .refl s
  | _ :: _ :: _ => exact drew_regs s

theorem whenTesting_regs {op : CoproWrite} (h : ∀ v s, RegisterStep s (op v s)) (v : Word) (s : State) :
    RegisterStep s (whenTesting op v s) := by
  unfold whenTesting
  split
  · exact h v s
  · exact .refl s

theorem bumpAfterRam_regs (s : State) (g : Fin 4) : RegisterStep s (s.bumpAfterRam g) := by
  unfold State.bumpAfterRam
  split
  · exact .refl s
  · exact cacheWritten_regs _ _

theorem cacheCamRead_regs (v : Word) (s : State) : RegisterStep s (cacheCamRead v s) :=
  whenTesting_regs (fun _ s => ((setCp15_regs s _).trans (drew_regs _)).trans (cacheWritten_regs _ _)) v s

theorem cacheCamWrite_regs (v : Word) (s : State) : RegisterStep s (cacheCamWrite v s) :=
  whenTesting_regs (fun _ s => (cacheWritten_regs s _).trans (cacheWritten_regs _ _)) v s

theorem cacheRamRead_regs (v : Word) (s : State) : RegisterStep s (cacheRamRead v s) :=
  whenTesting_regs (fun _ s => (setCp15_regs s _).trans (bumpAfterRam_regs _ _)) v s

theorem cacheRamWrite_regs (v : Word) (s : State) : RegisterStep s (cacheRamWrite v s) :=
  whenTesting_regs (fun _ s => (cacheWritten_regs s _).trans (bumpAfterRam_regs _ _)) v s

theorem cacheCamMatch_regs (v : Word) (s : State) : RegisterStep s (cacheCamMatch v s) := by
  refine whenTesting_regs (fun v s => ?_) v s
  dsimp only
  split
  · exact (pick_regs s _).trans (setCp15_regs _ _)
  · exact ((pick_regs s _).trans (setCp15_regs _ _)).trans (drew_regs _)

theorem tlbCamRead_regs (v : Word) (s : State) : RegisterStep s (tlbCamRead v s) :=
  whenTesting_regs (fun _ s => (setCp15_regs s _).trans (tlbWritten_regs _ _)) v s

theorem tlbCamWrite_regs (v : Word) (s : State) : RegisterStep s (tlbCamWrite v s) :=
  whenTesting_regs (fun _ s => (tlbWritten_regs s _).trans (tlbWritten_regs _ _)) v s

theorem tlbRam1Read_regs (v : Word) (s : State) : RegisterStep s (tlbRam1Read v s) :=
  whenTesting_regs (fun _ s => ((setCp15_regs s _).trans (drew_regs _)).trans (tlbWritten_regs _ _)) v s

theorem tlbRam1Write_regs (v : Word) (s : State) : RegisterStep s (tlbRam1Write v s) :=
  whenTesting_regs (fun _ s => (tlbWritten_regs s _).trans (tlbWritten_regs _ _)) v s

theorem tlbRam2Read_regs (v : Word) (s : State) : RegisterStep s (tlbRam2Read v s) :=
  whenTesting_regs (fun _ s => (setCp15_regs s _).trans (tlbWritten_regs _ _)) v s

theorem tlbRam2Write_regs (v : Word) (s : State) : RegisterStep s (tlbRam2Write v s) :=
  whenTesting_regs (fun _ s => (tlbWritten_regs s _).trans (tlbWritten_regs _ _)) v s

theorem tlbCamMatch_regs (v : Word) (s : State) : RegisterStep s (tlbCamMatch v s) := by
  refine whenTesting_regs (fun v s => ?_) v s
  dsimp only
  split
  · exact (pick_regs s _).trans (setCp15_regs _ _)
  · exact ((pick_regs s _).trans (setCp15_regs _ _)).trans (drew_regs _)

theorem writeProcId_regs (v : Word) (s : State) : RegisterStep s (writeProcId v s) :=
  ⟨⟨rfl, rfl, rfl, rfl⟩, ⟨rfl, rfl, rfl, rfl, rfl⟩, ⟨rfl, rfl⟩, ⟨rfl, rfl, rfl, rfl⟩, ⟨rfl, rfl, rfl⟩⟩

/-- A register write that leaves the core, memory and EmbeddedICE-RT. -/
def WriteKeeps (op : CoproWrite) : Prop := ∀ v s, RegisterStep s (op v s)

/-- A register read that leaves the core, memory and EmbeddedICE-RT. -/
def ReadKeeps (op : CoproRead) : Prop := ∀ s, RegisterStep s (op s).2

theorem writeNothing_keeps : WriteKeeps writeNothing := fun _ s => .refl s

theorem readAny_keeps : ReadKeeps readAny := drew_regs

theorem writeTestRow_keeps (op1 : BitVec 3) (crm : BitVec 4) (op2 : BitVec 3) : WriteKeeps (writeTestRow op1 crm op2) := by
  unfold writeTestRow
  split
  · exact cacheCamRead_regs
  · exact cacheCamWrite_regs
  · exact cacheRamRead_regs
  · exact cacheRamWrite_regs
  · exact cacheCamMatch_regs
  · exact fun _ s => setCp15_regs s _
  · exact tlbCamRead_regs
  · exact tlbCamWrite_regs
  · exact tlbRam1Read_regs
  · exact tlbRam1Write_regs
  · exact tlbRam2Read_regs
  · exact tlbRam2Write_regs
  · exact tlbCamMatch_regs
  · exact fun _ s => setCp15_regs s _
  · exact writeNothing_keeps

theorem writeSystemRow_keeps (crn crm : BitVec 4) (op2 : BitVec 3) : WriteKeeps (writeSystemRow crn crm op2) := by
  unfold writeSystemRow
  split
  · exact fun _ s => setCp15_regs s _
  · exact fun _ s => setCp15_regs s _
  · exact fun _ s => setCp15_regs s _
  · exact fun _ s => setCp15_regs s _
  · exact fun _ s => setCp15_regs s _
  · split
    · exact fun _ s => cacheWritten_regs s _
    · exact writeNothing_keeps
  · split
    · split
      · exact fun _ s => tlbWritten_regs s _
      · exact fun _ s => tlbWritten_regs s _
    · exact writeNothing_keeps
  · split
    · exact fun _ s => cacheWritten_regs s _
    · exact fun _ s => cacheWritten_regs s _
  · exact fun _ s => tlbWritten_regs s _
  · split
    · exact writeProcId_regs
    · exact fun _ s => setCp15_regs s _
  · exact writeNothing_keeps

/-- Every write of a CP15 register. -/
theorem cp15Write_keeps (op1 : BitVec 3) (crn crm : BitVec 4) (op2 : BitVec 3) : WriteKeeps (cp15Write op1 crn crm op2) := by
  unfold cp15Write
  split
  · exact writeTestRow_keeps _ _ _
  · split
    · exact writeSystemRow_keeps _ _ _
    · exact writeNothing_keeps

theorem freeBits_keeps (m v : Word) (s : State) : RegisterStep s (freeBits m v s).2 := drew_regs s

theorem readTestRow_keeps (op1 : BitVec 3) (crm : BitVec 4) (op2 : BitVec 3) : ReadKeeps (readTestRow op1 crm op2) := by
  unfold readTestRow
  split
  · exact RegisterStep.refl
  · exact RegisterStep.refl
  · exact RegisterStep.refl
  · exact fun s => freeBits_keeps _ _ s
  · exact readAny_keeps

theorem readSystemRow_keeps (crn : BitVec 4) (op2 : BitVec 3) : ReadKeeps (readSystemRow crn op2) := by
  unfold readSystemRow
  split
  · exact RegisterStep.refl
  · exact fun s => freeBits_keeps _ _ s
  · exact RegisterStep.refl
  · exact RegisterStep.refl
  · exact fun s => freeBits_keeps _ _ s
  · exact RegisterStep.refl
  · exact RegisterStep.refl
  · split
    · exact RegisterStep.refl
    · exact fun s => freeBits_keeps _ _ s
  · exact readAny_keeps

/-- Every read of a CP15 register. -/
theorem cp15Read_keeps (op1 : BitVec 3) (crn crm : BitVec 4) (op2 : BitVec 3) : ReadKeeps (cp15Read op1 crn crm op2) := by
  unfold cp15Read
  split
  · exact readTestRow_keeps _ _ _
  · split
    · exact readSystemRow_keeps _ _
    · exact readAny_keeps

theorem cp14Write_keeps (crn : BitVec 4) : WriteKeeps (cp14Write crn) := by
  unfold cp14Write
  split
  · exact fun _ s => dccWritten_regs s _
  · exact fun _ s => dccWritten_regs s _
  · exact writeNothing_keeps

theorem cp14Read_keeps (crn : BitVec 4) : ReadKeeps (cp14Read crn) := by
  unfold cp14Read
  split
  · exact RegisterStep.refl
  · exact fun s => dccWritten_regs s _
  · exact RegisterStep.refl
  · exact readAny_keeps

/-- An MRC: a register or flags written after the read. -/
theorem ends_mrcWrite {P : State → Prop} {rd : RegNum} {r : Word × State} (hw : ∀ t, Wrote r.2 t → P t) :
    Ends P (mrcWrite rd r) := by
  unfold mrcWrite
  split
  · exact ends_next (hw _ ⟨r.2.gpr, psrFlagsOf r.2.cpsr r.1, r.2.draws, ⟨rfl, rfl, rfl, rfl⟩, rfl⟩)
  · exact ends_next (hw _ (wrote_setReg _ _ _))

/-- An MCR to CP15: in a privileged mode the operation, in User mode the undefined instruction trap. -/
theorem ends_transferToCp15 {P : State → Prop} {c : Cond} {rd : RegNum} {op : CoproWrite} {s : State} (ha : P s.advance)
    (hw : ∀ v, s.privileged = true → P (op v s).advance) (hu : P (s.takeException .undefined)) :
    Ends P (transferToCp15 c rd op s) :=
  ends_conditionally ha (ends_ite (fun h => ends_next (hw _ h)) (fun _ => ends_next hu))

theorem ends_transferFromCp15 {P : State → Prop} {c : Cond} {rd : RegNum} {op : CoproRead} {s : State} (ha : P s.advance)
    (hw : s.privileged = true → ∀ t, Wrote (op s).2 t → P t) (hu : P (s.takeException .undefined)) :
    Ends P (transferFromCp15 c rd op s) :=
  ends_conditionally ha (ends_ite (fun h => ends_mrcWrite (hw h)) (fun _ => ends_next hu))

theorem ends_transferToCp14 {P : State → Prop} {c : Cond} {rd : RegNum} {op : CoproWrite} {s : State} (ha : P s.advance)
    (hw : ∀ v, P (op v s).advance) : Ends P (transferToCp14 c rd op s) :=
  ends_conditionally ha (ends_next (hw _))

theorem ends_transferFromCp14 {P : State → Prop} {c : Cond} {rd : RegNum} {op : CoproRead} {s : State} (ha : P s.advance)
    (hw : ∀ t, Wrote (op s).2 t → P t) : Ends P (transferFromCp14 c rd op s) :=
  ends_conditionally ha (ends_mrcWrite hw)

/-- The handshake of an external coprocessor: the trap, a wait at the instruction, or the body. -/
theorem ends_withCoprocessor {P : State → Prop} {cp : BitVec 4} {s : State} {body : Word → List Word → State → Result}
    (hu : ∀ cs, P (State.takeException { s with copros := cs } .undefined)) (hb : ∀ cs, P { s with copros := cs })
    (hx : ∀ v ws cs, Ends P (body v ws { s with copros := cs })) : Ends P (withCoprocessor cp s body) := by
  unfold withCoprocessor
  split
  · dsimp only
    split
    · exact ends_next (hu _)
    · exact ends_next (hb _)
    · exact hx _ _ _
  · exact ends_next (hu s.copros)

/-- A step of memory, then the words a coprocessor has received. -/
def CoproStep (s t : State) : Prop := ∃ (u : State) (cs : List Copro), MemoryStep s u ∧ t = { u with copros := cs }

theorem CoproStep.refl (s : State) : CoproStep s s := ⟨s, s.copros, .refl s, rfl⟩

theorem MemoryStep.onCopros {s t : State} (cs : List Copro) (h : MemoryStep { s with copros := cs } t) :
    MemoryStep s { t with copros := s.copros } := by
  refine ⟨?_, h.alone, h.memory, h.buffer⟩
  have k := congrArg (fun x : State => ({ x with copros := s.copros } : State)) h.fixed
  exact k

theorem CoproStep.step {s t u : State} (h : CoproStep s t) (k : MemoryStep t u) : CoproStep s u := by
  obtain ⟨v, cs, hv, rfl⟩ := h
  exact ⟨_, u.copros, hv.trans (k.onCopros cs), rfl⟩

/-- What a transfer of LDC or STC leaves, however it ended. -/
def CopTransfer.From (s : State) : CopTransfer → Prop
  | .finished t => CoproStep s t
  | .aborted t => CoproStep s t
  | .refused _ => True

theorem copLoads_from {s : State} {cp : BitVec 4} {priv : Bool} (ws : List Word) :
    ∀ (a : Word) (t : State), CoproStep s t → CopTransfer.From s (copLoads cp priv ws a t) := by
  induction ws with
  | nil => intro a t h; exact h
  | cons w rest ih =>
    intro a t h
    unfold copLoads
    split
    · trivial
    · exact h.step (dataRead_abort ‹_›)
    · refine ih _ _ ?_
      obtain ⟨u, cs, hu, e⟩ := h.step (dataRead_done ‹_›)
      exact ⟨u, _, hu, by rw [e]⟩

theorem copStores_from {s : State} {priv : Bool} (ws : List Word) :
    ∀ (a : Word) (t : State), CoproStep s t → CopTransfer.From s (copStores priv ws a t) := by
  induction ws with
  | nil => intro a t h; exact h
  | cons w rest ih =>
    intro a t h
    unfold copStores
    split
    · trivial
    · exact h.step (dataWrite_abort ‹_›)
    · exact ih _ _ (h.step (dataWrite_done ‹_›))

theorem ends_copFinish {P : State → Prop} {m : Addressing} {rn : RegNum} {r : CopTransfer} {s : State}
    (hf : CopTransfer.From s r)
    (hw : ∀ t g cs, MemoryStep s t → P (State.advance { t with gpr := g, copros := cs }))
    (ha : ∀ t g cs, MemoryStep s t → P (State.takeException { t with gpr := g, copros := cs } .dataAbort)) :
    Ends P (copFinish m rn r) := by
  unfold copFinish
  split
  · exact ends_refused
  · rename_i s1
    obtain ⟨u, cs, hu, rfl⟩ := hf
    obtain ⟨g, e⟩ := writeBack_mem { u with copros := cs } m rn
    rw [e]; exact ends_next (ha u _ _ hu)
  · rename_i s1
    obtain ⟨u, cs, hu, rfl⟩ := hf
    obtain ⟨g, e⟩ := writeBack_mem { u with copros := cs } m rn
    rw [e]; exact ends_next (hw u _ _ hu)

/-! `AddWithCarry` on the integers. -/

theorem toNat_complement (x : Word) : (~~~x).toNat + x.toNat = 4294967295 := by
  have := x.isLt
  simp [BitVec.toNat_not]
  omega

theorem toInt_complement (x : Word) : (~~~x).toInt = -1 - x.toInt := by
  have := toNat_complement x
  have := x.isLt
  rw [BitVec.toInt_eq_toNat_cond, BitVec.toInt_eq_toNat_cond]
  split <;> split <;> omega

theorem addWithCarry_result (a b : Word) (c : Bool) :
    (addWithCarry a b c).result = BitVec.ofInt 32 (a.toInt + b.toInt + c.toNat) := by
  simp only [addWithCarry]
  rw [BitVec.ofInt_add, BitVec.ofInt_add, BitVec.ofInt_toInt, BitVec.ofInt_toInt, BitVec.ofNat_add, BitVec.ofNat_add,
    BitVec.ofNat_toNat, BitVec.ofNat_toNat]
  simp

/-! Placing an instruction. -/

theorem placeBytes_wf (s : State) (a v : Word) (n : Nat) (j : Nat) (h : cellsWf s.mem = true) :
    cellsWf (s.placeBytes a v n j).mem = true := by
  induction j with
  | zero => exact h
  | succ j ih => exact setByte_wf _ _ ih

end Sys2Proof.Machine
end

