-- ==== Sys2Proof/Laws/PerInstr.lean ====
section
/-! SUPPORT. The family RoundTrip: the word of a well-formed instruction decodes to it. -/

namespace Sys2Proof.Laws

set_option linter.unusedSimpArgs false
set_option linter.unreachableTactic false
set_option linter.unnecessarySeqFocus false
set_option linter.unusedTactic false
set_option Elab.async false

/-- Decoding the encoding of the instruction gives it back, if it is well formed. -/
def RoundTrip.Statement (i : Instr) : Prop := i.wellFormed = true → decode (encode i) = .ok i

theorem RoundTrip.andImm (cond : Cond) (s : Bool) (rn rd : RegNum) (rot : BitVec 4) (imm8 : BitVec 8) :
    RoundTrip.Statement (.andImm cond s rn rd rot imm8) := by
  intro _
  delta encode decode
  dsimp only
  generalize hx : cond.toBits ++ 0b0010000#7 ++ BitVec.ofBool s ++ rn ++ rd ++ rot ++ imm8 = x
  have hf : x.getLsbD 20 = s ∧ x.getLsbD 21 = false ∧ x.getLsbD 22 = false ∧ x.extractLsb' 0 8 = (imm8) ∧ x.extractLsb' 8
      4 = (rot) ∧ x.extractLsb' 12 4 = (rd) ∧ x.extractLsb' 16 4 = (rn) ∧ x.extractLsb' 21 4 = 0b0000#4 ∧
      x.extractLsb' 23 2 = 0b00#2 ∧ x.extractLsb' 25 3 = 0b001#3 ∧ x.extractLsb' 28 4 = (cond.toBits) := by
    subst hx; and_intros <;> simp (disch := omega) only [append_field_low, append_field_high, append_bit_low, append_bit_high, field_all, ofBool_bit, Nat.reduceSub, Nat.sub_self] <;> rfl
  delta decodeArm decodeDpImm condOf
  simp [-BitVec.getLsbD_eq_getElem, hf]

theorem RoundTrip.andShift (cond : Cond) (s : Bool) (rn rd : RegNum) (amount : BitVec 5) (shift : ShiftType) (rm : RegNum) :
    RoundTrip.Statement (.andShift cond s rn rd amount shift rm) := by
  intro _
  delta encode decode
  dsimp only
  generalize hx : cond.toBits ++ 0b0000000#7 ++ BitVec.ofBool s ++ rn ++ rd ++ amount ++ shift.toBits ++ 0b0#1 ++ rm = x
  have hf : x.getLsbD 4 = false ∧ x.getLsbD 7 = (amount).getLsbD 0 ∧ x.getLsbD 20 = s ∧ x.extractLsb' 0 4 = (rm) ∧
      x.extractLsb' 5 2 = (shift.toBits) ∧ x.extractLsb' 7 5 = (amount) ∧ x.extractLsb' 12 4 = (rd) ∧ x.extractLsb'
      16 4 = (rn) ∧ x.extractLsb' 21 4 = 0b0000#4 ∧ x.extractLsb' 23 2 = 0b00#2 ∧ x.extractLsb' 25 3 = 0b000#3 ∧
      x.extractLsb' 28 4 = (cond.toBits) := by
    subst hx; and_intros <;> simp (disch := omega) only [append_field_low, append_field_high, append_bit_low, append_bit_high, field_all, ofBool_bit, Nat.reduceSub, Nat.sub_self] <;> rfl
  delta decodeArm decodeDpShift condOf
  simp [-BitVec.getLsbD_eq_getElem, hf]

theorem RoundTrip.andRegShift (cond : Cond) (s : Bool) (rn rd rs : RegNum) (shift : ShiftType) (rm : RegNum) :
    RoundTrip.Statement (.andRegShift cond s rn rd rs shift rm) := by
  intro _
  delta encode decode
  dsimp only
  generalize hx : cond.toBits ++ 0b0000000#7 ++ BitVec.ofBool s ++ rn ++ rd ++ rs ++ 0b0#1 ++ shift.toBits ++ 0b1#1 ++ rm = x
  have hf : x.getLsbD 4 = true ∧ x.getLsbD 7 = false ∧ x.getLsbD 20 = s ∧ x.extractLsb' 0 4 = (rm) ∧ x.extractLsb' 5 2 =
      (shift.toBits) ∧ x.extractLsb' 8 4 = (rs) ∧ x.extractLsb' 12 4 = (rd) ∧ x.extractLsb' 16 4 = (rn) ∧
      x.extractLsb' 21 4 = 0b0000#4 ∧ x.extractLsb' 23 2 = 0b00#2 ∧ x.extractLsb' 25 3 = 0b000#3 ∧ x.extractLsb' 28
      4 = (cond.toBits) := by
    subst hx; and_intros <;> simp (disch := omega) only [append_field_low, append_field_high, append_bit_low, append_bit_high, field_all, ofBool_bit, Nat.reduceSub, Nat.sub_self] <;> rfl
  delta decodeArm decodeDpRegShift condOf
  simp [-BitVec.getLsbD_eq_getElem, hf]

theorem RoundTrip.eorImm (cond : Cond) (s : Bool) (rn rd : RegNum) (rot : BitVec 4) (imm8 : BitVec 8) :
    RoundTrip.Statement (.eorImm cond s rn rd rot imm8) := by
  intro _
  delta encode decode
  dsimp only
  generalize hx : cond.toBits ++ 0b0010001#7 ++ BitVec.ofBool s ++ rn ++ rd ++ rot ++ imm8 = x
  have hf : x.getLsbD 20 = s ∧ x.getLsbD 21 = true ∧ x.getLsbD 22 = false ∧ x.extractLsb' 0 8 = (imm8) ∧ x.extractLsb' 8 4
      = (rot) ∧ x.extractLsb' 12 4 = (rd) ∧ x.extractLsb' 16 4 = (rn) ∧ x.extractLsb' 21 4 = 0b0001#4 ∧
      x.extractLsb' 23 2 = 0b00#2 ∧ x.extractLsb' 25 3 = 0b001#3 ∧ x.extractLsb' 28 4 = (cond.toBits) := by
    subst hx; and_intros <;> simp (disch := omega) only [append_field_low, append_field_high, append_bit_low, append_bit_high, field_all, ofBool_bit, Nat.reduceSub, Nat.sub_self] <;> rfl
  delta decodeArm decodeDpImm condOf
  simp [-BitVec.getLsbD_eq_getElem, hf]

theorem RoundTrip.eorShift (cond : Cond) (s : Bool) (rn rd : RegNum) (amount : BitVec 5) (shift : ShiftType) (rm : RegNum) :
    RoundTrip.Statement (.eorShift cond s rn rd amount shift rm) := by
  intro _
  delta encode decode
  dsimp only
  generalize hx : cond.toBits ++ 0b0000001#7 ++ BitVec.ofBool s ++ rn ++ rd ++ amount ++ shift.toBits ++ 0b0#1 ++ rm = x
  have hf : x.getLsbD 4 = false ∧ x.getLsbD 7 = (amount).getLsbD 0 ∧ x.getLsbD 20 = s ∧ x.extractLsb' 0 4 = (rm) ∧
      x.extractLsb' 5 2 = (shift.toBits) ∧ x.extractLsb' 7 5 = (amount) ∧ x.extractLsb' 12 4 = (rd) ∧ x.extractLsb'
      16 4 = (rn) ∧ x.extractLsb' 21 4 = 0b0001#4 ∧ x.extractLsb' 23 2 = 0b00#2 ∧ x.extractLsb' 25 3 = 0b000#3 ∧
      x.extractLsb' 28 4 = (cond.toBits) := by
    subst hx; and_intros <;> simp (disch := omega) only [append_field_low, append_field_high, append_bit_low, append_bit_high, field_all, ofBool_bit, Nat.reduceSub, Nat.sub_self] <;> rfl
  delta decodeArm decodeDpShift condOf
  simp [-BitVec.getLsbD_eq_getElem, hf]

theorem RoundTrip.eorRegShift (cond : Cond) (s : Bool) (rn rd rs : RegNum) (shift : ShiftType) (rm : RegNum) :
    RoundTrip.Statement (.eorRegShift cond s rn rd rs shift rm) := by
  intro _
  delta encode decode
  dsimp only
  generalize hx : cond.toBits ++ 0b0000001#7 ++ BitVec.ofBool s ++ rn ++ rd ++ rs ++ 0b0#1 ++ shift.toBits ++ 0b1#1 ++ rm = x
  have hf : x.getLsbD 4 = true ∧ x.getLsbD 7 = false ∧ x.getLsbD 20 = s ∧ x.extractLsb' 0 4 = (rm) ∧ x.extractLsb' 5 2 =
      (shift.toBits) ∧ x.extractLsb' 8 4 = (rs) ∧ x.extractLsb' 12 4 = (rd) ∧ x.extractLsb' 16 4 = (rn) ∧
      x.extractLsb' 21 4 = 0b0001#4 ∧ x.extractLsb' 23 2 = 0b00#2 ∧ x.extractLsb' 25 3 = 0b000#3 ∧ x.extractLsb' 28
      4 = (cond.toBits) := by
    subst hx; and_intros <;> simp (disch := omega) only [append_field_low, append_field_high, append_bit_low, append_bit_high, field_all, ofBool_bit, Nat.reduceSub, Nat.sub_self] <;> rfl
  delta decodeArm decodeDpRegShift condOf
  simp [-BitVec.getLsbD_eq_getElem, hf]

theorem RoundTrip.subImm (cond : Cond) (s : Bool) (rn rd : RegNum) (rot : BitVec 4) (imm8 : BitVec 8) :
    RoundTrip.Statement (.subImm cond s rn rd rot imm8) := by
  intro _
  delta encode decode
  dsimp only
  generalize hx : cond.toBits ++ 0b0010010#7 ++ BitVec.ofBool s ++ rn ++ rd ++ rot ++ imm8 = x
  have hf : x.getLsbD 20 = s ∧ x.getLsbD 21 = false ∧ x.getLsbD 22 = true ∧ x.extractLsb' 0 8 = (imm8) ∧ x.extractLsb' 8 4
      = (rot) ∧ x.extractLsb' 12 4 = (rd) ∧ x.extractLsb' 16 4 = (rn) ∧ x.extractLsb' 21 4 = 0b0010#4 ∧
      x.extractLsb' 23 2 = 0b00#2 ∧ x.extractLsb' 25 3 = 0b001#3 ∧ x.extractLsb' 28 4 = (cond.toBits) := by
    subst hx; and_intros <;> simp (disch := omega) only [append_field_low, append_field_high, append_bit_low, append_bit_high, field_all, ofBool_bit, Nat.reduceSub, Nat.sub_self] <;> rfl
  delta decodeArm decodeDpImm condOf
  simp [-BitVec.getLsbD_eq_getElem, hf]

theorem RoundTrip.subShift (cond : Cond) (s : Bool) (rn rd : RegNum) (amount : BitVec 5) (shift : ShiftType) (rm : RegNum) :
    RoundTrip.Statement (.subShift cond s rn rd amount shift rm) := by
  intro _
  delta encode decode
  dsimp only
  generalize hx : cond.toBits ++ 0b0000010#7 ++ BitVec.ofBool s ++ rn ++ rd ++ amount ++ shift.toBits ++ 0b0#1 ++ rm = x
  have hf : x.getLsbD 4 = false ∧ x.getLsbD 7 = (amount).getLsbD 0 ∧ x.getLsbD 20 = s ∧ x.extractLsb' 0 4 = (rm) ∧
      x.extractLsb' 5 2 = (shift.toBits) ∧ x.extractLsb' 7 5 = (amount) ∧ x.extractLsb' 12 4 = (rd) ∧ x.extractLsb'
      16 4 = (rn) ∧ x.extractLsb' 21 4 = 0b0010#4 ∧ x.extractLsb' 23 2 = 0b00#2 ∧ x.extractLsb' 25 3 = 0b000#3 ∧
      x.extractLsb' 28 4 = (cond.toBits) := by
    subst hx; and_intros <;> simp (disch := omega) only [append_field_low, append_field_high, append_bit_low, append_bit_high, field_all, ofBool_bit, Nat.reduceSub, Nat.sub_self] <;> rfl
  delta decodeArm decodeDpShift condOf
  simp [-BitVec.getLsbD_eq_getElem, hf]

theorem RoundTrip.subRegShift (cond : Cond) (s : Bool) (rn rd rs : RegNum) (shift : ShiftType) (rm : RegNum) :
    RoundTrip.Statement (.subRegShift cond s rn rd rs shift rm) := by
  intro _
  delta encode decode
  dsimp only
  generalize hx : cond.toBits ++ 0b0000010#7 ++ BitVec.ofBool s ++ rn ++ rd ++ rs ++ 0b0#1 ++ shift.toBits ++ 0b1#1 ++ rm = x
  have hf : x.getLsbD 4 = true ∧ x.getLsbD 7 = false ∧ x.getLsbD 20 = s ∧ x.extractLsb' 0 4 = (rm) ∧ x.extractLsb' 5 2 =
      (shift.toBits) ∧ x.extractLsb' 8 4 = (rs) ∧ x.extractLsb' 12 4 = (rd) ∧ x.extractLsb' 16 4 = (rn) ∧
      x.extractLsb' 21 4 = 0b0010#4 ∧ x.extractLsb' 23 2 = 0b00#2 ∧ x.extractLsb' 25 3 = 0b000#3 ∧ x.extractLsb' 28
      4 = (cond.toBits) := by
    subst hx; and_intros <;> simp (disch := omega) only [append_field_low, append_field_high, append_bit_low, append_bit_high, field_all, ofBool_bit, Nat.reduceSub, Nat.sub_self] <;> rfl
  delta decodeArm decodeDpRegShift condOf
  simp [-BitVec.getLsbD_eq_getElem, hf]

theorem RoundTrip.rsbImm (cond : Cond) (s : Bool) (rn rd : RegNum) (rot : BitVec 4) (imm8 : BitVec 8) :
    RoundTrip.Statement (.rsbImm cond s rn rd rot imm8) := by
  intro _
  delta encode decode
  dsimp only
  generalize hx : cond.toBits ++ 0b0010011#7 ++ BitVec.ofBool s ++ rn ++ rd ++ rot ++ imm8 = x
  have hf : x.getLsbD 20 = s ∧ x.getLsbD 21 = true ∧ x.getLsbD 22 = true ∧ x.extractLsb' 0 8 = (imm8) ∧ x.extractLsb' 8 4
      = (rot) ∧ x.extractLsb' 12 4 = (rd) ∧ x.extractLsb' 16 4 = (rn) ∧ x.extractLsb' 21 4 = 0b0011#4 ∧
      x.extractLsb' 23 2 = 0b00#2 ∧ x.extractLsb' 25 3 = 0b001#3 ∧ x.extractLsb' 28 4 = (cond.toBits) := by
    subst hx; and_intros <;> simp (disch := omega) only [append_field_low, append_field_high, append_bit_low, append_bit_high, field_all, ofBool_bit, Nat.reduceSub, Nat.sub_self] <;> rfl
  delta decodeArm decodeDpImm condOf
  simp [-BitVec.getLsbD_eq_getElem, hf]

theorem RoundTrip.rsbShift (cond : Cond) (s : Bool) (rn rd : RegNum) (amount : BitVec 5) (shift : ShiftType) (rm : RegNum) :
    RoundTrip.Statement (.rsbShift cond s rn rd amount shift rm) := by
  intro _
  delta encode decode
  dsimp only
  generalize hx : cond.toBits ++ 0b0000011#7 ++ BitVec.ofBool s ++ rn ++ rd ++ amount ++ shift.toBits ++ 0b0#1 ++ rm = x
  have hf : x.getLsbD 4 = false ∧ x.getLsbD 7 = (amount).getLsbD 0 ∧ x.getLsbD 20 = s ∧ x.extractLsb' 0 4 = (rm) ∧
      x.extractLsb' 5 2 = (shift.toBits) ∧ x.extractLsb' 7 5 = (amount) ∧ x.extractLsb' 12 4 = (rd) ∧ x.extractLsb'
      16 4 = (rn) ∧ x.extractLsb' 21 4 = 0b0011#4 ∧ x.extractLsb' 23 2 = 0b00#2 ∧ x.extractLsb' 25 3 = 0b000#3 ∧
      x.extractLsb' 28 4 = (cond.toBits) := by
    subst hx; and_intros <;> simp (disch := omega) only [append_field_low, append_field_high, append_bit_low, append_bit_high, field_all, ofBool_bit, Nat.reduceSub, Nat.sub_self] <;> rfl
  delta decodeArm decodeDpShift condOf
  simp [-BitVec.getLsbD_eq_getElem, hf]

theorem RoundTrip.rsbRegShift (cond : Cond) (s : Bool) (rn rd rs : RegNum) (shift : ShiftType) (rm : RegNum) :
    RoundTrip.Statement (.rsbRegShift cond s rn rd rs shift rm) := by
  intro _
  delta encode decode
  dsimp only
  generalize hx : cond.toBits ++ 0b0000011#7 ++ BitVec.ofBool s ++ rn ++ rd ++ rs ++ 0b0#1 ++ shift.toBits ++ 0b1#1 ++ rm = x
  have hf : x.getLsbD 4 = true ∧ x.getLsbD 7 = false ∧ x.getLsbD 20 = s ∧ x.extractLsb' 0 4 = (rm) ∧ x.extractLsb' 5 2 =
      (shift.toBits) ∧ x.extractLsb' 8 4 = (rs) ∧ x.extractLsb' 12 4 = (rd) ∧ x.extractLsb' 16 4 = (rn) ∧
      x.extractLsb' 21 4 = 0b0011#4 ∧ x.extractLsb' 23 2 = 0b00#2 ∧ x.extractLsb' 25 3 = 0b000#3 ∧ x.extractLsb' 28
      4 = (cond.toBits) := by
    subst hx; and_intros <;> simp (disch := omega) only [append_field_low, append_field_high, append_bit_low, append_bit_high, field_all, ofBool_bit, Nat.reduceSub, Nat.sub_self] <;> rfl
  delta decodeArm decodeDpRegShift condOf
  simp [-BitVec.getLsbD_eq_getElem, hf]

theorem RoundTrip.addImm (cond : Cond) (s : Bool) (rn rd : RegNum) (rot : BitVec 4) (imm8 : BitVec 8) :
    RoundTrip.Statement (.addImm cond s rn rd rot imm8) := by
  intro _
  delta encode decode
  dsimp only
  generalize hx : cond.toBits ++ 0b0010100#7 ++ BitVec.ofBool s ++ rn ++ rd ++ rot ++ imm8 = x
  have hf : x.getLsbD 20 = s ∧ x.getLsbD 21 = false ∧ x.getLsbD 22 = false ∧ x.extractLsb' 0 8 = (imm8) ∧ x.extractLsb' 8
      4 = (rot) ∧ x.extractLsb' 12 4 = (rd) ∧ x.extractLsb' 16 4 = (rn) ∧ x.extractLsb' 21 4 = 0b0100#4 ∧
      x.extractLsb' 23 2 = 0b01#2 ∧ x.extractLsb' 25 3 = 0b001#3 ∧ x.extractLsb' 28 4 = (cond.toBits) := by
    subst hx; and_intros <;> simp (disch := omega) only [append_field_low, append_field_high, append_bit_low, append_bit_high, field_all, ofBool_bit, Nat.reduceSub, Nat.sub_self] <;> rfl
  delta decodeArm decodeDpImm condOf
  simp [-BitVec.getLsbD_eq_getElem, hf]

theorem RoundTrip.addShift (cond : Cond) (s : Bool) (rn rd : RegNum) (amount : BitVec 5) (shift : ShiftType) (rm : RegNum) :
    RoundTrip.Statement (.addShift cond s rn rd amount shift rm) := by
  intro _
  delta encode decode
  dsimp only
  generalize hx : cond.toBits ++ 0b0000100#7 ++ BitVec.ofBool s ++ rn ++ rd ++ amount ++ shift.toBits ++ 0b0#1 ++ rm = x
  have hf : x.getLsbD 4 = false ∧ x.getLsbD 7 = (amount).getLsbD 0 ∧ x.getLsbD 20 = s ∧ x.extractLsb' 0 4 = (rm) ∧
      x.extractLsb' 5 2 = (shift.toBits) ∧ x.extractLsb' 7 5 = (amount) ∧ x.extractLsb' 12 4 = (rd) ∧ x.extractLsb'
      16 4 = (rn) ∧ x.extractLsb' 21 4 = 0b0100#4 ∧ x.extractLsb' 23 2 = 0b01#2 ∧ x.extractLsb' 25 3 = 0b000#3 ∧
      x.extractLsb' 28 4 = (cond.toBits) := by
    subst hx; and_intros <;> simp (disch := omega) only [append_field_low, append_field_high, append_bit_low, append_bit_high, field_all, ofBool_bit, Nat.reduceSub, Nat.sub_self] <;> rfl
  delta decodeArm decodeDpShift condOf
  simp [-BitVec.getLsbD_eq_getElem, hf]

theorem RoundTrip.addRegShift (cond : Cond) (s : Bool) (rn rd rs : RegNum) (shift : ShiftType) (rm : RegNum) :
    RoundTrip.Statement (.addRegShift cond s rn rd rs shift rm) := by
  intro _
  delta encode decode
  dsimp only
  generalize hx : cond.toBits ++ 0b0000100#7 ++ BitVec.ofBool s ++ rn ++ rd ++ rs ++ 0b0#1 ++ shift.toBits ++ 0b1#1 ++ rm = x
  have hf : x.getLsbD 4 = true ∧ x.getLsbD 7 = false ∧ x.getLsbD 20 = s ∧ x.extractLsb' 0 4 = (rm) ∧ x.extractLsb' 5 2 =
      (shift.toBits) ∧ x.extractLsb' 8 4 = (rs) ∧ x.extractLsb' 12 4 = (rd) ∧ x.extractLsb' 16 4 = (rn) ∧
      x.extractLsb' 21 4 = 0b0100#4 ∧ x.extractLsb' 23 2 = 0b01#2 ∧ x.extractLsb' 25 3 = 0b000#3 ∧ x.extractLsb' 28
      4 = (cond.toBits) := by
    subst hx; and_intros <;> simp (disch := omega) only [append_field_low, append_field_high, append_bit_low, append_bit_high, field_all, ofBool_bit, Nat.reduceSub, Nat.sub_self] <;> rfl
  delta decodeArm decodeDpRegShift condOf
  simp [-BitVec.getLsbD_eq_getElem, hf]

theorem RoundTrip.adcImm (cond : Cond) (s : Bool) (rn rd : RegNum) (rot : BitVec 4) (imm8 : BitVec 8) :
    RoundTrip.Statement (.adcImm cond s rn rd rot imm8) := by
  intro _
  delta encode decode
  dsimp only
  generalize hx : cond.toBits ++ 0b0010101#7 ++ BitVec.ofBool s ++ rn ++ rd ++ rot ++ imm8 = x
  have hf : x.getLsbD 20 = s ∧ x.getLsbD 21 = true ∧ x.getLsbD 22 = false ∧ x.extractLsb' 0 8 = (imm8) ∧ x.extractLsb' 8 4
      = (rot) ∧ x.extractLsb' 12 4 = (rd) ∧ x.extractLsb' 16 4 = (rn) ∧ x.extractLsb' 21 4 = 0b0101#4 ∧
      x.extractLsb' 23 2 = 0b01#2 ∧ x.extractLsb' 25 3 = 0b001#3 ∧ x.extractLsb' 28 4 = (cond.toBits) := by
    subst hx; and_intros <;> simp (disch := omega) only [append_field_low, append_field_high, append_bit_low, append_bit_high, field_all, ofBool_bit, Nat.reduceSub, Nat.sub_self] <;> rfl
  delta decodeArm decodeDpImm condOf
  simp [-BitVec.getLsbD_eq_getElem, hf]

theorem RoundTrip.adcShift (cond : Cond) (s : Bool) (rn rd : RegNum) (amount : BitVec 5) (shift : ShiftType) (rm : RegNum) :
    RoundTrip.Statement (.adcShift cond s rn rd amount shift rm) := by
  intro _
  delta encode decode
  dsimp only
  generalize hx : cond.toBits ++ 0b0000101#7 ++ BitVec.ofBool s ++ rn ++ rd ++ amount ++ shift.toBits ++ 0b0#1 ++ rm = x
  have hf : x.getLsbD 4 = false ∧ x.getLsbD 7 = (amount).getLsbD 0 ∧ x.getLsbD 20 = s ∧ x.extractLsb' 0 4 = (rm) ∧
      x.extractLsb' 5 2 = (shift.toBits) ∧ x.extractLsb' 7 5 = (amount) ∧ x.extractLsb' 12 4 = (rd) ∧ x.extractLsb'
      16 4 = (rn) ∧ x.extractLsb' 21 4 = 0b0101#4 ∧ x.extractLsb' 23 2 = 0b01#2 ∧ x.extractLsb' 25 3 = 0b000#3 ∧
      x.extractLsb' 28 4 = (cond.toBits) := by
    subst hx; and_intros <;> simp (disch := omega) only [append_field_low, append_field_high, append_bit_low, append_bit_high, field_all, ofBool_bit, Nat.reduceSub, Nat.sub_self] <;> rfl
  delta decodeArm decodeDpShift condOf
  simp [-BitVec.getLsbD_eq_getElem, hf]

theorem RoundTrip.adcRegShift (cond : Cond) (s : Bool) (rn rd rs : RegNum) (shift : ShiftType) (rm : RegNum) :
    RoundTrip.Statement (.adcRegShift cond s rn rd rs shift rm) := by
  intro _
  delta encode decode
  dsimp only
  generalize hx : cond.toBits ++ 0b0000101#7 ++ BitVec.ofBool s ++ rn ++ rd ++ rs ++ 0b0#1 ++ shift.toBits ++ 0b1#1 ++ rm = x
  have hf : x.getLsbD 4 = true ∧ x.getLsbD 7 = false ∧ x.getLsbD 20 = s ∧ x.extractLsb' 0 4 = (rm) ∧ x.extractLsb' 5 2 =
      (shift.toBits) ∧ x.extractLsb' 8 4 = (rs) ∧ x.extractLsb' 12 4 = (rd) ∧ x.extractLsb' 16 4 = (rn) ∧
      x.extractLsb' 21 4 = 0b0101#4 ∧ x.extractLsb' 23 2 = 0b01#2 ∧ x.extractLsb' 25 3 = 0b000#3 ∧ x.extractLsb' 28
      4 = (cond.toBits) := by
    subst hx; and_intros <;> simp (disch := omega) only [append_field_low, append_field_high, append_bit_low, append_bit_high, field_all, ofBool_bit, Nat.reduceSub, Nat.sub_self] <;> rfl
  delta decodeArm decodeDpRegShift condOf
  simp [-BitVec.getLsbD_eq_getElem, hf]

theorem RoundTrip.sbcImm (cond : Cond) (s : Bool) (rn rd : RegNum) (rot : BitVec 4) (imm8 : BitVec 8) :
    RoundTrip.Statement (.sbcImm cond s rn rd rot imm8) := by
  intro _
  delta encode decode
  dsimp only
  generalize hx : cond.toBits ++ 0b0010110#7 ++ BitVec.ofBool s ++ rn ++ rd ++ rot ++ imm8 = x
  have hf : x.getLsbD 20 = s ∧ x.getLsbD 21 = false ∧ x.getLsbD 22 = true ∧ x.extractLsb' 0 8 = (imm8) ∧ x.extractLsb' 8 4
      = (rot) ∧ x.extractLsb' 12 4 = (rd) ∧ x.extractLsb' 16 4 = (rn) ∧ x.extractLsb' 21 4 = 0b0110#4 ∧
      x.extractLsb' 23 2 = 0b01#2 ∧ x.extractLsb' 25 3 = 0b001#3 ∧ x.extractLsb' 28 4 = (cond.toBits) := by
    subst hx; and_intros <;> simp (disch := omega) only [append_field_low, append_field_high, append_bit_low, append_bit_high, field_all, ofBool_bit, Nat.reduceSub, Nat.sub_self] <;> rfl
  delta decodeArm decodeDpImm condOf
  simp [-BitVec.getLsbD_eq_getElem, hf]

theorem RoundTrip.sbcShift (cond : Cond) (s : Bool) (rn rd : RegNum) (amount : BitVec 5) (shift : ShiftType) (rm : RegNum) :
    RoundTrip.Statement (.sbcShift cond s rn rd amount shift rm) := by
  intro _
  delta encode decode
  dsimp only
  generalize hx : cond.toBits ++ 0b0000110#7 ++ BitVec.ofBool s ++ rn ++ rd ++ amount ++ shift.toBits ++ 0b0#1 ++ rm = x
  have hf : x.getLsbD 4 = false ∧ x.getLsbD 7 = (amount).getLsbD 0 ∧ x.getLsbD 20 = s ∧ x.extractLsb' 0 4 = (rm) ∧
      x.extractLsb' 5 2 = (shift.toBits) ∧ x.extractLsb' 7 5 = (amount) ∧ x.extractLsb' 12 4 = (rd) ∧ x.extractLsb'
      16 4 = (rn) ∧ x.extractLsb' 21 4 = 0b0110#4 ∧ x.extractLsb' 23 2 = 0b01#2 ∧ x.extractLsb' 25 3 = 0b000#3 ∧
      x.extractLsb' 28 4 = (cond.toBits) := by
    subst hx; and_intros <;> simp (disch := omega) only [append_field_low, append_field_high, append_bit_low, append_bit_high, field_all, ofBool_bit, Nat.reduceSub, Nat.sub_self] <;> rfl
  delta decodeArm decodeDpShift condOf
  simp [-BitVec.getLsbD_eq_getElem, hf]

theorem RoundTrip.sbcRegShift (cond : Cond) (s : Bool) (rn rd rs : RegNum) (shift : ShiftType) (rm : RegNum) :
    RoundTrip.Statement (.sbcRegShift cond s rn rd rs shift rm) := by
  intro _
  delta encode decode
  dsimp only
  generalize hx : cond.toBits ++ 0b0000110#7 ++ BitVec.ofBool s ++ rn ++ rd ++ rs ++ 0b0#1 ++ shift.toBits ++ 0b1#1 ++ rm = x
  have hf : x.getLsbD 4 = true ∧ x.getLsbD 7 = false ∧ x.getLsbD 20 = s ∧ x.extractLsb' 0 4 = (rm) ∧ x.extractLsb' 5 2 =
      (shift.toBits) ∧ x.extractLsb' 8 4 = (rs) ∧ x.extractLsb' 12 4 = (rd) ∧ x.extractLsb' 16 4 = (rn) ∧
      x.extractLsb' 21 4 = 0b0110#4 ∧ x.extractLsb' 23 2 = 0b01#2 ∧ x.extractLsb' 25 3 = 0b000#3 ∧ x.extractLsb' 28
      4 = (cond.toBits) := by
    subst hx; and_intros <;> simp (disch := omega) only [append_field_low, append_field_high, append_bit_low, append_bit_high, field_all, ofBool_bit, Nat.reduceSub, Nat.sub_self] <;> rfl
  delta decodeArm decodeDpRegShift condOf
  simp [-BitVec.getLsbD_eq_getElem, hf]

theorem RoundTrip.rscImm (cond : Cond) (s : Bool) (rn rd : RegNum) (rot : BitVec 4) (imm8 : BitVec 8) :
    RoundTrip.Statement (.rscImm cond s rn rd rot imm8) := by
  intro _
  delta encode decode
  dsimp only
  generalize hx : cond.toBits ++ 0b0010111#7 ++ BitVec.ofBool s ++ rn ++ rd ++ rot ++ imm8 = x
  have hf : x.getLsbD 20 = s ∧ x.getLsbD 21 = true ∧ x.getLsbD 22 = true ∧ x.extractLsb' 0 8 = (imm8) ∧ x.extractLsb' 8 4
      = (rot) ∧ x.extractLsb' 12 4 = (rd) ∧ x.extractLsb' 16 4 = (rn) ∧ x.extractLsb' 21 4 = 0b0111#4 ∧
      x.extractLsb' 23 2 = 0b01#2 ∧ x.extractLsb' 25 3 = 0b001#3 ∧ x.extractLsb' 28 4 = (cond.toBits) := by
    subst hx; and_intros <;> simp (disch := omega) only [append_field_low, append_field_high, append_bit_low, append_bit_high, field_all, ofBool_bit, Nat.reduceSub, Nat.sub_self] <;> rfl
  delta decodeArm decodeDpImm condOf
  simp [-BitVec.getLsbD_eq_getElem, hf]

theorem RoundTrip.rscShift (cond : Cond) (s : Bool) (rn rd : RegNum) (amount : BitVec 5) (shift : ShiftType) (rm : RegNum) :
    RoundTrip.Statement (.rscShift cond s rn rd amount shift rm) := by
  intro _
  delta encode decode
  dsimp only
  generalize hx : cond.toBits ++ 0b0000111#7 ++ BitVec.ofBool s ++ rn ++ rd ++ amount ++ shift.toBits ++ 0b0#1 ++ rm = x
  have hf : x.getLsbD 4 = false ∧ x.getLsbD 7 = (amount).getLsbD 0 ∧ x.getLsbD 20 = s ∧ x.extractLsb' 0 4 = (rm) ∧
      x.extractLsb' 5 2 = (shift.toBits) ∧ x.extractLsb' 7 5 = (amount) ∧ x.extractLsb' 12 4 = (rd) ∧ x.extractLsb'
      16 4 = (rn) ∧ x.extractLsb' 21 4 = 0b0111#4 ∧ x.extractLsb' 23 2 = 0b01#2 ∧ x.extractLsb' 25 3 = 0b000#3 ∧
      x.extractLsb' 28 4 = (cond.toBits) := by
    subst hx; and_intros <;> simp (disch := omega) only [append_field_low, append_field_high, append_bit_low, append_bit_high, field_all, ofBool_bit, Nat.reduceSub, Nat.sub_self] <;> rfl
  delta decodeArm decodeDpShift condOf
  simp [-BitVec.getLsbD_eq_getElem, hf]

theorem RoundTrip.rscRegShift (cond : Cond) (s : Bool) (rn rd rs : RegNum) (shift : ShiftType) (rm : RegNum) :
    RoundTrip.Statement (.rscRegShift cond s rn rd rs shift rm) := by
  intro _
  delta encode decode
  dsimp only
  generalize hx : cond.toBits ++ 0b0000111#7 ++ BitVec.ofBool s ++ rn ++ rd ++ rs ++ 0b0#1 ++ shift.toBits ++ 0b1#1 ++ rm = x
  have hf : x.getLsbD 4 = true ∧ x.getLsbD 7 = false ∧ x.getLsbD 20 = s ∧ x.extractLsb' 0 4 = (rm) ∧ x.extractLsb' 5 2 =
      (shift.toBits) ∧ x.extractLsb' 8 4 = (rs) ∧ x.extractLsb' 12 4 = (rd) ∧ x.extractLsb' 16 4 = (rn) ∧
      x.extractLsb' 21 4 = 0b0111#4 ∧ x.extractLsb' 23 2 = 0b01#2 ∧ x.extractLsb' 25 3 = 0b000#3 ∧ x.extractLsb' 28
      4 = (cond.toBits) := by
    subst hx; and_intros <;> simp (disch := omega) only [append_field_low, append_field_high, append_bit_low, append_bit_high, field_all, ofBool_bit, Nat.reduceSub, Nat.sub_self] <;> rfl
  delta decodeArm decodeDpRegShift condOf
  simp [-BitVec.getLsbD_eq_getElem, hf]

theorem RoundTrip.tstImm (cond : Cond) (rn : RegNum) (rot : BitVec 4) (imm8 : BitVec 8) :
    RoundTrip.Statement (.tstImm cond rn rot imm8) := by
  intro _
  delta encode decode
  dsimp only
  generalize hx : cond.toBits ++ 0b00110001#8 ++ rn ++ 0b0000#4 ++ rot ++ imm8 = x
  have hf : x.getLsbD 20 = true ∧ x.getLsbD 21 = false ∧ x.getLsbD 22 = false ∧ x.extractLsb' 0 8 = (imm8) ∧ x.extractLsb'
      8 4 = (rot) ∧ x.extractLsb' 16 4 = (rn) ∧ x.extractLsb' 21 4 = 0b1000#4 ∧ x.extractLsb' 23 2 = 0b10#2 ∧
      x.extractLsb' 25 3 = 0b001#3 ∧ x.extractLsb' 28 4 = (cond.toBits) := by
    subst hx; and_intros <;> simp (disch := omega) only [append_field_low, append_field_high, append_bit_low, append_bit_high, field_all, ofBool_bit, Nat.reduceSub, Nat.sub_self] <;> rfl
  delta decodeArm decodeDpImm condOf
  simp [-BitVec.getLsbD_eq_getElem, hf]

theorem RoundTrip.tstShift (cond : Cond) (rn : RegNum) (amount : BitVec 5) (shift : ShiftType) (rm : RegNum) :
    RoundTrip.Statement (.tstShift cond rn amount shift rm) := by
  intro _
  delta encode decode
  dsimp only
  generalize hx : cond.toBits ++ 0b00010001#8 ++ rn ++ 0b0000#4 ++ amount ++ shift.toBits ++ 0b0#1 ++ rm = x
  have hf : x.getLsbD 4 = false ∧ x.getLsbD 7 = (amount).getLsbD 0 ∧ x.getLsbD 20 = true ∧ x.extractLsb' 0 4 = (rm) ∧
      x.extractLsb' 5 2 = (shift.toBits) ∧ x.extractLsb' 7 5 = (amount) ∧ x.extractLsb' 16 4 = (rn) ∧ x.extractLsb'
      21 4 = 0b1000#4 ∧ x.extractLsb' 23 2 = 0b10#2 ∧ x.extractLsb' 25 3 = 0b000#3 ∧ x.extractLsb' 28 4 =
      (cond.toBits) := by
    subst hx; and_intros <;> simp (disch := omega) only [append_field_low, append_field_high, append_bit_low, append_bit_high, field_all, ofBool_bit, Nat.reduceSub, Nat.sub_self] <;> rfl
  delta decodeArm decodeDpShift condOf
  simp [-BitVec.getLsbD_eq_getElem, hf]

theorem RoundTrip.tstRegShift (cond : Cond) (rn rs : RegNum) (shift : ShiftType) (rm : RegNum) :
    RoundTrip.Statement (.tstRegShift cond rn rs shift rm) := by
  intro _
  delta encode decode
  dsimp only
  generalize hx : cond.toBits ++ 0b00010001#8 ++ rn ++ 0b0000#4 ++ rs ++ 0b0#1 ++ shift.toBits ++ 0b1#1 ++ rm = x
  have hf : x.getLsbD 4 = true ∧ x.getLsbD 7 = false ∧ x.getLsbD 20 = true ∧ x.extractLsb' 0 4 = (rm) ∧ x.extractLsb' 5 2
      = (shift.toBits) ∧ x.extractLsb' 8 4 = (rs) ∧ x.extractLsb' 16 4 = (rn) ∧ x.extractLsb' 21 4 = 0b1000#4 ∧
      x.extractLsb' 23 2 = 0b10#2 ∧ x.extractLsb' 25 3 = 0b000#3 ∧ x.extractLsb' 28 4 = (cond.toBits) := by
    subst hx; and_intros <;> simp (disch := omega) only [append_field_low, append_field_high, append_bit_low, append_bit_high, field_all, ofBool_bit, Nat.reduceSub, Nat.sub_self] <;> rfl
  delta decodeArm decodeDpRegShift condOf
  simp [-BitVec.getLsbD_eq_getElem, hf]

theorem RoundTrip.teqImm (cond : Cond) (rn : RegNum) (rot : BitVec 4) (imm8 : BitVec 8) :
    RoundTrip.Statement (.teqImm cond rn rot imm8) := by
  intro _
  delta encode decode
  dsimp only
  generalize hx : cond.toBits ++ 0b00110011#8 ++ rn ++ 0b0000#4 ++ rot ++ imm8 = x
  have hf : x.getLsbD 20 = true ∧ x.getLsbD 21 = true ∧ x.getLsbD 22 = false ∧ x.extractLsb' 0 8 = (imm8) ∧ x.extractLsb'
      8 4 = (rot) ∧ x.extractLsb' 16 4 = (rn) ∧ x.extractLsb' 21 4 = 0b1001#4 ∧ x.extractLsb' 23 2 = 0b10#2 ∧
      x.extractLsb' 25 3 = 0b001#3 ∧ x.extractLsb' 28 4 = (cond.toBits) := by
    subst hx; and_intros <;> simp (disch := omega) only [append_field_low, append_field_high, append_bit_low, append_bit_high, field_all, ofBool_bit, Nat.reduceSub, Nat.sub_self] <;> rfl
  delta decodeArm decodeDpImm condOf
  simp [-BitVec.getLsbD_eq_getElem, hf]

theorem RoundTrip.teqShift (cond : Cond) (rn : RegNum) (amount : BitVec 5) (shift : ShiftType) (rm : RegNum) :
    RoundTrip.Statement (.teqShift cond rn amount shift rm) := by
  intro _
  delta encode decode
  dsimp only
  generalize hx : cond.toBits ++ 0b00010011#8 ++ rn ++ 0b0000#4 ++ amount ++ shift.toBits ++ 0b0#1 ++ rm = x
  have hf : x.getLsbD 4 = false ∧ x.getLsbD 7 = (amount).getLsbD 0 ∧ x.getLsbD 20 = true ∧ x.extractLsb' 0 4 = (rm) ∧
      x.extractLsb' 5 2 = (shift.toBits) ∧ x.extractLsb' 7 5 = (amount) ∧ x.extractLsb' 16 4 = (rn) ∧ x.extractLsb'
      21 4 = 0b1001#4 ∧ x.extractLsb' 23 2 = 0b10#2 ∧ x.extractLsb' 25 3 = 0b000#3 ∧ x.extractLsb' 28 4 =
      (cond.toBits) := by
    subst hx; and_intros <;> simp (disch := omega) only [append_field_low, append_field_high, append_bit_low, append_bit_high, field_all, ofBool_bit, Nat.reduceSub, Nat.sub_self] <;> rfl
  delta decodeArm decodeDpShift condOf
  simp [-BitVec.getLsbD_eq_getElem, hf]

theorem RoundTrip.teqRegShift (cond : Cond) (rn rs : RegNum) (shift : ShiftType) (rm : RegNum) :
    RoundTrip.Statement (.teqRegShift cond rn rs shift rm) := by
  intro _
  delta encode decode
  dsimp only
  generalize hx : cond.toBits ++ 0b00010011#8 ++ rn ++ 0b0000#4 ++ rs ++ 0b0#1 ++ shift.toBits ++ 0b1#1 ++ rm = x
  have hf : x.getLsbD 4 = true ∧ x.getLsbD 7 = false ∧ x.getLsbD 20 = true ∧ x.extractLsb' 0 4 = (rm) ∧ x.extractLsb' 5 2
      = (shift.toBits) ∧ x.extractLsb' 8 4 = (rs) ∧ x.extractLsb' 16 4 = (rn) ∧ x.extractLsb' 21 4 = 0b1001#4 ∧
      x.extractLsb' 23 2 = 0b10#2 ∧ x.extractLsb' 25 3 = 0b000#3 ∧ x.extractLsb' 28 4 = (cond.toBits) := by
    subst hx; and_intros <;> simp (disch := omega) only [append_field_low, append_field_high, append_bit_low, append_bit_high, field_all, ofBool_bit, Nat.reduceSub, Nat.sub_self] <;> rfl
  delta decodeArm decodeDpRegShift condOf
  simp [-BitVec.getLsbD_eq_getElem, hf]

theorem RoundTrip.cmpImm (cond : Cond) (rn : RegNum) (rot : BitVec 4) (imm8 : BitVec 8) :
    RoundTrip.Statement (.cmpImm cond rn rot imm8) := by
  intro _
  delta encode decode
  dsimp only
  generalize hx : cond.toBits ++ 0b00110101#8 ++ rn ++ 0b0000#4 ++ rot ++ imm8 = x
  have hf : x.getLsbD 20 = true ∧ x.getLsbD 21 = false ∧ x.getLsbD 22 = true ∧ x.extractLsb' 0 8 = (imm8) ∧ x.extractLsb'
      8 4 = (rot) ∧ x.extractLsb' 16 4 = (rn) ∧ x.extractLsb' 21 4 = 0b1010#4 ∧ x.extractLsb' 23 2 = 0b10#2 ∧
      x.extractLsb' 25 3 = 0b001#3 ∧ x.extractLsb' 28 4 = (cond.toBits) := by
    subst hx; and_intros <;> simp (disch := omega) only [append_field_low, append_field_high, append_bit_low, append_bit_high, field_all, ofBool_bit, Nat.reduceSub, Nat.sub_self] <;> rfl
  delta decodeArm decodeDpImm condOf
  simp [-BitVec.getLsbD_eq_getElem, hf]

theorem RoundTrip.cmpShift (cond : Cond) (rn : RegNum) (amount : BitVec 5) (shift : ShiftType) (rm : RegNum) :
    RoundTrip.Statement (.cmpShift cond rn amount shift rm) := by
  intro _
  delta encode decode
  dsimp only
  generalize hx : cond.toBits ++ 0b00010101#8 ++ rn ++ 0b0000#4 ++ amount ++ shift.toBits ++ 0b0#1 ++ rm = x
  have hf : x.getLsbD 4 = false ∧ x.getLsbD 7 = (amount).getLsbD 0 ∧ x.getLsbD 20 = true ∧ x.extractLsb' 0 4 = (rm) ∧
      x.extractLsb' 5 2 = (shift.toBits) ∧ x.extractLsb' 7 5 = (amount) ∧ x.extractLsb' 16 4 = (rn) ∧ x.extractLsb'
      21 4 = 0b1010#4 ∧ x.extractLsb' 23 2 = 0b10#2 ∧ x.extractLsb' 25 3 = 0b000#3 ∧ x.extractLsb' 28 4 =
      (cond.toBits) := by
    subst hx; and_intros <;> simp (disch := omega) only [append_field_low, append_field_high, append_bit_low, append_bit_high, field_all, ofBool_bit, Nat.reduceSub, Nat.sub_self] <;> rfl
  delta decodeArm decodeDpShift condOf
  simp [-BitVec.getLsbD_eq_getElem, hf]

theorem RoundTrip.cmpRegShift (cond : Cond) (rn rs : RegNum) (shift : ShiftType) (rm : RegNum) :
    RoundTrip.Statement (.cmpRegShift cond rn rs shift rm) := by
  intro _
  delta encode decode
  dsimp only
  generalize hx : cond.toBits ++ 0b00010101#8 ++ rn ++ 0b0000#4 ++ rs ++ 0b0#1 ++ shift.toBits ++ 0b1#1 ++ rm = x
  have hf : x.getLsbD 4 = true ∧ x.getLsbD 7 = false ∧ x.getLsbD 20 = true ∧ x.extractLsb' 0 4 = (rm) ∧ x.extractLsb' 5 2
      = (shift.toBits) ∧ x.extractLsb' 8 4 = (rs) ∧ x.extractLsb' 16 4 = (rn) ∧ x.extractLsb' 21 4 = 0b1010#4 ∧
      x.extractLsb' 23 2 = 0b10#2 ∧ x.extractLsb' 25 3 = 0b000#3 ∧ x.extractLsb' 28 4 = (cond.toBits) := by
    subst hx; and_intros <;> simp (disch := omega) only [append_field_low, append_field_high, append_bit_low, append_bit_high, field_all, ofBool_bit, Nat.reduceSub, Nat.sub_self] <;> rfl
  delta decodeArm decodeDpRegShift condOf
  simp [-BitVec.getLsbD_eq_getElem, hf]

theorem RoundTrip.cmnImm (cond : Cond) (rn : RegNum) (rot : BitVec 4) (imm8 : BitVec 8) :
    RoundTrip.Statement (.cmnImm cond rn rot imm8) := by
  intro _
  delta encode decode
  dsimp only
  generalize hx : cond.toBits ++ 0b00110111#8 ++ rn ++ 0b0000#4 ++ rot ++ imm8 = x
  have hf : x.getLsbD 20 = true ∧ x.getLsbD 21 = true ∧ x.getLsbD 22 = true ∧ x.extractLsb' 0 8 = (imm8) ∧ x.extractLsb' 8
      4 = (rot) ∧ x.extractLsb' 16 4 = (rn) ∧ x.extractLsb' 21 4 = 0b1011#4 ∧ x.extractLsb' 23 2 = 0b10#2 ∧
      x.extractLsb' 25 3 = 0b001#3 ∧ x.extractLsb' 28 4 = (cond.toBits) := by
    subst hx; and_intros <;> simp (disch := omega) only [append_field_low, append_field_high, append_bit_low, append_bit_high, field_all, ofBool_bit, Nat.reduceSub, Nat.sub_self] <;> rfl
  delta decodeArm decodeDpImm condOf
  simp [-BitVec.getLsbD_eq_getElem, hf]

theorem RoundTrip.cmnShift (cond : Cond) (rn : RegNum) (amount : BitVec 5) (shift : ShiftType) (rm : RegNum) :
    RoundTrip.Statement (.cmnShift cond rn amount shift rm) := by
  intro _
  delta encode decode
  dsimp only
  generalize hx : cond.toBits ++ 0b00010111#8 ++ rn ++ 0b0000#4 ++ amount ++ shift.toBits ++ 0b0#1 ++ rm = x
  have hf : x.getLsbD 4 = false ∧ x.getLsbD 7 = (amount).getLsbD 0 ∧ x.getLsbD 20 = true ∧ x.extractLsb' 0 4 = (rm) ∧
      x.extractLsb' 5 2 = (shift.toBits) ∧ x.extractLsb' 7 5 = (amount) ∧ x.extractLsb' 16 4 = (rn) ∧ x.extractLsb'
      21 4 = 0b1011#4 ∧ x.extractLsb' 23 2 = 0b10#2 ∧ x.extractLsb' 25 3 = 0b000#3 ∧ x.extractLsb' 28 4 =
      (cond.toBits) := by
    subst hx; and_intros <;> simp (disch := omega) only [append_field_low, append_field_high, append_bit_low, append_bit_high, field_all, ofBool_bit, Nat.reduceSub, Nat.sub_self] <;> rfl
  delta decodeArm decodeDpShift condOf
  simp [-BitVec.getLsbD_eq_getElem, hf]

theorem RoundTrip.cmnRegShift (cond : Cond) (rn rs : RegNum) (shift : ShiftType) (rm : RegNum) :
    RoundTrip.Statement (.cmnRegShift cond rn rs shift rm) := by
  intro _
  delta encode decode
  dsimp only
  generalize hx : cond.toBits ++ 0b00010111#8 ++ rn ++ 0b0000#4 ++ rs ++ 0b0#1 ++ shift.toBits ++ 0b1#1 ++ rm = x
  have hf : x.getLsbD 4 = true ∧ x.getLsbD 7 = false ∧ x.getLsbD 20 = true ∧ x.extractLsb' 0 4 = (rm) ∧ x.extractLsb' 5 2
      = (shift.toBits) ∧ x.extractLsb' 8 4 = (rs) ∧ x.extractLsb' 16 4 = (rn) ∧ x.extractLsb' 21 4 = 0b1011#4 ∧
      x.extractLsb' 23 2 = 0b10#2 ∧ x.extractLsb' 25 3 = 0b000#3 ∧ x.extractLsb' 28 4 = (cond.toBits) := by
    subst hx; and_intros <;> simp (disch := omega) only [append_field_low, append_field_high, append_bit_low, append_bit_high, field_all, ofBool_bit, Nat.reduceSub, Nat.sub_self] <;> rfl
  delta decodeArm decodeDpRegShift condOf
  simp [-BitVec.getLsbD_eq_getElem, hf]

theorem RoundTrip.orrImm (cond : Cond) (s : Bool) (rn rd : RegNum) (rot : BitVec 4) (imm8 : BitVec 8) :
    RoundTrip.Statement (.orrImm cond s rn rd rot imm8) := by
  intro _
  delta encode decode
  dsimp only
  generalize hx : cond.toBits ++ 0b0011100#7 ++ BitVec.ofBool s ++ rn ++ rd ++ rot ++ imm8 = x
  have hf : x.getLsbD 20 = s ∧ x.getLsbD 21 = false ∧ x.getLsbD 22 = false ∧ x.extractLsb' 0 8 = (imm8) ∧ x.extractLsb' 8
      4 = (rot) ∧ x.extractLsb' 12 4 = (rd) ∧ x.extractLsb' 16 4 = (rn) ∧ x.extractLsb' 21 4 = 0b1100#4 ∧
      x.extractLsb' 23 2 = 0b11#2 ∧ x.extractLsb' 25 3 = 0b001#3 ∧ x.extractLsb' 28 4 = (cond.toBits) := by
    subst hx; and_intros <;> simp (disch := omega) only [append_field_low, append_field_high, append_bit_low, append_bit_high, field_all, ofBool_bit, Nat.reduceSub, Nat.sub_self] <;> rfl
  delta decodeArm decodeDpImm condOf
  simp [-BitVec.getLsbD_eq_getElem, hf]

theorem RoundTrip.orrShift (cond : Cond) (s : Bool) (rn rd : RegNum) (amount : BitVec 5) (shift : ShiftType) (rm : RegNum) :
    RoundTrip.Statement (.orrShift cond s rn rd amount shift rm) := by
  intro _
  delta encode decode
  dsimp only
  generalize hx : cond.toBits ++ 0b0001100#7 ++ BitVec.ofBool s ++ rn ++ rd ++ amount ++ shift.toBits ++ 0b0#1 ++ rm = x
  have hf : x.getLsbD 4 = false ∧ x.getLsbD 7 = (amount).getLsbD 0 ∧ x.getLsbD 20 = s ∧ x.extractLsb' 0 4 = (rm) ∧
      x.extractLsb' 5 2 = (shift.toBits) ∧ x.extractLsb' 7 5 = (amount) ∧ x.extractLsb' 12 4 = (rd) ∧ x.extractLsb'
      16 4 = (rn) ∧ x.extractLsb' 21 4 = 0b1100#4 ∧ x.extractLsb' 23 2 = 0b11#2 ∧ x.extractLsb' 25 3 = 0b000#3 ∧
      x.extractLsb' 28 4 = (cond.toBits) := by
    subst hx; and_intros <;> simp (disch := omega) only [append_field_low, append_field_high, append_bit_low, append_bit_high, field_all, ofBool_bit, Nat.reduceSub, Nat.sub_self] <;> rfl
  delta decodeArm decodeDpShift condOf
  simp [-BitVec.getLsbD_eq_getElem, hf]

theorem RoundTrip.orrRegShift (cond : Cond) (s : Bool) (rn rd rs : RegNum) (shift : ShiftType) (rm : RegNum) :
    RoundTrip.Statement (.orrRegShift cond s rn rd rs shift rm) := by
  intro _
  delta encode decode
  dsimp only
  generalize hx : cond.toBits ++ 0b0001100#7 ++ BitVec.ofBool s ++ rn ++ rd ++ rs ++ 0b0#1 ++ shift.toBits ++ 0b1#1 ++ rm = x
  have hf : x.getLsbD 4 = true ∧ x.getLsbD 7 = false ∧ x.getLsbD 20 = s ∧ x.extractLsb' 0 4 = (rm) ∧ x.extractLsb' 5 2 =
      (shift.toBits) ∧ x.extractLsb' 8 4 = (rs) ∧ x.extractLsb' 12 4 = (rd) ∧ x.extractLsb' 16 4 = (rn) ∧
      x.extractLsb' 21 4 = 0b1100#4 ∧ x.extractLsb' 23 2 = 0b11#2 ∧ x.extractLsb' 25 3 = 0b000#3 ∧ x.extractLsb' 28
      4 = (cond.toBits) := by
    subst hx; and_intros <;> simp (disch := omega) only [append_field_low, append_field_high, append_bit_low, append_bit_high, field_all, ofBool_bit, Nat.reduceSub, Nat.sub_self] <;> rfl
  delta decodeArm decodeDpRegShift condOf
  simp [-BitVec.getLsbD_eq_getElem, hf]

theorem RoundTrip.movImm (cond : Cond) (s : Bool) (rd : RegNum) (rot : BitVec 4) (imm8 : BitVec 8) :
    RoundTrip.Statement (.movImm cond s rd rot imm8) := by
  intro _
  delta encode decode
  dsimp only
  generalize hx : cond.toBits ++ 0b0011101#7 ++ BitVec.ofBool s ++ 0b0000#4 ++ rd ++ rot ++ imm8 = x
  have hf : x.getLsbD 20 = s ∧ x.getLsbD 21 = true ∧ x.getLsbD 22 = false ∧ x.extractLsb' 0 8 = (imm8) ∧ x.extractLsb' 8 4
      = (rot) ∧ x.extractLsb' 12 4 = (rd) ∧ x.extractLsb' 16 4 = 0b0000#4 ∧ x.extractLsb' 21 4 = 0b1101#4 ∧
      x.extractLsb' 23 2 = 0b11#2 ∧ x.extractLsb' 25 3 = 0b001#3 ∧ x.extractLsb' 28 4 = (cond.toBits) := by
    subst hx; and_intros <;> simp (disch := omega) only [append_field_low, append_field_high, append_bit_low, append_bit_high, field_all, ofBool_bit, Nat.reduceSub, Nat.sub_self] <;> rfl
  delta decodeArm decodeDpImm condOf
  simp [-BitVec.getLsbD_eq_getElem, hf]

theorem RoundTrip.movShift (cond : Cond) (s : Bool) (rd : RegNum) (amount : BitVec 5) (shift : ShiftType) (rm : RegNum) :
    RoundTrip.Statement (.movShift cond s rd amount shift rm) := by
  intro _
  delta encode decode
  dsimp only
  generalize hx : cond.toBits ++ 0b0001101#7 ++ BitVec.ofBool s ++ 0b0000#4 ++ rd ++ amount ++ shift.toBits ++ 0b0#1 ++ rm = x
  have hf : x.getLsbD 4 = false ∧ x.getLsbD 7 = (amount).getLsbD 0 ∧ x.getLsbD 20 = s ∧ x.extractLsb' 0 4 = (rm) ∧
      x.extractLsb' 5 2 = (shift.toBits) ∧ x.extractLsb' 7 5 = (amount) ∧ x.extractLsb' 12 4 = (rd) ∧ x.extractLsb'
      21 4 = 0b1101#4 ∧ x.extractLsb' 23 2 = 0b11#2 ∧ x.extractLsb' 25 3 = 0b000#3 ∧ x.extractLsb' 28 4 =
      (cond.toBits) := by
    subst hx; and_intros <;> simp (disch := omega) only [append_field_low, append_field_high, append_bit_low, append_bit_high, field_all, ofBool_bit, Nat.reduceSub, Nat.sub_self] <;> rfl
  delta decodeArm decodeDpShift condOf
  simp [-BitVec.getLsbD_eq_getElem, hf]

theorem RoundTrip.movRegShift (cond : Cond) (s : Bool) (rd rs : RegNum) (shift : ShiftType) (rm : RegNum) :
    RoundTrip.Statement (.movRegShift cond s rd rs shift rm) := by
  intro _
  delta encode decode
  dsimp only
  generalize hx : cond.toBits ++ 0b0001101#7 ++ BitVec.ofBool s ++ 0b0000#4 ++ rd ++ rs ++ 0b0#1 ++ shift.toBits ++ 0b1#1 ++ rm = x
  have hf : x.getLsbD 4 = true ∧ x.getLsbD 7 = false ∧ x.getLsbD 20 = s ∧ x.extractLsb' 0 4 = (rm) ∧ x.extractLsb' 5 2 =
      (shift.toBits) ∧ x.extractLsb' 8 4 = (rs) ∧ x.extractLsb' 12 4 = (rd) ∧ x.extractLsb' 21 4 = 0b1101#4 ∧
      x.extractLsb' 23 2 = 0b11#2 ∧ x.extractLsb' 25 3 = 0b000#3 ∧ x.extractLsb' 28 4 = (cond.toBits) := by
    subst hx; and_intros <;> simp (disch := omega) only [append_field_low, append_field_high, append_bit_low, append_bit_high, field_all, ofBool_bit, Nat.reduceSub, Nat.sub_self] <;> rfl
  delta decodeArm decodeDpRegShift condOf
  simp [-BitVec.getLsbD_eq_getElem, hf]

theorem RoundTrip.bicImm (cond : Cond) (s : Bool) (rn rd : RegNum) (rot : BitVec 4) (imm8 : BitVec 8) :
    RoundTrip.Statement (.bicImm cond s rn rd rot imm8) := by
  intro _
  delta encode decode
  dsimp only
  generalize hx : cond.toBits ++ 0b0011110#7 ++ BitVec.ofBool s ++ rn ++ rd ++ rot ++ imm8 = x
  have hf : x.getLsbD 20 = s ∧ x.getLsbD 21 = false ∧ x.getLsbD 22 = true ∧ x.extractLsb' 0 8 = (imm8) ∧ x.extractLsb' 8 4
      = (rot) ∧ x.extractLsb' 12 4 = (rd) ∧ x.extractLsb' 16 4 = (rn) ∧ x.extractLsb' 21 4 = 0b1110#4 ∧
      x.extractLsb' 23 2 = 0b11#2 ∧ x.extractLsb' 25 3 = 0b001#3 ∧ x.extractLsb' 28 4 = (cond.toBits) := by
    subst hx; and_intros <;> simp (disch := omega) only [append_field_low, append_field_high, append_bit_low, append_bit_high, field_all, ofBool_bit, Nat.reduceSub, Nat.sub_self] <;> rfl
  delta decodeArm decodeDpImm condOf
  simp [-BitVec.getLsbD_eq_getElem, hf]

theorem RoundTrip.bicShift (cond : Cond) (s : Bool) (rn rd : RegNum) (amount : BitVec 5) (shift : ShiftType) (rm : RegNum) :
    RoundTrip.Statement (.bicShift cond s rn rd amount shift rm) := by
  intro _
  delta encode decode
  dsimp only
  generalize hx : cond.toBits ++ 0b0001110#7 ++ BitVec.ofBool s ++ rn ++ rd ++ amount ++ shift.toBits ++ 0b0#1 ++ rm = x
  have hf : x.getLsbD 4 = false ∧ x.getLsbD 7 = (amount).getLsbD 0 ∧ x.getLsbD 20 = s ∧ x.extractLsb' 0 4 = (rm) ∧
      x.extractLsb' 5 2 = (shift.toBits) ∧ x.extractLsb' 7 5 = (amount) ∧ x.extractLsb' 12 4 = (rd) ∧ x.extractLsb'
      16 4 = (rn) ∧ x.extractLsb' 21 4 = 0b1110#4 ∧ x.extractLsb' 23 2 = 0b11#2 ∧ x.extractLsb' 25 3 = 0b000#3 ∧
      x.extractLsb' 28 4 = (cond.toBits) := by
    subst hx; and_intros <;> simp (disch := omega) only [append_field_low, append_field_high, append_bit_low, append_bit_high, field_all, ofBool_bit, Nat.reduceSub, Nat.sub_self] <;> rfl
  delta decodeArm decodeDpShift condOf
  simp [-BitVec.getLsbD_eq_getElem, hf]

theorem RoundTrip.bicRegShift (cond : Cond) (s : Bool) (rn rd rs : RegNum) (shift : ShiftType) (rm : RegNum) :
    RoundTrip.Statement (.bicRegShift cond s rn rd rs shift rm) := by
  intro _
  delta encode decode
  dsimp only
  generalize hx : cond.toBits ++ 0b0001110#7 ++ BitVec.ofBool s ++ rn ++ rd ++ rs ++ 0b0#1 ++ shift.toBits ++ 0b1#1 ++ rm = x
  have hf : x.getLsbD 4 = true ∧ x.getLsbD 7 = false ∧ x.getLsbD 20 = s ∧ x.extractLsb' 0 4 = (rm) ∧ x.extractLsb' 5 2 =
      (shift.toBits) ∧ x.extractLsb' 8 4 = (rs) ∧ x.extractLsb' 12 4 = (rd) ∧ x.extractLsb' 16 4 = (rn) ∧
      x.extractLsb' 21 4 = 0b1110#4 ∧ x.extractLsb' 23 2 = 0b11#2 ∧ x.extractLsb' 25 3 = 0b000#3 ∧ x.extractLsb' 28
      4 = (cond.toBits) := by
    subst hx; and_intros <;> simp (disch := omega) only [append_field_low, append_field_high, append_bit_low, append_bit_high, field_all, ofBool_bit, Nat.reduceSub, Nat.sub_self] <;> rfl
  delta decodeArm decodeDpRegShift condOf
  simp [-BitVec.getLsbD_eq_getElem, hf]

theorem RoundTrip.mvnImm (cond : Cond) (s : Bool) (rd : RegNum) (rot : BitVec 4) (imm8 : BitVec 8) :
    RoundTrip.Statement (.mvnImm cond s rd rot imm8) := by
  intro _
  delta encode decode
  dsimp only
  generalize hx : cond.toBits ++ 0b0011111#7 ++ BitVec.ofBool s ++ 0b0000#4 ++ rd ++ rot ++ imm8 = x
  have hf : x.getLsbD 20 = s ∧ x.getLsbD 21 = true ∧ x.getLsbD 22 = true ∧ x.extractLsb' 0 8 = (imm8) ∧ x.extractLsb' 8 4
      = (rot) ∧ x.extractLsb' 12 4 = (rd) ∧ x.extractLsb' 16 4 = 0b0000#4 ∧ x.extractLsb' 21 4 = 0b1111#4 ∧
      x.extractLsb' 23 2 = 0b11#2 ∧ x.extractLsb' 25 3 = 0b001#3 ∧ x.extractLsb' 28 4 = (cond.toBits) := by
    subst hx; and_intros <;> simp (disch := omega) only [append_field_low, append_field_high, append_bit_low, append_bit_high, field_all, ofBool_bit, Nat.reduceSub, Nat.sub_self] <;> rfl
  delta decodeArm decodeDpImm condOf
  simp [-BitVec.getLsbD_eq_getElem, hf]

theorem RoundTrip.mvnShift (cond : Cond) (s : Bool) (rd : RegNum) (amount : BitVec 5) (shift : ShiftType) (rm : RegNum) :
    RoundTrip.Statement (.mvnShift cond s rd amount shift rm) := by
  intro _
  delta encode decode
  dsimp only
  generalize hx : cond.toBits ++ 0b0001111#7 ++ BitVec.ofBool s ++ 0b0000#4 ++ rd ++ amount ++ shift.toBits ++ 0b0#1 ++ rm = x
  have hf : x.getLsbD 4 = false ∧ x.getLsbD 7 = (amount).getLsbD 0 ∧ x.getLsbD 20 = s ∧ x.extractLsb' 0 4 = (rm) ∧
      x.extractLsb' 5 2 = (shift.toBits) ∧ x.extractLsb' 7 5 = (amount) ∧ x.extractLsb' 12 4 = (rd) ∧ x.extractLsb'
      21 4 = 0b1111#4 ∧ x.extractLsb' 23 2 = 0b11#2 ∧ x.extractLsb' 25 3 = 0b000#3 ∧ x.extractLsb' 28 4 =
      (cond.toBits) := by
    subst hx; and_intros <;> simp (disch := omega) only [append_field_low, append_field_high, append_bit_low, append_bit_high, field_all, ofBool_bit, Nat.reduceSub, Nat.sub_self] <;> rfl
  delta decodeArm decodeDpShift condOf
  simp [-BitVec.getLsbD_eq_getElem, hf]

theorem RoundTrip.mvnRegShift (cond : Cond) (s : Bool) (rd rs : RegNum) (shift : ShiftType) (rm : RegNum) :
    RoundTrip.Statement (.mvnRegShift cond s rd rs shift rm) := by
  intro _
  delta encode decode
  dsimp only
  generalize hx : cond.toBits ++ 0b0001111#7 ++ BitVec.ofBool s ++ 0b0000#4 ++ rd ++ rs ++ 0b0#1 ++ shift.toBits ++ 0b1#1 ++ rm = x
  have hf : x.getLsbD 4 = true ∧ x.getLsbD 7 = false ∧ x.getLsbD 20 = s ∧ x.extractLsb' 0 4 = (rm) ∧ x.extractLsb' 5 2 =
      (shift.toBits) ∧ x.extractLsb' 8 4 = (rs) ∧ x.extractLsb' 12 4 = (rd) ∧ x.extractLsb' 21 4 = 0b1111#4 ∧
      x.extractLsb' 23 2 = 0b11#2 ∧ x.extractLsb' 25 3 = 0b000#3 ∧ x.extractLsb' 28 4 = (cond.toBits) := by
    subst hx; and_intros <;> simp (disch := omega) only [append_field_low, append_field_high, append_bit_low, append_bit_high, field_all, ofBool_bit, Nat.reduceSub, Nat.sub_self] <;> rfl
  delta decodeArm decodeDpRegShift condOf
  simp [-BitVec.getLsbD_eq_getElem, hf]

theorem RoundTrip.mul (cond : Cond) (s : Bool) (rd rs rm : RegNum) :
    RoundTrip.Statement (.mul cond s rd rs rm) := by
  intro _
  delta encode decode
  dsimp only
  generalize hx : cond.toBits ++ 0b0000000#7 ++ BitVec.ofBool s ++ rd ++ 0b0000#4 ++ rs ++ 0b1001#4 ++ rm = x
  have hf : x.getLsbD 4 = true ∧ x.getLsbD 7 = true ∧ x.getLsbD 20 = s ∧ x.getLsbD 21 = false ∧ x.getLsbD 22 = false ∧
      x.getLsbD 24 = false ∧ x.extractLsb' 0 4 = (rm) ∧ x.extractLsb' 5 2 = 0b00#2 ∧ x.extractLsb' 8 4 = (rs) ∧
      x.extractLsb' 12 4 = 0b0000#4 ∧ x.extractLsb' 16 4 = (rd) ∧ x.extractLsb' 21 2 = 0b00#2 ∧ x.extractLsb' 22 3 =
      0b000#3 ∧ x.extractLsb' 23 2 = 0b00#2 ∧ x.extractLsb' 25 3 = 0b000#3 ∧ x.extractLsb' 28 4 = (cond.toBits) := by
    subst hx; and_intros <;> simp (disch := omega) only [append_field_low, append_field_high, append_bit_low, append_bit_high, field_all, ofBool_bit, Nat.reduceSub, Nat.sub_self] <;> rfl
  delta decodeArm decodeMultiplySwap condOf
  simp [-BitVec.getLsbD_eq_getElem, hf]

theorem RoundTrip.mla (cond : Cond) (s : Bool) (rd rn rs rm : RegNum) :
    RoundTrip.Statement (.mla cond s rd rn rs rm) := by
  intro _
  delta encode decode
  dsimp only
  generalize hx : cond.toBits ++ 0b0000001#7 ++ BitVec.ofBool s ++ rd ++ rn ++ rs ++ 0b1001#4 ++ rm = x
  have hf : x.getLsbD 4 = true ∧ x.getLsbD 7 = true ∧ x.getLsbD 20 = s ∧ x.getLsbD 21 = true ∧ x.getLsbD 22 = false ∧
      x.getLsbD 24 = false ∧ x.extractLsb' 0 4 = (rm) ∧ x.extractLsb' 5 2 = 0b00#2 ∧ x.extractLsb' 8 4 = (rs) ∧
      x.extractLsb' 12 4 = (rn) ∧ x.extractLsb' 16 4 = (rd) ∧ x.extractLsb' 21 2 = 0b01#2 ∧ x.extractLsb' 22 3 =
      0b000#3 ∧ x.extractLsb' 23 2 = 0b00#2 ∧ x.extractLsb' 25 3 = 0b000#3 ∧ x.extractLsb' 28 4 = (cond.toBits) := by
    subst hx; and_intros <;> simp (disch := omega) only [append_field_low, append_field_high, append_bit_low, append_bit_high, field_all, ofBool_bit, Nat.reduceSub, Nat.sub_self] <;> rfl
  delta decodeArm decodeMultiplySwap condOf
  simp [-BitVec.getLsbD_eq_getElem, hf]

theorem RoundTrip.umull (cond : Cond) (s : Bool) (rdHi rdLo rs rm : RegNum) :
    RoundTrip.Statement (.umull cond s rdHi rdLo rs rm) := by
  intro _
  delta encode decode
  dsimp only
  generalize hx : cond.toBits ++ 0b0000100#7 ++ BitVec.ofBool s ++ rdHi ++ rdLo ++ rs ++ 0b1001#4 ++ rm = x
  have hf : x.getLsbD 4 = true ∧ x.getLsbD 7 = true ∧ x.getLsbD 20 = s ∧ x.getLsbD 21 = false ∧ x.getLsbD 22 = false ∧
      x.getLsbD 24 = false ∧ x.extractLsb' 0 4 = (rm) ∧ x.extractLsb' 5 2 = 0b00#2 ∧ x.extractLsb' 8 4 = (rs) ∧
      x.extractLsb' 12 4 = (rdLo) ∧ x.extractLsb' 16 4 = (rdHi) ∧ x.extractLsb' 21 2 = 0b00#2 ∧ x.extractLsb' 22 3 =
      0b010#3 ∧ x.extractLsb' 23 2 = 0b01#2 ∧ x.extractLsb' 25 3 = 0b000#3 ∧ x.extractLsb' 28 4 = (cond.toBits) := by
    subst hx; and_intros <;> simp (disch := omega) only [append_field_low, append_field_high, append_bit_low, append_bit_high, field_all, ofBool_bit, Nat.reduceSub, Nat.sub_self] <;> rfl
  delta decodeArm decodeMultiplySwap condOf
  simp [-BitVec.getLsbD_eq_getElem, hf]

theorem RoundTrip.umlal (cond : Cond) (s : Bool) (rdHi rdLo rs rm : RegNum) :
    RoundTrip.Statement (.umlal cond s rdHi rdLo rs rm) := by
  intro _
  delta encode decode
  dsimp only
  generalize hx : cond.toBits ++ 0b0000101#7 ++ BitVec.ofBool s ++ rdHi ++ rdLo ++ rs ++ 0b1001#4 ++ rm = x
  have hf : x.getLsbD 4 = true ∧ x.getLsbD 7 = true ∧ x.getLsbD 20 = s ∧ x.getLsbD 21 = true ∧ x.getLsbD 22 = false ∧
      x.getLsbD 24 = false ∧ x.extractLsb' 0 4 = (rm) ∧ x.extractLsb' 5 2 = 0b00#2 ∧ x.extractLsb' 8 4 = (rs) ∧
      x.extractLsb' 12 4 = (rdLo) ∧ x.extractLsb' 16 4 = (rdHi) ∧ x.extractLsb' 21 2 = 0b01#2 ∧ x.extractLsb' 22 3 =
      0b010#3 ∧ x.extractLsb' 23 2 = 0b01#2 ∧ x.extractLsb' 25 3 = 0b000#3 ∧ x.extractLsb' 28 4 = (cond.toBits) := by
    subst hx; and_intros <;> simp (disch := omega) only [append_field_low, append_field_high, append_bit_low, append_bit_high, field_all, ofBool_bit, Nat.reduceSub, Nat.sub_self] <;> rfl
  delta decodeArm decodeMultiplySwap condOf
  simp [-BitVec.getLsbD_eq_getElem, hf]

theorem RoundTrip.smull (cond : Cond) (s : Bool) (rdHi rdLo rs rm : RegNum) :
    RoundTrip.Statement (.smull cond s rdHi rdLo rs rm) := by
  intro _
  delta encode decode
  dsimp only
  generalize hx : cond.toBits ++ 0b0000110#7 ++ BitVec.ofBool s ++ rdHi ++ rdLo ++ rs ++ 0b1001#4 ++ rm = x
  have hf : x.getLsbD 4 = true ∧ x.getLsbD 7 = true ∧ x.getLsbD 20 = s ∧ x.getLsbD 21 = false ∧ x.getLsbD 22 = true ∧
      x.getLsbD 24 = false ∧ x.extractLsb' 0 4 = (rm) ∧ x.extractLsb' 5 2 = 0b00#2 ∧ x.extractLsb' 8 4 = (rs) ∧
      x.extractLsb' 12 4 = (rdLo) ∧ x.extractLsb' 16 4 = (rdHi) ∧ x.extractLsb' 21 2 = 0b10#2 ∧ x.extractLsb' 22 3 =
      0b011#3 ∧ x.extractLsb' 23 2 = 0b01#2 ∧ x.extractLsb' 25 3 = 0b000#3 ∧ x.extractLsb' 28 4 = (cond.toBits) := by
    subst hx; and_intros <;> simp (disch := omega) only [append_field_low, append_field_high, append_bit_low, append_bit_high, field_all, ofBool_bit, Nat.reduceSub, Nat.sub_self] <;> rfl
  delta decodeArm decodeMultiplySwap condOf
  simp [-BitVec.getLsbD_eq_getElem, hf]

theorem RoundTrip.smlal (cond : Cond) (s : Bool) (rdHi rdLo rs rm : RegNum) :
    RoundTrip.Statement (.smlal cond s rdHi rdLo rs rm) := by
  intro _
  delta encode decode
  dsimp only
  generalize hx : cond.toBits ++ 0b0000111#7 ++ BitVec.ofBool s ++ rdHi ++ rdLo ++ rs ++ 0b1001#4 ++ rm = x
  have hf : x.getLsbD 4 = true ∧ x.getLsbD 7 = true ∧ x.getLsbD 20 = s ∧ x.getLsbD 21 = true ∧ x.getLsbD 22 = true ∧
      x.getLsbD 24 = false ∧ x.extractLsb' 0 4 = (rm) ∧ x.extractLsb' 5 2 = 0b00#2 ∧ x.extractLsb' 8 4 = (rs) ∧
      x.extractLsb' 12 4 = (rdLo) ∧ x.extractLsb' 16 4 = (rdHi) ∧ x.extractLsb' 21 2 = 0b11#2 ∧ x.extractLsb' 22 3 =
      0b011#3 ∧ x.extractLsb' 23 2 = 0b01#2 ∧ x.extractLsb' 25 3 = 0b000#3 ∧ x.extractLsb' 28 4 = (cond.toBits) := by
    subst hx; and_intros <;> simp (disch := omega) only [append_field_low, append_field_high, append_bit_low, append_bit_high, field_all, ofBool_bit, Nat.reduceSub, Nat.sub_self] <;> rfl
  delta decodeArm decodeMultiplySwap condOf
  simp [-BitVec.getLsbD_eq_getElem, hf]

theorem RoundTrip.mrs (cond : Cond) (r : Bool) (rd : RegNum) :
    RoundTrip.Statement (.mrs cond r rd) := by
  intro _
  delta encode decode
  dsimp only
  generalize hx : cond.toBits ++ 0b00010#5 ++ BitVec.ofBool r ++ 0b00#2 ++ 0b1111#4 ++ rd ++ 0b0000#4 ++ 0b0000#4 ++ 0b0000#4 = x
  have hf : x.getLsbD 4 = false ∧ x.getLsbD 7 = false ∧ x.getLsbD 20 = false ∧ x.getLsbD 21 = false ∧ x.getLsbD 22 = r ∧
      x.extractLsb' 0 4 = 0b0000#4 ∧ x.extractLsb' 4 4 = 0b0000#4 ∧ x.extractLsb' 5 2 = 0b00#2 ∧ x.extractLsb' 12 4
      = (rd) ∧ x.extractLsb' 16 4 = 0b1111#4 ∧ x.extractLsb' 23 2 = 0b10#2 ∧ x.extractLsb' 25 3 = 0b000#3 ∧
      x.extractLsb' 28 4 = (cond.toBits) := by
    subst hx; and_intros <;> simp (disch := omega) only [append_field_low, append_field_high, append_bit_low, append_bit_high, field_all, ofBool_bit, Nat.reduceSub, Nat.sub_self] <;> rfl
  delta decodeArm decodeStatus condOf
  simp [-BitVec.getLsbD_eq_getElem, hf]

theorem RoundTrip.msrImm (cond : Cond) (r : Bool) (mask rot : BitVec 4) (imm8 : BitVec 8) :
    RoundTrip.Statement (.msrImm cond r mask rot imm8) := by
  intro _
  delta encode decode
  dsimp only
  generalize hx : cond.toBits ++ 0b00110#5 ++ BitVec.ofBool r ++ 0b10#2 ++ mask ++ 0b1111#4 ++ rot ++ imm8 = x
  have hf : x.getLsbD 20 = false ∧ x.getLsbD 21 = true ∧ x.getLsbD 22 = r ∧ x.extractLsb' 0 8 = (imm8) ∧ x.extractLsb' 8 4
      = (rot) ∧ x.extractLsb' 16 4 = (mask) ∧ x.extractLsb' 23 2 = 0b10#2 ∧ x.extractLsb' 25 3 = 0b001#3 ∧
      x.extractLsb' 28 4 = (cond.toBits) := by
    subst hx; and_intros <;> simp (disch := omega) only [append_field_low, append_field_high, append_bit_low, append_bit_high, field_all, ofBool_bit, Nat.reduceSub, Nat.sub_self] <;> rfl
  delta decodeArm decodeArm condOf
  simp [-BitVec.getLsbD_eq_getElem, hf]

theorem RoundTrip.msrReg (cond : Cond) (r : Bool) (mask : BitVec 4) (rm : RegNum) :
    RoundTrip.Statement (.msrReg cond r mask rm) := by
  intro _
  delta encode decode
  dsimp only
  generalize hx : cond.toBits ++ 0b00010#5 ++ BitVec.ofBool r ++ 0b10#2 ++ mask ++ 0b1111#4 ++ 0b0000#4 ++ 0b0000#4 ++ rm = x
  have hf : x.getLsbD 4 = false ∧ x.getLsbD 7 = false ∧ x.getLsbD 20 = false ∧ x.getLsbD 21 = true ∧ x.getLsbD 22 = r ∧
      x.extractLsb' 0 4 = (rm) ∧ x.extractLsb' 4 4 = 0b0000#4 ∧ x.extractLsb' 5 2 = 0b00#2 ∧ x.extractLsb' 12 4 =
      0b1111#4 ∧ x.extractLsb' 16 4 = (mask) ∧ x.extractLsb' 23 2 = 0b10#2 ∧ x.extractLsb' 25 3 = 0b000#3 ∧
      x.extractLsb' 28 4 = (cond.toBits) := by
    subst hx; and_intros <;> simp (disch := omega) only [append_field_low, append_field_high, append_bit_low, append_bit_high, field_all, ofBool_bit, Nat.reduceSub, Nat.sub_self] <;> rfl
  delta decodeArm decodeStatus condOf
  simp [-BitVec.getLsbD_eq_getElem, hf]

theorem RoundTrip.bx (cond : Cond) (rm : RegNum) :
    RoundTrip.Statement (.bx cond rm) := by
  intro _
  delta encode decode
  dsimp only
  generalize hx : cond.toBits ++ 0b000100101111111111110001#24 ++ rm = x
  have hf : x.getLsbD 4 = true ∧ x.getLsbD 7 = false ∧ x.getLsbD 20 = false ∧ x.getLsbD 21 = true ∧ x.getLsbD 22 = false ∧
      x.extractLsb' 0 4 = (rm) ∧ x.extractLsb' 4 4 = 0b0001#4 ∧ x.extractLsb' 4 24 = 0b000100101111111111110001#24 ∧
      x.extractLsb' 5 2 = 0b00#2 ∧ x.extractLsb' 12 4 = 0b1111#4 ∧ x.extractLsb' 16 4 = 0b1111#4 ∧ x.extractLsb' 23
      2 = 0b10#2 ∧ x.extractLsb' 25 3 = 0b000#3 ∧ x.extractLsb' 28 4 = (cond.toBits) := by
    subst hx; and_intros <;> simp (disch := omega) only [append_field_low, append_field_high, append_bit_low, append_bit_high, field_all, ofBool_bit, Nat.reduceSub, Nat.sub_self] <;> rfl
  delta decodeArm decodeStatus condOf
  simp [-BitVec.getLsbD_eq_getElem, hf]

theorem RoundTrip.ldrImmPre (cond : Cond) (u w : Bool) (rn rd : RegNum) (imm12 : BitVec 12) :
    RoundTrip.Statement (.ldrImmPre cond u w rn rd imm12) := by
  intro _
  delta encode decode
  dsimp only
  generalize hx : cond.toBits ++ 0b0101#4 ++ BitVec.ofBool u ++ 0b0#1 ++ BitVec.ofBool w ++ 0b1#1 ++ rn ++ rd ++ imm12 = x
  have hf : x.getLsbD 21 = w ∧ x.getLsbD 23 = u ∧ x.getLsbD 24 = true ∧ x.extractLsb' 0 12 = (imm12) ∧ x.extractLsb' 12 4
      = (rd) ∧ x.extractLsb' 16 4 = (rn) ∧ x.extractLsb' 20 1 = 0b1#1 ∧ x.extractLsb' 22 1 = 0b0#1 ∧ x.extractLsb'
      25 3 = 0b010#3 ∧ x.extractLsb' 28 4 = (cond.toBits) := by
    subst hx; and_intros <;> simp (disch := omega) only [append_field_low, append_field_high, append_bit_low, append_bit_high, field_all, ofBool_bit, Nat.reduceSub, Nat.sub_self] <;> rfl
  delta decodeArm decodeLoadStoreImm condOf
  simp [-BitVec.getLsbD_eq_getElem, hf]

theorem RoundTrip.ldrImmPost (cond : Cond) (u : Bool) (rn rd : RegNum) (imm12 : BitVec 12) :
    RoundTrip.Statement (.ldrImmPost cond u rn rd imm12) := by
  intro _
  delta encode decode
  dsimp only
  generalize hx : cond.toBits ++ 0b0100#4 ++ BitVec.ofBool u ++ 0b001#3 ++ rn ++ rd ++ imm12 = x
  have hf : x.getLsbD 21 = false ∧ x.getLsbD 23 = u ∧ x.getLsbD 24 = false ∧ x.extractLsb' 0 12 = (imm12) ∧ x.extractLsb'
      12 4 = (rd) ∧ x.extractLsb' 16 4 = (rn) ∧ x.extractLsb' 20 1 = 0b1#1 ∧ x.extractLsb' 22 1 = 0b0#1 ∧
      x.extractLsb' 25 3 = 0b010#3 ∧ x.extractLsb' 28 4 = (cond.toBits) := by
    subst hx; and_intros <;> simp (disch := omega) only [append_field_low, append_field_high, append_bit_low, append_bit_high, field_all, ofBool_bit, Nat.reduceSub, Nat.sub_self] <;> rfl
  delta decodeArm decodeLoadStoreImm condOf
  simp [-BitVec.getLsbD_eq_getElem, hf]

theorem RoundTrip.ldrtImm (cond : Cond) (u : Bool) (rn rd : RegNum) (imm12 : BitVec 12) :
    RoundTrip.Statement (.ldrtImm cond u rn rd imm12) := by
  intro _
  delta encode decode
  dsimp only
  generalize hx : cond.toBits ++ 0b0100#4 ++ BitVec.ofBool u ++ 0b011#3 ++ rn ++ rd ++ imm12 = x
  have hf : x.getLsbD 21 = true ∧ x.getLsbD 23 = u ∧ x.getLsbD 24 = false ∧ x.extractLsb' 0 12 = (imm12) ∧ x.extractLsb'
      12 4 = (rd) ∧ x.extractLsb' 16 4 = (rn) ∧ x.extractLsb' 20 1 = 0b1#1 ∧ x.extractLsb' 22 1 = 0b0#1 ∧
      x.extractLsb' 25 3 = 0b010#3 ∧ x.extractLsb' 28 4 = (cond.toBits) := by
    subst hx; and_intros <;> simp (disch := omega) only [append_field_low, append_field_high, append_bit_low, append_bit_high, field_all, ofBool_bit, Nat.reduceSub, Nat.sub_self] <;> rfl
  delta decodeArm decodeLoadStoreImm condOf
  simp [-BitVec.getLsbD_eq_getElem, hf]

theorem RoundTrip.ldrRegPre (cond : Cond) (u w : Bool) (rn rd : RegNum) (amount : BitVec 5) (shift : ShiftType) (rm : RegNum) :
    RoundTrip.Statement (.ldrRegPre cond u w rn rd amount shift rm) := by
  intro _
  delta encode decode
  dsimp only
  generalize hx : cond.toBits ++ 0b0111#4 ++ BitVec.ofBool u ++ 0b0#1 ++ BitVec.ofBool w ++ 0b1#1 ++ rn ++ rd ++ amount ++ shift.toBits ++ 0b0#1 ++ rm = x
  have hf : x.getLsbD 4 = false ∧ x.getLsbD 21 = w ∧ x.getLsbD 23 = u ∧ x.getLsbD 24 = true ∧ x.extractLsb' 0 4 = (rm) ∧
      x.extractLsb' 5 2 = (shift.toBits) ∧ x.extractLsb' 7 5 = (amount) ∧ x.extractLsb' 12 4 = (rd) ∧ x.extractLsb'
      16 4 = (rn) ∧ x.extractLsb' 20 1 = 0b1#1 ∧ x.extractLsb' 22 1 = 0b0#1 ∧ x.extractLsb' 25 3 = 0b011#3 ∧
      x.extractLsb' 28 4 = (cond.toBits) := by
    subst hx; and_intros <;> simp (disch := omega) only [append_field_low, append_field_high, append_bit_low, append_bit_high, field_all, ofBool_bit, Nat.reduceSub, Nat.sub_self] <;> rfl
  delta decodeArm decodeLoadStoreReg condOf
  simp [-BitVec.getLsbD_eq_getElem, hf]

theorem RoundTrip.ldrRegPost (cond : Cond) (u : Bool) (rn rd : RegNum) (amount : BitVec 5) (shift : ShiftType) (rm : RegNum) :
    RoundTrip.Statement (.ldrRegPost cond u rn rd amount shift rm) := by
  intro _
  delta encode decode
  dsimp only
  generalize hx : cond.toBits ++ 0b0110#4 ++ BitVec.ofBool u ++ 0b001#3 ++ rn ++ rd ++ amount ++ shift.toBits ++ 0b0#1 ++ rm = x
  have hf : x.getLsbD 4 = false ∧ x.getLsbD 21 = false ∧ x.getLsbD 23 = u ∧ x.getLsbD 24 = false ∧ x.extractLsb' 0 4 =
      (rm) ∧ x.extractLsb' 5 2 = (shift.toBits) ∧ x.extractLsb' 7 5 = (amount) ∧ x.extractLsb' 12 4 = (rd) ∧
      x.extractLsb' 16 4 = (rn) ∧ x.extractLsb' 20 1 = 0b1#1 ∧ x.extractLsb' 22 1 = 0b0#1 ∧ x.extractLsb' 25 3 =
      0b011#3 ∧ x.extractLsb' 28 4 = (cond.toBits) := by
    subst hx; and_intros <;> simp (disch := omega) only [append_field_low, append_field_high, append_bit_low, append_bit_high, field_all, ofBool_bit, Nat.reduceSub, Nat.sub_self] <;> rfl
  delta decodeArm decodeLoadStoreReg condOf
  simp [-BitVec.getLsbD_eq_getElem, hf]

theorem RoundTrip.ldrtReg (cond : Cond) (u : Bool) (rn rd : RegNum) (amount : BitVec 5) (shift : ShiftType) (rm : RegNum) :
    RoundTrip.Statement (.ldrtReg cond u rn rd amount shift rm) := by
  intro _
  delta encode decode
  dsimp only
  generalize hx : cond.toBits ++ 0b0110#4 ++ BitVec.ofBool u ++ 0b011#3 ++ rn ++ rd ++ amount ++ shift.toBits ++ 0b0#1 ++ rm = x
  have hf : x.getLsbD 4 = false ∧ x.getLsbD 21 = true ∧ x.getLsbD 23 = u ∧ x.getLsbD 24 = false ∧ x.extractLsb' 0 4 = (rm)
      ∧ x.extractLsb' 5 2 = (shift.toBits) ∧ x.extractLsb' 7 5 = (amount) ∧ x.extractLsb' 12 4 = (rd) ∧
      x.extractLsb' 16 4 = (rn) ∧ x.extractLsb' 20 1 = 0b1#1 ∧ x.extractLsb' 22 1 = 0b0#1 ∧ x.extractLsb' 25 3 =
      0b011#3 ∧ x.extractLsb' 28 4 = (cond.toBits) := by
    subst hx; and_intros <;> simp (disch := omega) only [append_field_low, append_field_high, append_bit_low, append_bit_high, field_all, ofBool_bit, Nat.reduceSub, Nat.sub_self] <;> rfl
  delta decodeArm decodeLoadStoreReg condOf
  simp [-BitVec.getLsbD_eq_getElem, hf]

theorem RoundTrip.ldrbImmPre (cond : Cond) (u w : Bool) (rn rd : RegNum) (imm12 : BitVec 12) :
    RoundTrip.Statement (.ldrbImmPre cond u w rn rd imm12) := by
  intro _
  delta encode decode
  dsimp only
  generalize hx : cond.toBits ++ 0b0101#4 ++ BitVec.ofBool u ++ 0b1#1 ++ BitVec.ofBool w ++ 0b1#1 ++ rn ++ rd ++ imm12 = x
  have hf : x.getLsbD 21 = w ∧ x.getLsbD 23 = u ∧ x.getLsbD 24 = true ∧ x.extractLsb' 0 12 = (imm12) ∧ x.extractLsb' 12 4
      = (rd) ∧ x.extractLsb' 16 4 = (rn) ∧ x.extractLsb' 20 1 = 0b1#1 ∧ x.extractLsb' 22 1 = 0b1#1 ∧ x.extractLsb'
      25 3 = 0b010#3 ∧ x.extractLsb' 28 4 = (cond.toBits) := by
    subst hx; and_intros <;> simp (disch := omega) only [append_field_low, append_field_high, append_bit_low, append_bit_high, field_all, ofBool_bit, Nat.reduceSub, Nat.sub_self] <;> rfl
  delta decodeArm decodeLoadStoreImm condOf
  simp [-BitVec.getLsbD_eq_getElem, hf]

theorem RoundTrip.ldrbImmPost (cond : Cond) (u : Bool) (rn rd : RegNum) (imm12 : BitVec 12) :
    RoundTrip.Statement (.ldrbImmPost cond u rn rd imm12) := by
  intro _
  delta encode decode
  dsimp only
  generalize hx : cond.toBits ++ 0b0100#4 ++ BitVec.ofBool u ++ 0b101#3 ++ rn ++ rd ++ imm12 = x
  have hf : x.getLsbD 21 = false ∧ x.getLsbD 23 = u ∧ x.getLsbD 24 = false ∧ x.extractLsb' 0 12 = (imm12) ∧ x.extractLsb'
      12 4 = (rd) ∧ x.extractLsb' 16 4 = (rn) ∧ x.extractLsb' 20 1 = 0b1#1 ∧ x.extractLsb' 22 1 = 0b1#1 ∧
      x.extractLsb' 25 3 = 0b010#3 ∧ x.extractLsb' 28 4 = (cond.toBits) := by
    subst hx; and_intros <;> simp (disch := omega) only [append_field_low, append_field_high, append_bit_low, append_bit_high, field_all, ofBool_bit, Nat.reduceSub, Nat.sub_self] <;> rfl
  delta decodeArm decodeLoadStoreImm condOf
  simp [-BitVec.getLsbD_eq_getElem, hf]

theorem RoundTrip.ldrbtImm (cond : Cond) (u : Bool) (rn rd : RegNum) (imm12 : BitVec 12) :
    RoundTrip.Statement (.ldrbtImm cond u rn rd imm12) := by
  intro _
  delta encode decode
  dsimp only
  generalize hx : cond.toBits ++ 0b0100#4 ++ BitVec.ofBool u ++ 0b111#3 ++ rn ++ rd ++ imm12 = x
  have hf : x.getLsbD 21 = true ∧ x.getLsbD 23 = u ∧ x.getLsbD 24 = false ∧ x.extractLsb' 0 12 = (imm12) ∧ x.extractLsb'
      12 4 = (rd) ∧ x.extractLsb' 16 4 = (rn) ∧ x.extractLsb' 20 1 = 0b1#1 ∧ x.extractLsb' 22 1 = 0b1#1 ∧
      x.extractLsb' 25 3 = 0b010#3 ∧ x.extractLsb' 28 4 = (cond.toBits) := by
    subst hx; and_intros <;> simp (disch := omega) only [append_field_low, append_field_high, append_bit_low, append_bit_high, field_all, ofBool_bit, Nat.reduceSub, Nat.sub_self] <;> rfl
  delta decodeArm decodeLoadStoreImm condOf
  simp [-BitVec.getLsbD_eq_getElem, hf]

theorem RoundTrip.ldrbRegPre (cond : Cond) (u w : Bool) (rn rd : RegNum) (amount : BitVec 5) (shift : ShiftType) (rm : RegNum) :
    RoundTrip.Statement (.ldrbRegPre cond u w rn rd amount shift rm) := by
  intro _
  delta encode decode
  dsimp only
  generalize hx : cond.toBits ++ 0b0111#4 ++ BitVec.ofBool u ++ 0b1#1 ++ BitVec.ofBool w ++ 0b1#1 ++ rn ++ rd ++ amount ++ shift.toBits ++ 0b0#1 ++ rm = x
  have hf : x.getLsbD 4 = false ∧ x.getLsbD 21 = w ∧ x.getLsbD 23 = u ∧ x.getLsbD 24 = true ∧ x.extractLsb' 0 4 = (rm) ∧
      x.extractLsb' 5 2 = (shift.toBits) ∧ x.extractLsb' 7 5 = (amount) ∧ x.extractLsb' 12 4 = (rd) ∧ x.extractLsb'
      16 4 = (rn) ∧ x.extractLsb' 20 1 = 0b1#1 ∧ x.extractLsb' 22 1 = 0b1#1 ∧ x.extractLsb' 25 3 = 0b011#3 ∧
      x.extractLsb' 28 4 = (cond.toBits) := by
    subst hx; and_intros <;> simp (disch := omega) only [append_field_low, append_field_high, append_bit_low, append_bit_high, field_all, ofBool_bit, Nat.reduceSub, Nat.sub_self] <;> rfl
  delta decodeArm decodeLoadStoreReg condOf
  simp [-BitVec.getLsbD_eq_getElem, hf]

theorem RoundTrip.ldrbRegPost (cond : Cond) (u : Bool) (rn rd : RegNum) (amount : BitVec 5) (shift : ShiftType) (rm : RegNum) :
    RoundTrip.Statement (.ldrbRegPost cond u rn rd amount shift rm) := by
  intro _
  delta encode decode
  dsimp only
  generalize hx : cond.toBits ++ 0b0110#4 ++ BitVec.ofBool u ++ 0b101#3 ++ rn ++ rd ++ amount ++ shift.toBits ++ 0b0#1 ++ rm = x
  have hf : x.getLsbD 4 = false ∧ x.getLsbD 21 = false ∧ x.getLsbD 23 = u ∧ x.getLsbD 24 = false ∧ x.extractLsb' 0 4 =
      (rm) ∧ x.extractLsb' 5 2 = (shift.toBits) ∧ x.extractLsb' 7 5 = (amount) ∧ x.extractLsb' 12 4 = (rd) ∧
      x.extractLsb' 16 4 = (rn) ∧ x.extractLsb' 20 1 = 0b1#1 ∧ x.extractLsb' 22 1 = 0b1#1 ∧ x.extractLsb' 25 3 =
      0b011#3 ∧ x.extractLsb' 28 4 = (cond.toBits) := by
    subst hx; and_intros <;> simp (disch := omega) only [append_field_low, append_field_high, append_bit_low, append_bit_high, field_all, ofBool_bit, Nat.reduceSub, Nat.sub_self] <;> rfl
  delta decodeArm decodeLoadStoreReg condOf
  simp [-BitVec.getLsbD_eq_getElem, hf]

theorem RoundTrip.ldrbtReg (cond : Cond) (u : Bool) (rn rd : RegNum) (amount : BitVec 5) (shift : ShiftType) (rm : RegNum) :
    RoundTrip.Statement (.ldrbtReg cond u rn rd amount shift rm) := by
  intro _
  delta encode decode
  dsimp only
  generalize hx : cond.toBits ++ 0b0110#4 ++ BitVec.ofBool u ++ 0b111#3 ++ rn ++ rd ++ amount ++ shift.toBits ++ 0b0#1 ++ rm = x
  have hf : x.getLsbD 4 = false ∧ x.getLsbD 21 = true ∧ x.getLsbD 23 = u ∧ x.getLsbD 24 = false ∧ x.extractLsb' 0 4 = (rm)
      ∧ x.extractLsb' 5 2 = (shift.toBits) ∧ x.extractLsb' 7 5 = (amount) ∧ x.extractLsb' 12 4 = (rd) ∧
      x.extractLsb' 16 4 = (rn) ∧ x.extractLsb' 20 1 = 0b1#1 ∧ x.extractLsb' 22 1 = 0b1#1 ∧ x.extractLsb' 25 3 =
      0b011#3 ∧ x.extractLsb' 28 4 = (cond.toBits) := by
    subst hx; and_intros <;> simp (disch := omega) only [append_field_low, append_field_high, append_bit_low, append_bit_high, field_all, ofBool_bit, Nat.reduceSub, Nat.sub_self] <;> rfl
  delta decodeArm decodeLoadStoreReg condOf
  simp [-BitVec.getLsbD_eq_getElem, hf]

theorem RoundTrip.strImmPre (cond : Cond) (u w : Bool) (rn rd : RegNum) (imm12 : BitVec 12) :
    RoundTrip.Statement (.strImmPre cond u w rn rd imm12) := by
  intro _
  delta encode decode
  dsimp only
  generalize hx : cond.toBits ++ 0b0101#4 ++ BitVec.ofBool u ++ 0b0#1 ++ BitVec.ofBool w ++ 0b0#1 ++ rn ++ rd ++ imm12 = x
  have hf : x.getLsbD 21 = w ∧ x.getLsbD 23 = u ∧ x.getLsbD 24 = true ∧ x.extractLsb' 0 12 = (imm12) ∧ x.extractLsb' 12 4
      = (rd) ∧ x.extractLsb' 16 4 = (rn) ∧ x.extractLsb' 20 1 = 0b0#1 ∧ x.extractLsb' 22 1 = 0b0#1 ∧ x.extractLsb'
      25 3 = 0b010#3 ∧ x.extractLsb' 28 4 = (cond.toBits) := by
    subst hx; and_intros <;> simp (disch := omega) only [append_field_low, append_field_high, append_bit_low, append_bit_high, field_all, ofBool_bit, Nat.reduceSub, Nat.sub_self] <;> rfl
  delta decodeArm decodeLoadStoreImm condOf
  simp [-BitVec.getLsbD_eq_getElem, hf]

theorem RoundTrip.strImmPost (cond : Cond) (u : Bool) (rn rd : RegNum) (imm12 : BitVec 12) :
    RoundTrip.Statement (.strImmPost cond u rn rd imm12) := by
  intro _
  delta encode decode
  dsimp only
  generalize hx : cond.toBits ++ 0b0100#4 ++ BitVec.ofBool u ++ 0b000#3 ++ rn ++ rd ++ imm12 = x
  have hf : x.getLsbD 21 = false ∧ x.getLsbD 23 = u ∧ x.getLsbD 24 = false ∧ x.extractLsb' 0 12 = (imm12) ∧ x.extractLsb'
      12 4 = (rd) ∧ x.extractLsb' 16 4 = (rn) ∧ x.extractLsb' 20 1 = 0b0#1 ∧ x.extractLsb' 22 1 = 0b0#1 ∧
      x.extractLsb' 25 3 = 0b010#3 ∧ x.extractLsb' 28 4 = (cond.toBits) := by
    subst hx; and_intros <;> simp (disch := omega) only [append_field_low, append_field_high, append_bit_low, append_bit_high, field_all, ofBool_bit, Nat.reduceSub, Nat.sub_self] <;> rfl
  delta decodeArm decodeLoadStoreImm condOf
  simp [-BitVec.getLsbD_eq_getElem, hf]

theorem RoundTrip.strtImm (cond : Cond) (u : Bool) (rn rd : RegNum) (imm12 : BitVec 12) :
    RoundTrip.Statement (.strtImm cond u rn rd imm12) := by
  intro _
  delta encode decode
  dsimp only
  generalize hx : cond.toBits ++ 0b0100#4 ++ BitVec.ofBool u ++ 0b010#3 ++ rn ++ rd ++ imm12 = x
  have hf : x.getLsbD 21 = true ∧ x.getLsbD 23 = u ∧ x.getLsbD 24 = false ∧ x.extractLsb' 0 12 = (imm12) ∧ x.extractLsb'
      12 4 = (rd) ∧ x.extractLsb' 16 4 = (rn) ∧ x.extractLsb' 20 1 = 0b0#1 ∧ x.extractLsb' 22 1 = 0b0#1 ∧
      x.extractLsb' 25 3 = 0b010#3 ∧ x.extractLsb' 28 4 = (cond.toBits) := by
    subst hx; and_intros <;> simp (disch := omega) only [append_field_low, append_field_high, append_bit_low, append_bit_high, field_all, ofBool_bit, Nat.reduceSub, Nat.sub_self] <;> rfl
  delta decodeArm decodeLoadStoreImm condOf
  simp [-BitVec.getLsbD_eq_getElem, hf]

theorem RoundTrip.strRegPre (cond : Cond) (u w : Bool) (rn rd : RegNum) (amount : BitVec 5) (shift : ShiftType) (rm : RegNum) :
    RoundTrip.Statement (.strRegPre cond u w rn rd amount shift rm) := by
  intro _
  delta encode decode
  dsimp only
  generalize hx : cond.toBits ++ 0b0111#4 ++ BitVec.ofBool u ++ 0b0#1 ++ BitVec.ofBool w ++ 0b0#1 ++ rn ++ rd ++ amount ++ shift.toBits ++ 0b0#1 ++ rm = x
  have hf : x.getLsbD 4 = false ∧ x.getLsbD 21 = w ∧ x.getLsbD 23 = u ∧ x.getLsbD 24 = true ∧ x.extractLsb' 0 4 = (rm) ∧
      x.extractLsb' 5 2 = (shift.toBits) ∧ x.extractLsb' 7 5 = (amount) ∧ x.extractLsb' 12 4 = (rd) ∧ x.extractLsb'
      16 4 = (rn) ∧ x.extractLsb' 20 1 = 0b0#1 ∧ x.extractLsb' 22 1 = 0b0#1 ∧ x.extractLsb' 25 3 = 0b011#3 ∧
      x.extractLsb' 28 4 = (cond.toBits) := by
    subst hx; and_intros <;> simp (disch := omega) only [append_field_low, append_field_high, append_bit_low, append_bit_high, field_all, ofBool_bit, Nat.reduceSub, Nat.sub_self] <;> rfl
  delta decodeArm decodeLoadStoreReg condOf
  simp [-BitVec.getLsbD_eq_getElem, hf]

theorem RoundTrip.strRegPost (cond : Cond) (u : Bool) (rn rd : RegNum) (amount : BitVec 5) (shift : ShiftType) (rm : RegNum) :
    RoundTrip.Statement (.strRegPost cond u rn rd amount shift rm) := by
  intro _
  delta encode decode
  dsimp only
  generalize hx : cond.toBits ++ 0b0110#4 ++ BitVec.ofBool u ++ 0b000#3 ++ rn ++ rd ++ amount ++ shift.toBits ++ 0b0#1 ++ rm = x
  have hf : x.getLsbD 4 = false ∧ x.getLsbD 21 = false ∧ x.getLsbD 23 = u ∧ x.getLsbD 24 = false ∧ x.extractLsb' 0 4 =
      (rm) ∧ x.extractLsb' 5 2 = (shift.toBits) ∧ x.extractLsb' 7 5 = (amount) ∧ x.extractLsb' 12 4 = (rd) ∧
      x.extractLsb' 16 4 = (rn) ∧ x.extractLsb' 20 1 = 0b0#1 ∧ x.extractLsb' 22 1 = 0b0#1 ∧ x.extractLsb' 25 3 =
      0b011#3 ∧ x.extractLsb' 28 4 = (cond.toBits) := by
    subst hx; and_intros <;> simp (disch := omega) only [append_field_low, append_field_high, append_bit_low, append_bit_high, field_all, ofBool_bit, Nat.reduceSub, Nat.sub_self] <;> rfl
  delta decodeArm decodeLoadStoreReg condOf
  simp [-BitVec.getLsbD_eq_getElem, hf]

theorem RoundTrip.strtReg (cond : Cond) (u : Bool) (rn rd : RegNum) (amount : BitVec 5) (shift : ShiftType) (rm : RegNum) :
    RoundTrip.Statement (.strtReg cond u rn rd amount shift rm) := by
  intro _
  delta encode decode
  dsimp only
  generalize hx : cond.toBits ++ 0b0110#4 ++ BitVec.ofBool u ++ 0b010#3 ++ rn ++ rd ++ amount ++ shift.toBits ++ 0b0#1 ++ rm = x
  have hf : x.getLsbD 4 = false ∧ x.getLsbD 21 = true ∧ x.getLsbD 23 = u ∧ x.getLsbD 24 = false ∧ x.extractLsb' 0 4 = (rm)
      ∧ x.extractLsb' 5 2 = (shift.toBits) ∧ x.extractLsb' 7 5 = (amount) ∧ x.extractLsb' 12 4 = (rd) ∧
      x.extractLsb' 16 4 = (rn) ∧ x.extractLsb' 20 1 = 0b0#1 ∧ x.extractLsb' 22 1 = 0b0#1 ∧ x.extractLsb' 25 3 =
      0b011#3 ∧ x.extractLsb' 28 4 = (cond.toBits) := by
    subst hx; and_intros <;> simp (disch := omega) only [append_field_low, append_field_high, append_bit_low, append_bit_high, field_all, ofBool_bit, Nat.reduceSub, Nat.sub_self] <;> rfl
  delta decodeArm decodeLoadStoreReg condOf
  simp [-BitVec.getLsbD_eq_getElem, hf]

theorem RoundTrip.strbImmPre (cond : Cond) (u w : Bool) (rn rd : RegNum) (imm12 : BitVec 12) :
    RoundTrip.Statement (.strbImmPre cond u w rn rd imm12) := by
  intro _
  delta encode decode
  dsimp only
  generalize hx : cond.toBits ++ 0b0101#4 ++ BitVec.ofBool u ++ 0b1#1 ++ BitVec.ofBool w ++ 0b0#1 ++ rn ++ rd ++ imm12 = x
  have hf : x.getLsbD 21 = w ∧ x.getLsbD 23 = u ∧ x.getLsbD 24 = true ∧ x.extractLsb' 0 12 = (imm12) ∧ x.extractLsb' 12 4
      = (rd) ∧ x.extractLsb' 16 4 = (rn) ∧ x.extractLsb' 20 1 = 0b0#1 ∧ x.extractLsb' 22 1 = 0b1#1 ∧ x.extractLsb'
      25 3 = 0b010#3 ∧ x.extractLsb' 28 4 = (cond.toBits) := by
    subst hx; and_intros <;> simp (disch := omega) only [append_field_low, append_field_high, append_bit_low, append_bit_high, field_all, ofBool_bit, Nat.reduceSub, Nat.sub_self] <;> rfl
  delta decodeArm decodeLoadStoreImm condOf
  simp [-BitVec.getLsbD_eq_getElem, hf]

theorem RoundTrip.strbImmPost (cond : Cond) (u : Bool) (rn rd : RegNum) (imm12 : BitVec 12) :
    RoundTrip.Statement (.strbImmPost cond u rn rd imm12) := by
  intro _
  delta encode decode
  dsimp only
  generalize hx : cond.toBits ++ 0b0100#4 ++ BitVec.ofBool u ++ 0b100#3 ++ rn ++ rd ++ imm12 = x
  have hf : x.getLsbD 21 = false ∧ x.getLsbD 23 = u ∧ x.getLsbD 24 = false ∧ x.extractLsb' 0 12 = (imm12) ∧ x.extractLsb'
      12 4 = (rd) ∧ x.extractLsb' 16 4 = (rn) ∧ x.extractLsb' 20 1 = 0b0#1 ∧ x.extractLsb' 22 1 = 0b1#1 ∧
      x.extractLsb' 25 3 = 0b010#3 ∧ x.extractLsb' 28 4 = (cond.toBits) := by
    subst hx; and_intros <;> simp (disch := omega) only [append_field_low, append_field_high, append_bit_low, append_bit_high, field_all, ofBool_bit, Nat.reduceSub, Nat.sub_self] <;> rfl
  delta decodeArm decodeLoadStoreImm condOf
  simp [-BitVec.getLsbD_eq_getElem, hf]

theorem RoundTrip.strbtImm (cond : Cond) (u : Bool) (rn rd : RegNum) (imm12 : BitVec 12) :
    RoundTrip.Statement (.strbtImm cond u rn rd imm12) := by
  intro _
  delta encode decode
  dsimp only
  generalize hx : cond.toBits ++ 0b0100#4 ++ BitVec.ofBool u ++ 0b110#3 ++ rn ++ rd ++ imm12 = x
  have hf : x.getLsbD 21 = true ∧ x.getLsbD 23 = u ∧ x.getLsbD 24 = false ∧ x.extractLsb' 0 12 = (imm12) ∧ x.extractLsb'
      12 4 = (rd) ∧ x.extractLsb' 16 4 = (rn) ∧ x.extractLsb' 20 1 = 0b0#1 ∧ x.extractLsb' 22 1 = 0b1#1 ∧
      x.extractLsb' 25 3 = 0b010#3 ∧ x.extractLsb' 28 4 = (cond.toBits) := by
    subst hx; and_intros <;> simp (disch := omega) only [append_field_low, append_field_high, append_bit_low, append_bit_high, field_all, ofBool_bit, Nat.reduceSub, Nat.sub_self] <;> rfl
  delta decodeArm decodeLoadStoreImm condOf
  simp [-BitVec.getLsbD_eq_getElem, hf]

theorem RoundTrip.strbRegPre (cond : Cond) (u w : Bool) (rn rd : RegNum) (amount : BitVec 5) (shift : ShiftType) (rm : RegNum) :
    RoundTrip.Statement (.strbRegPre cond u w rn rd amount shift rm) := by
  intro _
  delta encode decode
  dsimp only
  generalize hx : cond.toBits ++ 0b0111#4 ++ BitVec.ofBool u ++ 0b1#1 ++ BitVec.ofBool w ++ 0b0#1 ++ rn ++ rd ++ amount ++ shift.toBits ++ 0b0#1 ++ rm = x
  have hf : x.getLsbD 4 = false ∧ x.getLsbD 21 = w ∧ x.getLsbD 23 = u ∧ x.getLsbD 24 = true ∧ x.extractLsb' 0 4 = (rm) ∧
      x.extractLsb' 5 2 = (shift.toBits) ∧ x.extractLsb' 7 5 = (amount) ∧ x.extractLsb' 12 4 = (rd) ∧ x.extractLsb'
      16 4 = (rn) ∧ x.extractLsb' 20 1 = 0b0#1 ∧ x.extractLsb' 22 1 = 0b1#1 ∧ x.extractLsb' 25 3 = 0b011#3 ∧
      x.extractLsb' 28 4 = (cond.toBits) := by
    subst hx; and_intros <;> simp (disch := omega) only [append_field_low, append_field_high, append_bit_low, append_bit_high, field_all, ofBool_bit, Nat.reduceSub, Nat.sub_self] <;> rfl
  delta decodeArm decodeLoadStoreReg condOf
  simp [-BitVec.getLsbD_eq_getElem, hf]

theorem RoundTrip.strbRegPost (cond : Cond) (u : Bool) (rn rd : RegNum) (amount : BitVec 5) (shift : ShiftType) (rm : RegNum) :
    RoundTrip.Statement (.strbRegPost cond u rn rd amount shift rm) := by
  intro _
  delta encode decode
  dsimp only
  generalize hx : cond.toBits ++ 0b0110#4 ++ BitVec.ofBool u ++ 0b100#3 ++ rn ++ rd ++ amount ++ shift.toBits ++ 0b0#1 ++ rm = x
  have hf : x.getLsbD 4 = false ∧ x.getLsbD 21 = false ∧ x.getLsbD 23 = u ∧ x.getLsbD 24 = false ∧ x.extractLsb' 0 4 =
      (rm) ∧ x.extractLsb' 5 2 = (shift.toBits) ∧ x.extractLsb' 7 5 = (amount) ∧ x.extractLsb' 12 4 = (rd) ∧
      x.extractLsb' 16 4 = (rn) ∧ x.extractLsb' 20 1 = 0b0#1 ∧ x.extractLsb' 22 1 = 0b1#1 ∧ x.extractLsb' 25 3 =
      0b011#3 ∧ x.extractLsb' 28 4 = (cond.toBits) := by
    subst hx; and_intros <;> simp (disch := omega) only [append_field_low, append_field_high, append_bit_low, append_bit_high, field_all, ofBool_bit, Nat.reduceSub, Nat.sub_self] <;> rfl
  delta decodeArm decodeLoadStoreReg condOf
  simp [-BitVec.getLsbD_eq_getElem, hf]

theorem RoundTrip.strbtReg (cond : Cond) (u : Bool) (rn rd : RegNum) (amount : BitVec 5) (shift : ShiftType) (rm : RegNum) :
    RoundTrip.Statement (.strbtReg cond u rn rd amount shift rm) := by
  intro _
  delta encode decode
  dsimp only
  generalize hx : cond.toBits ++ 0b0110#4 ++ BitVec.ofBool u ++ 0b110#3 ++ rn ++ rd ++ amount ++ shift.toBits ++ 0b0#1 ++ rm = x
  have hf : x.getLsbD 4 = false ∧ x.getLsbD 21 = true ∧ x.getLsbD 23 = u ∧ x.getLsbD 24 = false ∧ x.extractLsb' 0 4 = (rm)
      ∧ x.extractLsb' 5 2 = (shift.toBits) ∧ x.extractLsb' 7 5 = (amount) ∧ x.extractLsb' 12 4 = (rd) ∧
      x.extractLsb' 16 4 = (rn) ∧ x.extractLsb' 20 1 = 0b0#1 ∧ x.extractLsb' 22 1 = 0b1#1 ∧ x.extractLsb' 25 3 =
      0b011#3 ∧ x.extractLsb' 28 4 = (cond.toBits) := by
    subst hx; and_intros <;> simp (disch := omega) only [append_field_low, append_field_high, append_bit_low, append_bit_high, field_all, ofBool_bit, Nat.reduceSub, Nat.sub_self] <;> rfl
  delta decodeArm decodeLoadStoreReg condOf
  simp [-BitVec.getLsbD_eq_getElem, hf]

theorem RoundTrip.ldrhImm (cond : Cond) (p u w : Bool) (rn rd : RegNum) (immHi immLo : BitVec 4) :
    RoundTrip.Statement (.ldrhImm cond p u w rn rd immHi immLo) := by
  intro _
  delta encode decode
  dsimp only
  generalize hx : cond.toBits ++ 0b000#3 ++ BitVec.ofBool p ++ BitVec.ofBool u ++ 0b1#1 ++ BitVec.ofBool w ++ 0b1#1 ++ rn ++ rd ++ immHi ++ 0b1011#4 ++ immLo = x
  have hf : x.getLsbD 4 = true ∧ x.getLsbD 7 = true ∧ x.getLsbD 20 = true ∧ x.getLsbD 21 = w ∧ x.getLsbD 22 = true ∧
      x.getLsbD 23 = u ∧ x.getLsbD 24 = p ∧ x.extractLsb' 0 4 = (immLo) ∧ x.extractLsb' 5 2 = 0b01#2 ∧ x.extractLsb'
      8 4 = (immHi) ∧ x.extractLsb' 12 4 = (rd) ∧ x.extractLsb' 16 4 = (rn) ∧ x.extractLsb' 25 3 = 0b000#3 ∧
      x.extractLsb' 28 4 = (cond.toBits) := by
    subst hx; and_intros <;> simp (disch := omega) only [append_field_low, append_field_high, append_bit_low, append_bit_high, field_all, ofBool_bit, Nat.reduceSub, Nat.sub_self] <;> rfl
  delta decodeArm decodeHalfword condOf
  simp [-BitVec.getLsbD_eq_getElem, hf]

theorem RoundTrip.ldrhReg (cond : Cond) (p u w : Bool) (rn rd rm : RegNum) :
    RoundTrip.Statement (.ldrhReg cond p u w rn rd rm) := by
  intro _
  delta encode decode
  dsimp only
  generalize hx : cond.toBits ++ 0b000#3 ++ BitVec.ofBool p ++ BitVec.ofBool u ++ 0b0#1 ++ BitVec.ofBool w ++ 0b1#1 ++ rn ++ rd ++ 0b0000#4 ++ 0b1011#4 ++ rm = x
  have hf : x.getLsbD 4 = true ∧ x.getLsbD 7 = true ∧ x.getLsbD 20 = true ∧ x.getLsbD 21 = w ∧ x.getLsbD 22 = false ∧
      x.getLsbD 23 = u ∧ x.getLsbD 24 = p ∧ x.extractLsb' 0 4 = (rm) ∧ x.extractLsb' 5 2 = 0b01#2 ∧ x.extractLsb' 8
      4 = 0b0000#4 ∧ x.extractLsb' 12 4 = (rd) ∧ x.extractLsb' 16 4 = (rn) ∧ x.extractLsb' 25 3 = 0b000#3 ∧
      x.extractLsb' 28 4 = (cond.toBits) := by
    subst hx; and_intros <;> simp (disch := omega) only [append_field_low, append_field_high, append_bit_low, append_bit_high, field_all, ofBool_bit, Nat.reduceSub, Nat.sub_self] <;> rfl
  delta decodeArm decodeHalfword condOf
  simp [-BitVec.getLsbD_eq_getElem, hf]

theorem RoundTrip.ldrsbImm (cond : Cond) (p u w : Bool) (rn rd : RegNum) (immHi immLo : BitVec 4) :
    RoundTrip.Statement (.ldrsbImm cond p u w rn rd immHi immLo) := by
  intro _
  delta encode decode
  dsimp only
  generalize hx : cond.toBits ++ 0b000#3 ++ BitVec.ofBool p ++ BitVec.ofBool u ++ 0b1#1 ++ BitVec.ofBool w ++ 0b1#1 ++ rn ++ rd ++ immHi ++ 0b1101#4 ++ immLo = x
  have hf : x.getLsbD 4 = true ∧ x.getLsbD 7 = true ∧ x.getLsbD 20 = true ∧ x.getLsbD 21 = w ∧ x.getLsbD 22 = true ∧
      x.getLsbD 23 = u ∧ x.getLsbD 24 = p ∧ x.extractLsb' 0 4 = (immLo) ∧ x.extractLsb' 5 2 = 0b10#2 ∧ x.extractLsb'
      8 4 = (immHi) ∧ x.extractLsb' 12 4 = (rd) ∧ x.extractLsb' 16 4 = (rn) ∧ x.extractLsb' 25 3 = 0b000#3 ∧
      x.extractLsb' 28 4 = (cond.toBits) := by
    subst hx; and_intros <;> simp (disch := omega) only [append_field_low, append_field_high, append_bit_low, append_bit_high, field_all, ofBool_bit, Nat.reduceSub, Nat.sub_self] <;> rfl
  delta decodeArm decodeHalfword condOf
  simp [-BitVec.getLsbD_eq_getElem, hf]

theorem RoundTrip.ldrsbReg (cond : Cond) (p u w : Bool) (rn rd rm : RegNum) :
    RoundTrip.Statement (.ldrsbReg cond p u w rn rd rm) := by
  intro _
  delta encode decode
  dsimp only
  generalize hx : cond.toBits ++ 0b000#3 ++ BitVec.ofBool p ++ BitVec.ofBool u ++ 0b0#1 ++ BitVec.ofBool w ++ 0b1#1 ++ rn ++ rd ++ 0b0000#4 ++ 0b1101#4 ++ rm = x
  have hf : x.getLsbD 4 = true ∧ x.getLsbD 7 = true ∧ x.getLsbD 20 = true ∧ x.getLsbD 21 = w ∧ x.getLsbD 22 = false ∧
      x.getLsbD 23 = u ∧ x.getLsbD 24 = p ∧ x.extractLsb' 0 4 = (rm) ∧ x.extractLsb' 5 2 = 0b10#2 ∧ x.extractLsb' 8
      4 = 0b0000#4 ∧ x.extractLsb' 12 4 = (rd) ∧ x.extractLsb' 16 4 = (rn) ∧ x.extractLsb' 25 3 = 0b000#3 ∧
      x.extractLsb' 28 4 = (cond.toBits) := by
    subst hx; and_intros <;> simp (disch := omega) only [append_field_low, append_field_high, append_bit_low, append_bit_high, field_all, ofBool_bit, Nat.reduceSub, Nat.sub_self] <;> rfl
  delta decodeArm decodeHalfword condOf
  simp [-BitVec.getLsbD_eq_getElem, hf]

theorem RoundTrip.ldrshImm (cond : Cond) (p u w : Bool) (rn rd : RegNum) (immHi immLo : BitVec 4) :
    RoundTrip.Statement (.ldrshImm cond p u w rn rd immHi immLo) := by
  intro _
  delta encode decode
  dsimp only
  generalize hx : cond.toBits ++ 0b000#3 ++ BitVec.ofBool p ++ BitVec.ofBool u ++ 0b1#1 ++ BitVec.ofBool w ++ 0b1#1 ++ rn ++ rd ++ immHi ++ 0b1111#4 ++ immLo = x
  have hf : x.getLsbD 4 = true ∧ x.getLsbD 7 = true ∧ x.getLsbD 20 = true ∧ x.getLsbD 21 = w ∧ x.getLsbD 22 = true ∧
      x.getLsbD 23 = u ∧ x.getLsbD 24 = p ∧ x.extractLsb' 0 4 = (immLo) ∧ x.extractLsb' 5 2 = 0b11#2 ∧ x.extractLsb'
      8 4 = (immHi) ∧ x.extractLsb' 12 4 = (rd) ∧ x.extractLsb' 16 4 = (rn) ∧ x.extractLsb' 25 3 = 0b000#3 ∧
      x.extractLsb' 28 4 = (cond.toBits) := by
    subst hx; and_intros <;> simp (disch := omega) only [append_field_low, append_field_high, append_bit_low, append_bit_high, field_all, ofBool_bit, Nat.reduceSub, Nat.sub_self] <;> rfl
  delta decodeArm decodeHalfword condOf
  simp [-BitVec.getLsbD_eq_getElem, hf]

theorem RoundTrip.ldrshReg (cond : Cond) (p u w : Bool) (rn rd rm : RegNum) :
    RoundTrip.Statement (.ldrshReg cond p u w rn rd rm) := by
  intro _
  delta encode decode
  dsimp only
  generalize hx : cond.toBits ++ 0b000#3 ++ BitVec.ofBool p ++ BitVec.ofBool u ++ 0b0#1 ++ BitVec.ofBool w ++ 0b1#1 ++ rn ++ rd ++ 0b0000#4 ++ 0b1111#4 ++ rm = x
  have hf : x.getLsbD 4 = true ∧ x.getLsbD 7 = true ∧ x.getLsbD 20 = true ∧ x.getLsbD 21 = w ∧ x.getLsbD 22 = false ∧
      x.getLsbD 23 = u ∧ x.getLsbD 24 = p ∧ x.extractLsb' 0 4 = (rm) ∧ x.extractLsb' 5 2 = 0b11#2 ∧ x.extractLsb' 8
      4 = 0b0000#4 ∧ x.extractLsb' 12 4 = (rd) ∧ x.extractLsb' 16 4 = (rn) ∧ x.extractLsb' 25 3 = 0b000#3 ∧
      x.extractLsb' 28 4 = (cond.toBits) := by
    subst hx; and_intros <;> simp (disch := omega) only [append_field_low, append_field_high, append_bit_low, append_bit_high, field_all, ofBool_bit, Nat.reduceSub, Nat.sub_self] <;> rfl
  delta decodeArm decodeHalfword condOf
  simp [-BitVec.getLsbD_eq_getElem, hf]

theorem RoundTrip.strhImm (cond : Cond) (p u w : Bool) (rn rd : RegNum) (immHi immLo : BitVec 4) :
    RoundTrip.Statement (.strhImm cond p u w rn rd immHi immLo) := by
  intro _
  delta encode decode
  dsimp only
  generalize hx : cond.toBits ++ 0b000#3 ++ BitVec.ofBool p ++ BitVec.ofBool u ++ 0b1#1 ++ BitVec.ofBool w ++ 0b0#1 ++ rn ++ rd ++ immHi ++ 0b1011#4 ++ immLo = x
  have hf : x.getLsbD 4 = true ∧ x.getLsbD 7 = true ∧ x.getLsbD 20 = false ∧ x.getLsbD 21 = w ∧ x.getLsbD 22 = true ∧
      x.getLsbD 23 = u ∧ x.getLsbD 24 = p ∧ x.extractLsb' 0 4 = (immLo) ∧ x.extractLsb' 5 2 = 0b01#2 ∧ x.extractLsb'
      8 4 = (immHi) ∧ x.extractLsb' 12 4 = (rd) ∧ x.extractLsb' 16 4 = (rn) ∧ x.extractLsb' 25 3 = 0b000#3 ∧
      x.extractLsb' 28 4 = (cond.toBits) := by
    subst hx; and_intros <;> simp (disch := omega) only [append_field_low, append_field_high, append_bit_low, append_bit_high, field_all, ofBool_bit, Nat.reduceSub, Nat.sub_self] <;> rfl
  delta decodeArm decodeHalfword condOf
  simp [-BitVec.getLsbD_eq_getElem, hf]

theorem RoundTrip.strhReg (cond : Cond) (p u w : Bool) (rn rd rm : RegNum) :
    RoundTrip.Statement (.strhReg cond p u w rn rd rm) := by
  intro _
  delta encode decode
  dsimp only
  generalize hx : cond.toBits ++ 0b000#3 ++ BitVec.ofBool p ++ BitVec.ofBool u ++ 0b0#1 ++ BitVec.ofBool w ++ 0b0#1 ++ rn ++ rd ++ 0b0000#4 ++ 0b1011#4 ++ rm = x
  have hf : x.getLsbD 4 = true ∧ x.getLsbD 7 = true ∧ x.getLsbD 20 = false ∧ x.getLsbD 21 = w ∧ x.getLsbD 22 = false ∧
      x.getLsbD 23 = u ∧ x.getLsbD 24 = p ∧ x.extractLsb' 0 4 = (rm) ∧ x.extractLsb' 5 2 = 0b01#2 ∧ x.extractLsb' 8
      4 = 0b0000#4 ∧ x.extractLsb' 12 4 = (rd) ∧ x.extractLsb' 16 4 = (rn) ∧ x.extractLsb' 25 3 = 0b000#3 ∧
      x.extractLsb' 28 4 = (cond.toBits) := by
    subst hx; and_intros <;> simp (disch := omega) only [append_field_low, append_field_high, append_bit_low, append_bit_high, field_all, ofBool_bit, Nat.reduceSub, Nat.sub_self] <;> rfl
  delta decodeArm decodeHalfword condOf
  simp [-BitVec.getLsbD_eq_getElem, hf]

theorem RoundTrip.ldm (cond : Cond) (p u w : Bool) (rn : RegNum) (regs : BitVec 16) :
    RoundTrip.Statement (.ldm cond p u w rn regs) := by
  intro _
  delta encode decode
  dsimp only
  generalize hx : cond.toBits ++ 0b100#3 ++ BitVec.ofBool p ++ BitVec.ofBool u ++ 0b0#1 ++ BitVec.ofBool w ++ 0b1#1 ++ rn ++ regs = x
  have hf : x.getLsbD 15 = (regs).getLsbD 15 ∧ x.getLsbD 21 = w ∧ x.getLsbD 23 = u ∧ x.getLsbD 24 = p ∧ x.extractLsb' 0 15
      = (regs).extractLsb' 0 15 ∧ x.extractLsb' 0 16 = (regs) ∧ x.extractLsb' 16 4 = (rn) ∧ x.extractLsb' 20 1 =
      0b1#1 ∧ x.extractLsb' 22 1 = 0b0#1 ∧ x.extractLsb' 25 3 = 0b100#3 ∧ x.extractLsb' 28 4 = (cond.toBits) := by
    subst hx; and_intros <;> simp (disch := omega) only [append_field_low, append_field_high, append_bit_low, append_bit_high, field_all, ofBool_bit, Nat.reduceSub, Nat.sub_self] <;> rfl
  delta decodeArm decodeBlock condOf
  simp [-BitVec.getLsbD_eq_getElem, hf]

theorem RoundTrip.stm (cond : Cond) (p u w : Bool) (rn : RegNum) (regs : BitVec 16) :
    RoundTrip.Statement (.stm cond p u w rn regs) := by
  intro _
  delta encode decode
  dsimp only
  generalize hx : cond.toBits ++ 0b100#3 ++ BitVec.ofBool p ++ BitVec.ofBool u ++ 0b0#1 ++ BitVec.ofBool w ++ 0b0#1 ++ rn ++ regs = x
  have hf : x.getLsbD 15 = (regs).getLsbD 15 ∧ x.getLsbD 21 = w ∧ x.getLsbD 23 = u ∧ x.getLsbD 24 = p ∧ x.extractLsb' 0 15
      = (regs).extractLsb' 0 15 ∧ x.extractLsb' 0 16 = (regs) ∧ x.extractLsb' 16 4 = (rn) ∧ x.extractLsb' 20 1 =
      0b0#1 ∧ x.extractLsb' 22 1 = 0b0#1 ∧ x.extractLsb' 25 3 = 0b100#3 ∧ x.extractLsb' 28 4 = (cond.toBits) := by
    subst hx; and_intros <;> simp (disch := omega) only [append_field_low, append_field_high, append_bit_low, append_bit_high, field_all, ofBool_bit, Nat.reduceSub, Nat.sub_self] <;> rfl
  delta decodeArm decodeBlock condOf
  simp [-BitVec.getLsbD_eq_getElem, hf]

theorem RoundTrip.ldmUser (cond : Cond) (p u w : Bool) (rn : RegNum) (regs : BitVec 15) :
    RoundTrip.Statement (.ldmUser cond p u w rn regs) := by
  intro _
  delta encode decode
  dsimp only
  generalize hx : cond.toBits ++ 0b100#3 ++ BitVec.ofBool p ++ BitVec.ofBool u ++ 0b1#1 ++ BitVec.ofBool w ++ 0b1#1 ++ rn ++ 0b0#1 ++ regs = x
  have hf : x.getLsbD 15 = false ∧ x.getLsbD 21 = w ∧ x.getLsbD 23 = u ∧ x.getLsbD 24 = p ∧ x.extractLsb' 0 15 = (regs) ∧
      x.extractLsb' 16 4 = (rn) ∧ x.extractLsb' 20 1 = 0b1#1 ∧ x.extractLsb' 22 1 = 0b1#1 ∧ x.extractLsb' 25 3 =
      0b100#3 ∧ x.extractLsb' 28 4 = (cond.toBits) := by
    subst hx; and_intros <;> simp (disch := omega) only [append_field_low, append_field_high, append_bit_low, append_bit_high, field_all, ofBool_bit, Nat.reduceSub, Nat.sub_self] <;> rfl
  delta decodeArm decodeBlock condOf
  simp [-BitVec.getLsbD_eq_getElem, hf]

theorem RoundTrip.ldmRestore (cond : Cond) (p u w : Bool) (rn : RegNum) (regs : BitVec 15) :
    RoundTrip.Statement (.ldmRestore cond p u w rn regs) := by
  intro _
  delta encode decode
  dsimp only
  generalize hx : cond.toBits ++ 0b100#3 ++ BitVec.ofBool p ++ BitVec.ofBool u ++ 0b1#1 ++ BitVec.ofBool w ++ 0b1#1 ++ rn ++ 0b1#1 ++ regs = x
  have hf : x.getLsbD 15 = true ∧ x.getLsbD 21 = w ∧ x.getLsbD 23 = u ∧ x.getLsbD 24 = p ∧ x.extractLsb' 0 15 = (regs) ∧
      x.extractLsb' 16 4 = (rn) ∧ x.extractLsb' 20 1 = 0b1#1 ∧ x.extractLsb' 22 1 = 0b1#1 ∧ x.extractLsb' 25 3 =
      0b100#3 ∧ x.extractLsb' 28 4 = (cond.toBits) := by
    subst hx; and_intros <;> simp (disch := omega) only [append_field_low, append_field_high, append_bit_low, append_bit_high, field_all, ofBool_bit, Nat.reduceSub, Nat.sub_self] <;> rfl
  delta decodeArm decodeBlock condOf
  simp [-BitVec.getLsbD_eq_getElem, hf]

theorem RoundTrip.stmUser (cond : Cond) (p u w : Bool) (rn : RegNum) (regs : BitVec 16) :
    RoundTrip.Statement (.stmUser cond p u w rn regs) := by
  intro _
  delta encode decode
  dsimp only
  generalize hx : cond.toBits ++ 0b100#3 ++ BitVec.ofBool p ++ BitVec.ofBool u ++ 0b1#1 ++ BitVec.ofBool w ++ 0b0#1 ++ rn ++ regs = x
  have hf : x.getLsbD 15 = (regs).getLsbD 15 ∧ x.getLsbD 21 = w ∧ x.getLsbD 23 = u ∧ x.getLsbD 24 = p ∧ x.extractLsb' 0 15
      = (regs).extractLsb' 0 15 ∧ x.extractLsb' 0 16 = (regs) ∧ x.extractLsb' 16 4 = (rn) ∧ x.extractLsb' 20 1 =
      0b0#1 ∧ x.extractLsb' 22 1 = 0b1#1 ∧ x.extractLsb' 25 3 = 0b100#3 ∧ x.extractLsb' 28 4 = (cond.toBits) := by
    subst hx; and_intros <;> simp (disch := omega) only [append_field_low, append_field_high, append_bit_low, append_bit_high, field_all, ofBool_bit, Nat.reduceSub, Nat.sub_self] <;> rfl
  delta decodeArm decodeBlock condOf
  simp [-BitVec.getLsbD_eq_getElem, hf]

theorem RoundTrip.swp (cond : Cond) (rn rd rm : RegNum) :
    RoundTrip.Statement (.swp cond rn rd rm) := by
  intro _
  delta encode decode
  dsimp only
  generalize hx : cond.toBits ++ 0b00010000#8 ++ rn ++ rd ++ 0b0000#4 ++ 0b1001#4 ++ rm = x
  have hf : x.getLsbD 4 = true ∧ x.getLsbD 7 = true ∧ x.getLsbD 20 = false ∧ x.getLsbD 21 = false ∧ x.getLsbD 22 = false ∧
      x.getLsbD 24 = true ∧ x.extractLsb' 0 4 = (rm) ∧ x.extractLsb' 5 2 = 0b00#2 ∧ x.extractLsb' 8 4 = 0b0000#4 ∧
      x.extractLsb' 12 4 = (rd) ∧ x.extractLsb' 16 4 = (rn) ∧ x.extractLsb' 20 2 = 0b00#2 ∧ x.extractLsb' 21 2 =
      0b00#2 ∧ x.extractLsb' 22 3 = 0b100#3 ∧ x.extractLsb' 23 2 = 0b10#2 ∧ x.extractLsb' 25 3 = 0b000#3 ∧
      x.extractLsb' 28 4 = (cond.toBits) := by
    subst hx; and_intros <;> simp (disch := omega) only [append_field_low, append_field_high, append_bit_low, append_bit_high, field_all, ofBool_bit, Nat.reduceSub, Nat.sub_self] <;> rfl
  delta decodeArm decodeMultiplySwap condOf
  simp [-BitVec.getLsbD_eq_getElem, hf]

theorem RoundTrip.swpb (cond : Cond) (rn rd rm : RegNum) :
    RoundTrip.Statement (.swpb cond rn rd rm) := by
  intro _
  delta encode decode
  dsimp only
  generalize hx : cond.toBits ++ 0b00010100#8 ++ rn ++ rd ++ 0b0000#4 ++ 0b1001#4 ++ rm = x
  have hf : x.getLsbD 4 = true ∧ x.getLsbD 7 = true ∧ x.getLsbD 20 = false ∧ x.getLsbD 21 = false ∧ x.getLsbD 22 = true ∧
      x.getLsbD 24 = true ∧ x.extractLsb' 0 4 = (rm) ∧ x.extractLsb' 5 2 = 0b00#2 ∧ x.extractLsb' 8 4 = 0b0000#4 ∧
      x.extractLsb' 12 4 = (rd) ∧ x.extractLsb' 16 4 = (rn) ∧ x.extractLsb' 20 2 = 0b00#2 ∧ x.extractLsb' 21 2 =
      0b10#2 ∧ x.extractLsb' 22 3 = 0b101#3 ∧ x.extractLsb' 23 2 = 0b10#2 ∧ x.extractLsb' 25 3 = 0b000#3 ∧
      x.extractLsb' 28 4 = (cond.toBits) := by
    subst hx; and_intros <;> simp (disch := omega) only [append_field_low, append_field_high, append_bit_low, append_bit_high, field_all, ofBool_bit, Nat.reduceSub, Nat.sub_self] <;> rfl
  delta decodeArm decodeMultiplySwap condOf
  simp [-BitVec.getLsbD_eq_getElem, hf]

theorem RoundTrip.b (cond : Cond) (off24 : BitVec 24) :
    RoundTrip.Statement (.b cond off24) := by
  intro _
  delta encode decode
  dsimp only
  generalize hx : cond.toBits ++ 0b1010#4 ++ off24 = x
  have hf : x.getLsbD 24 = false ∧ x.extractLsb' 0 24 = (off24) ∧ x.extractLsb' 25 3 = 0b101#3 ∧ x.extractLsb' 28 4 =
      (cond.toBits) := by
    subst hx; and_intros <;> simp (disch := omega) only [append_field_low, append_field_high, append_bit_low, append_bit_high, field_all, ofBool_bit, Nat.reduceSub, Nat.sub_self] <;> rfl
  delta decodeArm decodeArm condOf
  simp [-BitVec.getLsbD_eq_getElem, hf]

theorem RoundTrip.bl (cond : Cond) (off24 : BitVec 24) :
    RoundTrip.Statement (.bl cond off24) := by
  intro _
  delta encode decode
  dsimp only
  generalize hx : cond.toBits ++ 0b1011#4 ++ off24 = x
  have hf : x.getLsbD 24 = true ∧ x.extractLsb' 0 24 = (off24) ∧ x.extractLsb' 25 3 = 0b101#3 ∧ x.extractLsb' 28 4 =
      (cond.toBits) := by
    subst hx; and_intros <;> simp (disch := omega) only [append_field_low, append_field_high, append_bit_low, append_bit_high, field_all, ofBool_bit, Nat.reduceSub, Nat.sub_self] <;> rfl
  delta decodeArm decodeArm condOf
  simp [-BitVec.getLsbD_eq_getElem, hf]

theorem RoundTrip.swi (cond : Cond) (comment : BitVec 24) :
    RoundTrip.Statement (.swi cond comment) := by
  intro _
  delta encode decode
  dsimp only
  generalize hx : cond.toBits ++ 0b1111#4 ++ comment = x
  have hf : x.getLsbD 4 = (comment).getLsbD 4 ∧ x.getLsbD 24 = true ∧ x.extractLsb' 0 4 = (comment).extractLsb' 0 4 ∧
      x.extractLsb' 0 24 = (comment) ∧ x.extractLsb' 5 3 = (comment).extractLsb' 5 3 ∧ x.extractLsb' 8 4 =
      (comment).extractLsb' 8 4 ∧ x.extractLsb' 12 4 = (comment).extractLsb' 12 4 ∧ x.extractLsb' 16 4 =
      (comment).extractLsb' 16 4 ∧ x.extractLsb' 20 4 = (comment).extractLsb' 20 4 ∧ x.extractLsb' 25 3 = 0b111#3 ∧
      x.extractLsb' 28 4 = (cond.toBits) := by
    subst hx; and_intros <;> simp (disch := omega) only [append_field_low, append_field_high, append_bit_low, append_bit_high, field_all, ofBool_bit, Nat.reduceSub, Nat.sub_self] <;> rfl
  delta decodeArm decodeArm condOf
  simp [-BitVec.getLsbD_eq_getElem, hf]

theorem RoundTrip.cdp (cond : Cond) (op1 crn crd cp : BitVec 4) (op2 : BitVec 3) (crm : BitVec 4) :
    RoundTrip.Statement (.cdp cond op1 crn crd cp op2 crm) := by
  intro _
  delta encode decode
  dsimp only
  generalize hx : cond.toBits ++ 0b1110#4 ++ op1 ++ crn ++ crd ++ cp ++ op2 ++ 0b0#1 ++ crm = x
  have hf : x.getLsbD 4 = false ∧ x.getLsbD 24 = false ∧ x.extractLsb' 0 4 = (crm) ∧ x.extractLsb' 5 3 = (op2) ∧
      x.extractLsb' 8 4 = (cp) ∧ x.extractLsb' 12 4 = (crd) ∧ x.extractLsb' 16 4 = (crn) ∧ x.extractLsb' 20 4 =
      (op1) ∧ x.extractLsb' 25 3 = 0b111#3 ∧ x.extractLsb' 28 4 = (cond.toBits) := by
    subst hx; and_intros <;> simp (disch := omega) only [append_field_low, append_field_high, append_bit_low, append_bit_high, field_all, ofBool_bit, Nat.reduceSub, Nat.sub_self] <;> rfl
  delta decodeArm decodeArm condOf
  simp [-BitVec.getLsbD_eq_getElem, hf]

theorem RoundTrip.mcr (cond : Cond) (op1 : BitVec 3) (crn : BitVec 4) (rd : RegNum) (cp : BitVec 4) (op2 : BitVec 3) (crm : BitVec 4) :
    RoundTrip.Statement (.mcr cond op1 crn rd cp op2 crm) := by
  intro hw
  delta encode decode
  dsimp only
  generalize hx : cond.toBits ++ 0b1110#4 ++ op1 ++ 0b0#1 ++ crn ++ rd ++ cp ++ op2 ++ 0b1#1 ++ crm = x
  have hf : x.getLsbD 4 = true ∧ x.getLsbD 20 = false ∧ x.getLsbD 24 = false ∧ x.extractLsb' 0 4 = (crm) ∧ x.extractLsb' 5
      3 = (op2) ∧ x.extractLsb' 8 4 = (cp) ∧ x.extractLsb' 12 4 = (rd) ∧ x.extractLsb' 16 4 = (crn) ∧ x.extractLsb'
      21 3 = (op1) ∧ x.extractLsb' 25 3 = 0b111#3 ∧ x.extractLsb' 28 4 = (cond.toBits) := by
    subst hx; and_intros <;> simp (disch := omega) only [append_field_low, append_field_high, append_bit_low, append_bit_high, field_all, ofBool_bit, Nat.reduceSub, Nat.sub_self] <;> rfl
  have ht : decodeTransfer x = decodeGenericTransfer x := by
    subst hx
    exact decodeTransfer_generic (transfer_high cond op1 (0b0#1) crn rd cp op2 crm) (transfer_low cond op1 (0b0#1) crn rd cp op2 crm) hw
  delta decodeArm
  simp [-BitVec.getLsbD_eq_getElem, ht, hf]
  delta decodeGenericTransfer condOf
  simp [-BitVec.getLsbD_eq_getElem, hf]

theorem RoundTrip.mrc (cond : Cond) (op1 : BitVec 3) (crn : BitVec 4) (rd : RegNum) (cp : BitVec 4) (op2 : BitVec 3) (crm : BitVec 4) :
    RoundTrip.Statement (.mrc cond op1 crn rd cp op2 crm) := by
  intro hw
  delta encode decode
  dsimp only
  generalize hx : cond.toBits ++ 0b1110#4 ++ op1 ++ 0b1#1 ++ crn ++ rd ++ cp ++ op2 ++ 0b1#1 ++ crm = x
  have hf : x.getLsbD 4 = true ∧ x.getLsbD 20 = true ∧ x.getLsbD 24 = false ∧ x.extractLsb' 0 4 = (crm) ∧ x.extractLsb' 5
      3 = (op2) ∧ x.extractLsb' 8 4 = (cp) ∧ x.extractLsb' 12 4 = (rd) ∧ x.extractLsb' 16 4 = (crn) ∧ x.extractLsb'
      21 3 = (op1) ∧ x.extractLsb' 25 3 = 0b111#3 ∧ x.extractLsb' 28 4 = (cond.toBits) := by
    subst hx; and_intros <;> simp (disch := omega) only [append_field_low, append_field_high, append_bit_low, append_bit_high, field_all, ofBool_bit, Nat.reduceSub, Nat.sub_self] <;> rfl
  have ht : decodeTransfer x = decodeGenericTransfer x := by
    subst hx
    exact decodeTransfer_generic (transfer_high cond op1 (0b1#1) crn rd cp op2 crm) (transfer_low cond op1 (0b1#1) crn rd cp op2 crm) hw
  delta decodeArm
  simp [-BitVec.getLsbD_eq_getElem, ht, hf]
  delta decodeGenericTransfer condOf
  simp [-BitVec.getLsbD_eq_getElem, hf]

theorem RoundTrip.ldc (cond : Cond) (p u n w : Bool) (rn : RegNum) (crd cp : BitVec 4) (off8 : BitVec 8) :
    RoundTrip.Statement (.ldc cond p u n w rn crd cp off8) := by
  intro _
  delta encode decode
  dsimp only
  generalize hx : cond.toBits ++ 0b110#3 ++ BitVec.ofBool p ++ BitVec.ofBool u ++ BitVec.ofBool n ++ BitVec.ofBool w ++ 0b1#1 ++ rn ++ crd ++ cp ++ off8 = x
  have hf : x.getLsbD 20 = true ∧ x.getLsbD 21 = w ∧ x.getLsbD 22 = n ∧ x.getLsbD 23 = u ∧ x.getLsbD 24 = p ∧
      x.extractLsb' 0 8 = (off8) ∧ x.extractLsb' 8 4 = (cp) ∧ x.extractLsb' 12 4 = (crd) ∧ x.extractLsb' 16 4 = (rn)
      ∧ x.extractLsb' 25 3 = 0b110#3 ∧ x.extractLsb' 28 4 = (cond.toBits) := by
    subst hx; and_intros <;> simp (disch := omega) only [append_field_low, append_field_high, append_bit_low, append_bit_high, field_all, ofBool_bit, Nat.reduceSub, Nat.sub_self] <;> rfl
  delta decodeArm decodeArm condOf
  simp [-BitVec.getLsbD_eq_getElem, hf]

theorem RoundTrip.stc (cond : Cond) (p u n w : Bool) (rn : RegNum) (crd cp : BitVec 4) (off8 : BitVec 8) :
    RoundTrip.Statement (.stc cond p u n w rn crd cp off8) := by
  intro _
  delta encode decode
  dsimp only
  generalize hx : cond.toBits ++ 0b110#3 ++ BitVec.ofBool p ++ BitVec.ofBool u ++ BitVec.ofBool n ++ BitVec.ofBool w ++ 0b0#1 ++ rn ++ crd ++ cp ++ off8 = x
  have hf : x.getLsbD 20 = false ∧ x.getLsbD 21 = w ∧ x.getLsbD 22 = n ∧ x.getLsbD 23 = u ∧ x.getLsbD 24 = p ∧
      x.extractLsb' 0 8 = (off8) ∧ x.extractLsb' 8 4 = (cp) ∧ x.extractLsb' 12 4 = (crd) ∧ x.extractLsb' 16 4 = (rn)
      ∧ x.extractLsb' 25 3 = 0b110#3 ∧ x.extractLsb' 28 4 = (cond.toBits) := by
    subst hx; and_intros <;> simp (disch := omega) only [append_field_low, append_field_high, append_bit_low, append_bit_high, field_all, ofBool_bit, Nat.reduceSub, Nat.sub_self] <;> rfl
  delta decodeArm decodeArm condOf
  simp [-BitVec.getLsbD_eq_getElem, hf]

theorem RoundTrip.undefined (cond : Cond) (payload : BitVec 20) (payloadLo : BitVec 4) :
    RoundTrip.Statement (.undefined cond payload payloadLo) := by
  intro _
  delta encode decode
  dsimp only
  generalize hx : cond.toBits ++ 0b011#3 ++ payload ++ 0b1#1 ++ payloadLo = x
  have hf : x.getLsbD 4 = true ∧ x.extractLsb' 0 4 = (payloadLo) ∧ x.extractLsb' 5 20 = (payload) ∧ x.extractLsb' 25 3 =
      0b011#3 ∧ x.extractLsb' 28 4 = (cond.toBits) := by
    subst hx; and_intros <;> simp (disch := omega) only [append_field_low, append_field_high, append_bit_low, append_bit_high, field_all, ofBool_bit, Nat.reduceSub, Nat.sub_self] <;> rfl
  delta decodeArm decodeArm condOf
  simp [-BitVec.getLsbD_eq_getElem, hf]

theorem RoundTrip.mrcId (cond : Cond) (rd : RegNum) :
    RoundTrip.Statement (.mrcId cond rd) := by
  intro _
  delta encode decode
  dsimp only
  generalize hx : cond.toBits ++ 0b111000010000#12 ++ rd ++ 0b111100010000#12 = x
  have he0_12 : x.extractLsb' 0 12 = 0b111100010000#12 := by subst hx; simp (disch := omega) only [append_field_low, append_field_high, append_bit_low, append_bit_high, field_all, ofBool_bit, Nat.reduceSub, Nat.sub_self] <;> rfl
  have he8_4 : x.extractLsb' 8 4 = 0b1111#4 := by subst hx; simp (disch := omega) only [append_field_low, append_field_high, append_bit_low, append_bit_high, field_all, ofBool_bit, Nat.reduceSub, Nat.sub_self] <;> rfl
  have he16_12 : x.extractLsb' 16 12 = 0b111000010000#12 := by subst hx; simp (disch := omega) only [append_field_low, append_field_high, append_bit_low, append_bit_high, field_all, ofBool_bit, Nat.reduceSub, Nat.sub_self] <;> rfl
  have hf : x.getLsbD 4 = true ∧ x.getLsbD 24 = false ∧ x.extractLsb' 12 4 = (rd) ∧ x.extractLsb' 25 3 = 0b111#3 ∧
      x.extractLsb' 28 4 = (cond.toBits) := by
    subst hx; and_intros <;> simp (disch := omega) only [append_field_low, append_field_high, append_bit_low, append_bit_high, field_all, ofBool_bit, Nat.reduceSub, Nat.sub_self] <;> rfl
  have ht : decodeTransfer x = .mrcId cond rd :=
    decodeTransfer_cp15 he16_12 he0_12 (by decide) he8_4 (by
      delta decodeCp15 condOf; simp only [he16_12, he0_12, hf, Cond.ofBits_toBits])
  delta decodeArm
  simp [-BitVec.getLsbD_eq_getElem, hf, ht]

theorem RoundTrip.mrcControl (cond : Cond) (rd : RegNum) :
    RoundTrip.Statement (.mrcControl cond rd) := by
  intro _
  delta encode decode
  dsimp only
  generalize hx : cond.toBits ++ 0b111000010001#12 ++ rd ++ 0b111100010000#12 = x
  have he0_12 : x.extractLsb' 0 12 = 0b111100010000#12 := by subst hx; simp (disch := omega) only [append_field_low, append_field_high, append_bit_low, append_bit_high, field_all, ofBool_bit, Nat.reduceSub, Nat.sub_self] <;> rfl
  have he8_4 : x.extractLsb' 8 4 = 0b1111#4 := by subst hx; simp (disch := omega) only [append_field_low, append_field_high, append_bit_low, append_bit_high, field_all, ofBool_bit, Nat.reduceSub, Nat.sub_self] <;> rfl
  have he16_12 : x.extractLsb' 16 12 = 0b111000010001#12 := by subst hx; simp (disch := omega) only [append_field_low, append_field_high, append_bit_low, append_bit_high, field_all, ofBool_bit, Nat.reduceSub, Nat.sub_self] <;> rfl
  have hf : x.getLsbD 4 = true ∧ x.getLsbD 24 = false ∧ x.extractLsb' 12 4 = (rd) ∧ x.extractLsb' 25 3 = 0b111#3 ∧
      x.extractLsb' 28 4 = (cond.toBits) := by
    subst hx; and_intros <;> simp (disch := omega) only [append_field_low, append_field_high, append_bit_low, append_bit_high, field_all, ofBool_bit, Nat.reduceSub, Nat.sub_self] <;> rfl
  have ht : decodeTransfer x = .mrcControl cond rd :=
    decodeTransfer_cp15 he16_12 he0_12 (by decide) he8_4 (by
      delta decodeCp15 condOf; simp only [he16_12, he0_12, hf, Cond.ofBits_toBits])
  delta decodeArm
  simp [-BitVec.getLsbD_eq_getElem, hf, ht]

theorem RoundTrip.mcrControl (cond : Cond) (rd : RegNum) :
    RoundTrip.Statement (.mcrControl cond rd) := by
  intro _
  delta encode decode
  dsimp only
  generalize hx : cond.toBits ++ 0b111000000001#12 ++ rd ++ 0b111100010000#12 = x
  have he0_12 : x.extractLsb' 0 12 = 0b111100010000#12 := by subst hx; simp (disch := omega) only [append_field_low, append_field_high, append_bit_low, append_bit_high, field_all, ofBool_bit, Nat.reduceSub, Nat.sub_self] <;> rfl
  have he8_4 : x.extractLsb' 8 4 = 0b1111#4 := by subst hx; simp (disch := omega) only [append_field_low, append_field_high, append_bit_low, append_bit_high, field_all, ofBool_bit, Nat.reduceSub, Nat.sub_self] <;> rfl
  have he16_12 : x.extractLsb' 16 12 = 0b111000000001#12 := by subst hx; simp (disch := omega) only [append_field_low, append_field_high, append_bit_low, append_bit_high, field_all, ofBool_bit, Nat.reduceSub, Nat.sub_self] <;> rfl
  have hf : x.getLsbD 4 = true ∧ x.getLsbD 24 = false ∧ x.extractLsb' 12 4 = (rd) ∧ x.extractLsb' 25 3 = 0b111#3 ∧
      x.extractLsb' 28 4 = (cond.toBits) := by
    subst hx; and_intros <;> simp (disch := omega) only [append_field_low, append_field_high, append_bit_low, append_bit_high, field_all, ofBool_bit, Nat.reduceSub, Nat.sub_self] <;> rfl
  have ht : decodeTransfer x = .mcrControl cond rd :=
    decodeTransfer_cp15 he16_12 he0_12 (by decide) he8_4 (by
      delta decodeCp15 condOf; simp only [he16_12, he0_12, hf, Cond.ofBits_toBits])
  delta decodeArm
  simp [-BitVec.getLsbD_eq_getElem, hf, ht]

theorem RoundTrip.mrcTtb (cond : Cond) (rd : RegNum) :
    RoundTrip.Statement (.mrcTtb cond rd) := by
  intro _
  delta encode decode
  dsimp only
  generalize hx : cond.toBits ++ 0b111000010010#12 ++ rd ++ 0b111100010000#12 = x
  have he0_12 : x.extractLsb' 0 12 = 0b111100010000#12 := by subst hx; simp (disch := omega) only [append_field_low, append_field_high, append_bit_low, append_bit_high, field_all, ofBool_bit, Nat.reduceSub, Nat.sub_self] <;> rfl
  have he8_4 : x.extractLsb' 8 4 = 0b1111#4 := by subst hx; simp (disch := omega) only [append_field_low, append_field_high, append_bit_low, append_bit_high, field_all, ofBool_bit, Nat.reduceSub, Nat.sub_self] <;> rfl
  have he16_12 : x.extractLsb' 16 12 = 0b111000010010#12 := by subst hx; simp (disch := omega) only [append_field_low, append_field_high, append_bit_low, append_bit_high, field_all, ofBool_bit, Nat.reduceSub, Nat.sub_self] <;> rfl
  have hf : x.getLsbD 4 = true ∧ x.getLsbD 24 = false ∧ x.extractLsb' 12 4 = (rd) ∧ x.extractLsb' 25 3 = 0b111#3 ∧
      x.extractLsb' 28 4 = (cond.toBits) := by
    subst hx; and_intros <;> simp (disch := omega) only [append_field_low, append_field_high, append_bit_low, append_bit_high, field_all, ofBool_bit, Nat.reduceSub, Nat.sub_self] <;> rfl
  have ht : decodeTransfer x = .mrcTtb cond rd :=
    decodeTransfer_cp15 he16_12 he0_12 (by decide) he8_4 (by
      delta decodeCp15 condOf; simp only [he16_12, he0_12, hf, Cond.ofBits_toBits])
  delta decodeArm
  simp [-BitVec.getLsbD_eq_getElem, hf, ht]

theorem RoundTrip.mcrTtb (cond : Cond) (rd : RegNum) :
    RoundTrip.Statement (.mcrTtb cond rd) := by
  intro _
  delta encode decode
  dsimp only
  generalize hx : cond.toBits ++ 0b111000000010#12 ++ rd ++ 0b111100010000#12 = x
  have he0_12 : x.extractLsb' 0 12 = 0b111100010000#12 := by subst hx; simp (disch := omega) only [append_field_low, append_field_high, append_bit_low, append_bit_high, field_all, ofBool_bit, Nat.reduceSub, Nat.sub_self] <;> rfl
  have he8_4 : x.extractLsb' 8 4 = 0b1111#4 := by subst hx; simp (disch := omega) only [append_field_low, append_field_high, append_bit_low, append_bit_high, field_all, ofBool_bit, Nat.reduceSub, Nat.sub_self] <;> rfl
  have he16_12 : x.extractLsb' 16 12 = 0b111000000010#12 := by subst hx; simp (disch := omega) only [append_field_low, append_field_high, append_bit_low, append_bit_high, field_all, ofBool_bit, Nat.reduceSub, Nat.sub_self] <;> rfl
  have hf : x.getLsbD 4 = true ∧ x.getLsbD 24 = false ∧ x.extractLsb' 12 4 = (rd) ∧ x.extractLsb' 25 3 = 0b111#3 ∧
      x.extractLsb' 28 4 = (cond.toBits) := by
    subst hx; and_intros <;> simp (disch := omega) only [append_field_low, append_field_high, append_bit_low, append_bit_high, field_all, ofBool_bit, Nat.reduceSub, Nat.sub_self] <;> rfl
  have ht : decodeTransfer x = .mcrTtb cond rd :=
    decodeTransfer_cp15 he16_12 he0_12 (by decide) he8_4 (by
      delta decodeCp15 condOf; simp only [he16_12, he0_12, hf, Cond.ofBits_toBits])
  delta decodeArm
  simp [-BitVec.getLsbD_eq_getElem, hf, ht]

theorem RoundTrip.mrcDacr (cond : Cond) (rd : RegNum) :
    RoundTrip.Statement (.mrcDacr cond rd) := by
  intro _
  delta encode decode
  dsimp only
  generalize hx : cond.toBits ++ 0b111000010011#12 ++ rd ++ 0b111100010000#12 = x
  have he0_12 : x.extractLsb' 0 12 = 0b111100010000#12 := by subst hx; simp (disch := omega) only [append_field_low, append_field_high, append_bit_low, append_bit_high, field_all, ofBool_bit, Nat.reduceSub, Nat.sub_self] <;> rfl
  have he8_4 : x.extractLsb' 8 4 = 0b1111#4 := by subst hx; simp (disch := omega) only [append_field_low, append_field_high, append_bit_low, append_bit_high, field_all, ofBool_bit, Nat.reduceSub, Nat.sub_self] <;> rfl
  have he16_12 : x.extractLsb' 16 12 = 0b111000010011#12 := by subst hx; simp (disch := omega) only [append_field_low, append_field_high, append_bit_low, append_bit_high, field_all, ofBool_bit, Nat.reduceSub, Nat.sub_self] <;> rfl
  have hf : x.getLsbD 4 = true ∧ x.getLsbD 24 = false ∧ x.extractLsb' 12 4 = (rd) ∧ x.extractLsb' 25 3 = 0b111#3 ∧
      x.extractLsb' 28 4 = (cond.toBits) := by
    subst hx; and_intros <;> simp (disch := omega) only [append_field_low, append_field_high, append_bit_low, append_bit_high, field_all, ofBool_bit, Nat.reduceSub, Nat.sub_self] <;> rfl
  have ht : decodeTransfer x = .mrcDacr cond rd :=
    decodeTransfer_cp15 he16_12 he0_12 (by decide) he8_4 (by
      delta decodeCp15 condOf; simp only [he16_12, he0_12, hf, Cond.ofBits_toBits])
  delta decodeArm
  simp [-BitVec.getLsbD_eq_getElem, hf, ht]

theorem RoundTrip.mcrDacr (cond : Cond) (rd : RegNum) :
    RoundTrip.Statement (.mcrDacr cond rd) := by
  intro _
  delta encode decode
  dsimp only
  generalize hx : cond.toBits ++ 0b111000000011#12 ++ rd ++ 0b111100010000#12 = x
  have he0_12 : x.extractLsb' 0 12 = 0b111100010000#12 := by subst hx; simp (disch := omega) only [append_field_low, append_field_high, append_bit_low, append_bit_high, field_all, ofBool_bit, Nat.reduceSub, Nat.sub_self] <;> rfl
  have he8_4 : x.extractLsb' 8 4 = 0b1111#4 := by subst hx; simp (disch := omega) only [append_field_low, append_field_high, append_bit_low, append_bit_high, field_all, ofBool_bit, Nat.reduceSub, Nat.sub_self] <;> rfl
  have he16_12 : x.extractLsb' 16 12 = 0b111000000011#12 := by subst hx; simp (disch := omega) only [append_field_low, append_field_high, append_bit_low, append_bit_high, field_all, ofBool_bit, Nat.reduceSub, Nat.sub_self] <;> rfl
  have hf : x.getLsbD 4 = true ∧ x.getLsbD 24 = false ∧ x.extractLsb' 12 4 = (rd) ∧ x.extractLsb' 25 3 = 0b111#3 ∧
      x.extractLsb' 28 4 = (cond.toBits) := by
    subst hx; and_intros <;> simp (disch := omega) only [append_field_low, append_field_high, append_bit_low, append_bit_high, field_all, ofBool_bit, Nat.reduceSub, Nat.sub_self] <;> rfl
  have ht : decodeTransfer x = .mcrDacr cond rd :=
    decodeTransfer_cp15 he16_12 he0_12 (by decide) he8_4 (by
      delta decodeCp15 condOf; simp only [he16_12, he0_12, hf, Cond.ofBits_toBits])
  delta decodeArm
  simp [-BitVec.getLsbD_eq_getElem, hf, ht]

theorem RoundTrip.mrcFsr (cond : Cond) (rd : RegNum) :
    RoundTrip.Statement (.mrcFsr cond rd) := by
  intro _
  delta encode decode
  dsimp only
  generalize hx : cond.toBits ++ 0b111000010101#12 ++ rd ++ 0b111100010000#12 = x
  have he0_12 : x.extractLsb' 0 12 = 0b111100010000#12 := by subst hx; simp (disch := omega) only [append_field_low, append_field_high, append_bit_low, append_bit_high, field_all, ofBool_bit, Nat.reduceSub, Nat.sub_self] <;> rfl
  have he8_4 : x.extractLsb' 8 4 = 0b1111#4 := by subst hx; simp (disch := omega) only [append_field_low, append_field_high, append_bit_low, append_bit_high, field_all, ofBool_bit, Nat.reduceSub, Nat.sub_self] <;> rfl
  have he16_12 : x.extractLsb' 16 12 = 0b111000010101#12 := by subst hx; simp (disch := omega) only [append_field_low, append_field_high, append_bit_low, append_bit_high, field_all, ofBool_bit, Nat.reduceSub, Nat.sub_self] <;> rfl
  have hf : x.getLsbD 4 = true ∧ x.getLsbD 24 = false ∧ x.extractLsb' 12 4 = (rd) ∧ x.extractLsb' 25 3 = 0b111#3 ∧
      x.extractLsb' 28 4 = (cond.toBits) := by
    subst hx; and_intros <;> simp (disch := omega) only [append_field_low, append_field_high, append_bit_low, append_bit_high, field_all, ofBool_bit, Nat.reduceSub, Nat.sub_self] <;> rfl
  have ht : decodeTransfer x = .mrcFsr cond rd :=
    decodeTransfer_cp15 he16_12 he0_12 (by decide) he8_4 (by
      delta decodeCp15 condOf; simp only [he16_12, he0_12, hf, Cond.ofBits_toBits])
  delta decodeArm
  simp [-BitVec.getLsbD_eq_getElem, hf, ht]

theorem RoundTrip.mcrFsr (cond : Cond) (rd : RegNum) :
    RoundTrip.Statement (.mcrFsr cond rd) := by
  intro _
  delta encode decode
  dsimp only
  generalize hx : cond.toBits ++ 0b111000000101#12 ++ rd ++ 0b111100010000#12 = x
  have he0_12 : x.extractLsb' 0 12 = 0b111100010000#12 := by subst hx; simp (disch := omega) only [append_field_low, append_field_high, append_bit_low, append_bit_high, field_all, ofBool_bit, Nat.reduceSub, Nat.sub_self] <;> rfl
  have he8_4 : x.extractLsb' 8 4 = 0b1111#4 := by subst hx; simp (disch := omega) only [append_field_low, append_field_high, append_bit_low, append_bit_high, field_all, ofBool_bit, Nat.reduceSub, Nat.sub_self] <;> rfl
  have he16_12 : x.extractLsb' 16 12 = 0b111000000101#12 := by subst hx; simp (disch := omega) only [append_field_low, append_field_high, append_bit_low, append_bit_high, field_all, ofBool_bit, Nat.reduceSub, Nat.sub_self] <;> rfl
  have hf : x.getLsbD 4 = true ∧ x.getLsbD 24 = false ∧ x.extractLsb' 12 4 = (rd) ∧ x.extractLsb' 25 3 = 0b111#3 ∧
      x.extractLsb' 28 4 = (cond.toBits) := by
    subst hx; and_intros <;> simp (disch := omega) only [append_field_low, append_field_high, append_bit_low, append_bit_high, field_all, ofBool_bit, Nat.reduceSub, Nat.sub_self] <;> rfl
  have ht : decodeTransfer x = .mcrFsr cond rd :=
    decodeTransfer_cp15 he16_12 he0_12 (by decide) he8_4 (by
      delta decodeCp15 condOf; simp only [he16_12, he0_12, hf, Cond.ofBits_toBits])
  delta decodeArm
  simp [-BitVec.getLsbD_eq_getElem, hf, ht]

theorem RoundTrip.mrcFar (cond : Cond) (rd : RegNum) :
    RoundTrip.Statement (.mrcFar cond rd) := by
  intro _
  delta encode decode
  dsimp only
  generalize hx : cond.toBits ++ 0b111000010110#12 ++ rd ++ 0b111100010000#12 = x
  have he0_12 : x.extractLsb' 0 12 = 0b111100010000#12 := by subst hx; simp (disch := omega) only [append_field_low, append_field_high, append_bit_low, append_bit_high, field_all, ofBool_bit, Nat.reduceSub, Nat.sub_self] <;> rfl
  have he8_4 : x.extractLsb' 8 4 = 0b1111#4 := by subst hx; simp (disch := omega) only [append_field_low, append_field_high, append_bit_low, append_bit_high, field_all, ofBool_bit, Nat.reduceSub, Nat.sub_self] <;> rfl
  have he16_12 : x.extractLsb' 16 12 = 0b111000010110#12 := by subst hx; simp (disch := omega) only [append_field_low, append_field_high, append_bit_low, append_bit_high, field_all, ofBool_bit, Nat.reduceSub, Nat.sub_self] <;> rfl
  have hf : x.getLsbD 4 = true ∧ x.getLsbD 24 = false ∧ x.extractLsb' 12 4 = (rd) ∧ x.extractLsb' 25 3 = 0b111#3 ∧
      x.extractLsb' 28 4 = (cond.toBits) := by
    subst hx; and_intros <;> simp (disch := omega) only [append_field_low, append_field_high, append_bit_low, append_bit_high, field_all, ofBool_bit, Nat.reduceSub, Nat.sub_self] <;> rfl
  have ht : decodeTransfer x = .mrcFar cond rd :=
    decodeTransfer_cp15 he16_12 he0_12 (by decide) he8_4 (by
      delta decodeCp15 condOf; simp only [he16_12, he0_12, hf, Cond.ofBits_toBits])
  delta decodeArm
  simp [-BitVec.getLsbD_eq_getElem, hf, ht]

theorem RoundTrip.mcrFar (cond : Cond) (rd : RegNum) :
    RoundTrip.Statement (.mcrFar cond rd) := by
  intro _
  delta encode decode
  dsimp only
  generalize hx : cond.toBits ++ 0b111000000110#12 ++ rd ++ 0b111100010000#12 = x
  have he0_12 : x.extractLsb' 0 12 = 0b111100010000#12 := by subst hx; simp (disch := omega) only [append_field_low, append_field_high, append_bit_low, append_bit_high, field_all, ofBool_bit, Nat.reduceSub, Nat.sub_self] <;> rfl
  have he8_4 : x.extractLsb' 8 4 = 0b1111#4 := by subst hx; simp (disch := omega) only [append_field_low, append_field_high, append_bit_low, append_bit_high, field_all, ofBool_bit, Nat.reduceSub, Nat.sub_self] <;> rfl
  have he16_12 : x.extractLsb' 16 12 = 0b111000000110#12 := by subst hx; simp (disch := omega) only [append_field_low, append_field_high, append_bit_low, append_bit_high, field_all, ofBool_bit, Nat.reduceSub, Nat.sub_self] <;> rfl
  have hf : x.getLsbD 4 = true ∧ x.getLsbD 24 = false ∧ x.extractLsb' 12 4 = (rd) ∧ x.extractLsb' 25 3 = 0b111#3 ∧
      x.extractLsb' 28 4 = (cond.toBits) := by
    subst hx; and_intros <;> simp (disch := omega) only [append_field_low, append_field_high, append_bit_low, append_bit_high, field_all, ofBool_bit, Nat.reduceSub, Nat.sub_self] <;> rfl
  have ht : decodeTransfer x = .mcrFar cond rd :=
    decodeTransfer_cp15 he16_12 he0_12 (by decide) he8_4 (by
      delta decodeCp15 condOf; simp only [he16_12, he0_12, hf, Cond.ofBits_toBits])
  delta decodeArm
  simp [-BitVec.getLsbD_eq_getElem, hf, ht]

theorem RoundTrip.mcrInvCache (cond : Cond) (rd : RegNum) :
    RoundTrip.Statement (.mcrInvCache cond rd) := by
  intro _
  delta encode decode
  dsimp only
  generalize hx : cond.toBits ++ 0b111000000111#12 ++ rd ++ 0b111100010111#12 = x
  have he0_12 : x.extractLsb' 0 12 = 0b111100010111#12 := by subst hx; simp (disch := omega) only [append_field_low, append_field_high, append_bit_low, append_bit_high, field_all, ofBool_bit, Nat.reduceSub, Nat.sub_self] <;> rfl
  have he8_4 : x.extractLsb' 8 4 = 0b1111#4 := by subst hx; simp (disch := omega) only [append_field_low, append_field_high, append_bit_low, append_bit_high, field_all, ofBool_bit, Nat.reduceSub, Nat.sub_self] <;> rfl
  have he16_12 : x.extractLsb' 16 12 = 0b111000000111#12 := by subst hx; simp (disch := omega) only [append_field_low, append_field_high, append_bit_low, append_bit_high, field_all, ofBool_bit, Nat.reduceSub, Nat.sub_self] <;> rfl
  have hf : x.getLsbD 4 = true ∧ x.getLsbD 24 = false ∧ x.extractLsb' 12 4 = (rd) ∧ x.extractLsb' 25 3 = 0b111#3 ∧
      x.extractLsb' 28 4 = (cond.toBits) := by
    subst hx; and_intros <;> simp (disch := omega) only [append_field_low, append_field_high, append_bit_low, append_bit_high, field_all, ofBool_bit, Nat.reduceSub, Nat.sub_self] <;> rfl
  have ht : decodeTransfer x = .mcrInvCache cond rd :=
    decodeTransfer_cp15 he16_12 he0_12 (by decide) he8_4 (by
      delta decodeCp15 condOf; simp only [he16_12, he0_12, hf, Cond.ofBits_toBits])
  delta decodeArm
  simp [-BitVec.getLsbD_eq_getElem, hf, ht]

theorem RoundTrip.mcrInvTlbC5 (cond : Cond) (rd : RegNum) :
    RoundTrip.Statement (.mcrInvTlbC5 cond rd) := by
  intro _
  delta encode decode
  dsimp only
  generalize hx : cond.toBits ++ 0b111000001000#12 ++ rd ++ 0b111100010101#12 = x
  have he0_12 : x.extractLsb' 0 12 = 0b111100010101#12 := by subst hx; simp (disch := omega) only [append_field_low, append_field_high, append_bit_low, append_bit_high, field_all, ofBool_bit, Nat.reduceSub, Nat.sub_self] <;> rfl
  have he8_4 : x.extractLsb' 8 4 = 0b1111#4 := by subst hx; simp (disch := omega) only [append_field_low, append_field_high, append_bit_low, append_bit_high, field_all, ofBool_bit, Nat.reduceSub, Nat.sub_self] <;> rfl
  have he16_12 : x.extractLsb' 16 12 = 0b111000001000#12 := by subst hx; simp (disch := omega) only [append_field_low, append_field_high, append_bit_low, append_bit_high, field_all, ofBool_bit, Nat.reduceSub, Nat.sub_self] <;> rfl
  have hf : x.getLsbD 4 = true ∧ x.getLsbD 24 = false ∧ x.extractLsb' 12 4 = (rd) ∧ x.extractLsb' 25 3 = 0b111#3 ∧
      x.extractLsb' 28 4 = (cond.toBits) := by
    subst hx; and_intros <;> simp (disch := omega) only [append_field_low, append_field_high, append_bit_low, append_bit_high, field_all, ofBool_bit, Nat.reduceSub, Nat.sub_self] <;> rfl
  have ht : decodeTransfer x = .mcrInvTlbC5 cond rd :=
    decodeTransfer_cp15 he16_12 he0_12 (by decide) he8_4 (by
      delta decodeCp15 condOf; simp only [he16_12, he0_12, hf, Cond.ofBits_toBits])
  delta decodeArm
  simp [-BitVec.getLsbD_eq_getElem, hf, ht]

theorem RoundTrip.mcrInvTlbEntryC5 (cond : Cond) (rd : RegNum) :
    RoundTrip.Statement (.mcrInvTlbEntryC5 cond rd) := by
  intro _
  delta encode decode
  dsimp only
  generalize hx : cond.toBits ++ 0b111000001000#12 ++ rd ++ 0b111100110101#12 = x
  have he0_12 : x.extractLsb' 0 12 = 0b111100110101#12 := by subst hx; simp (disch := omega) only [append_field_low, append_field_high, append_bit_low, append_bit_high, field_all, ofBool_bit, Nat.reduceSub, Nat.sub_self] <;> rfl
  have he8_4 : x.extractLsb' 8 4 = 0b1111#4 := by subst hx; simp (disch := omega) only [append_field_low, append_field_high, append_bit_low, append_bit_high, field_all, ofBool_bit, Nat.reduceSub, Nat.sub_self] <;> rfl
  have he16_12 : x.extractLsb' 16 12 = 0b111000001000#12 := by subst hx; simp (disch := omega) only [append_field_low, append_field_high, append_bit_low, append_bit_high, field_all, ofBool_bit, Nat.reduceSub, Nat.sub_self] <;> rfl
  have hf : x.getLsbD 4 = true ∧ x.getLsbD 24 = false ∧ x.extractLsb' 12 4 = (rd) ∧ x.extractLsb' 25 3 = 0b111#3 ∧
      x.extractLsb' 28 4 = (cond.toBits) := by
    subst hx; and_intros <;> simp (disch := omega) only [append_field_low, append_field_high, append_bit_low, append_bit_high, field_all, ofBool_bit, Nat.reduceSub, Nat.sub_self] <;> rfl
  have ht : decodeTransfer x = .mcrInvTlbEntryC5 cond rd :=
    decodeTransfer_cp15 he16_12 he0_12 (by decide) he8_4 (by
      delta decodeCp15 condOf; simp only [he16_12, he0_12, hf, Cond.ofBits_toBits])
  delta decodeArm
  simp [-BitVec.getLsbD_eq_getElem, hf, ht]

theorem RoundTrip.mcrInvTlbC6 (cond : Cond) (rd : RegNum) :
    RoundTrip.Statement (.mcrInvTlbC6 cond rd) := by
  intro _
  delta encode decode
  dsimp only
  generalize hx : cond.toBits ++ 0b111000001000#12 ++ rd ++ 0b111100010110#12 = x
  have he0_12 : x.extractLsb' 0 12 = 0b111100010110#12 := by subst hx; simp (disch := omega) only [append_field_low, append_field_high, append_bit_low, append_bit_high, field_all, ofBool_bit, Nat.reduceSub, Nat.sub_self] <;> rfl
  have he8_4 : x.extractLsb' 8 4 = 0b1111#4 := by subst hx; simp (disch := omega) only [append_field_low, append_field_high, append_bit_low, append_bit_high, field_all, ofBool_bit, Nat.reduceSub, Nat.sub_self] <;> rfl
  have he16_12 : x.extractLsb' 16 12 = 0b111000001000#12 := by subst hx; simp (disch := omega) only [append_field_low, append_field_high, append_bit_low, append_bit_high, field_all, ofBool_bit, Nat.reduceSub, Nat.sub_self] <;> rfl
  have hf : x.getLsbD 4 = true ∧ x.getLsbD 24 = false ∧ x.extractLsb' 12 4 = (rd) ∧ x.extractLsb' 25 3 = 0b111#3 ∧
      x.extractLsb' 28 4 = (cond.toBits) := by
    subst hx; and_intros <;> simp (disch := omega) only [append_field_low, append_field_high, append_bit_low, append_bit_high, field_all, ofBool_bit, Nat.reduceSub, Nat.sub_self] <;> rfl
  have ht : decodeTransfer x = .mcrInvTlbC6 cond rd :=
    decodeTransfer_cp15 he16_12 he0_12 (by decide) he8_4 (by
      delta decodeCp15 condOf; simp only [he16_12, he0_12, hf, Cond.ofBits_toBits])
  delta decodeArm
  simp [-BitVec.getLsbD_eq_getElem, hf, ht]

theorem RoundTrip.mcrInvTlbEntryC6 (cond : Cond) (rd : RegNum) :
    RoundTrip.Statement (.mcrInvTlbEntryC6 cond rd) := by
  intro _
  delta encode decode
  dsimp only
  generalize hx : cond.toBits ++ 0b111000001000#12 ++ rd ++ 0b111100110110#12 = x
  have he0_12 : x.extractLsb' 0 12 = 0b111100110110#12 := by subst hx; simp (disch := omega) only [append_field_low, append_field_high, append_bit_low, append_bit_high, field_all, ofBool_bit, Nat.reduceSub, Nat.sub_self] <;> rfl
  have he8_4 : x.extractLsb' 8 4 = 0b1111#4 := by subst hx; simp (disch := omega) only [append_field_low, append_field_high, append_bit_low, append_bit_high, field_all, ofBool_bit, Nat.reduceSub, Nat.sub_self] <;> rfl
  have he16_12 : x.extractLsb' 16 12 = 0b111000001000#12 := by subst hx; simp (disch := omega) only [append_field_low, append_field_high, append_bit_low, append_bit_high, field_all, ofBool_bit, Nat.reduceSub, Nat.sub_self] <;> rfl
  have hf : x.getLsbD 4 = true ∧ x.getLsbD 24 = false ∧ x.extractLsb' 12 4 = (rd) ∧ x.extractLsb' 25 3 = 0b111#3 ∧
      x.extractLsb' 28 4 = (cond.toBits) := by
    subst hx; and_intros <;> simp (disch := omega) only [append_field_low, append_field_high, append_bit_low, append_bit_high, field_all, ofBool_bit, Nat.reduceSub, Nat.sub_self] <;> rfl
  have ht : decodeTransfer x = .mcrInvTlbEntryC6 cond rd :=
    decodeTransfer_cp15 he16_12 he0_12 (by decide) he8_4 (by
      delta decodeCp15 condOf; simp only [he16_12, he0_12, hf, Cond.ofBits_toBits])
  delta decodeArm
  simp [-BitVec.getLsbD_eq_getElem, hf, ht]

theorem RoundTrip.mcrInvTlbC7 (cond : Cond) (rd : RegNum) :
    RoundTrip.Statement (.mcrInvTlbC7 cond rd) := by
  intro _
  delta encode decode
  dsimp only
  generalize hx : cond.toBits ++ 0b111000001000#12 ++ rd ++ 0b111100010111#12 = x
  have he0_12 : x.extractLsb' 0 12 = 0b111100010111#12 := by subst hx; simp (disch := omega) only [append_field_low, append_field_high, append_bit_low, append_bit_high, field_all, ofBool_bit, Nat.reduceSub, Nat.sub_self] <;> rfl
  have he8_4 : x.extractLsb' 8 4 = 0b1111#4 := by subst hx; simp (disch := omega) only [append_field_low, append_field_high, append_bit_low, append_bit_high, field_all, ofBool_bit, Nat.reduceSub, Nat.sub_self] <;> rfl
  have he16_12 : x.extractLsb' 16 12 = 0b111000001000#12 := by subst hx; simp (disch := omega) only [append_field_low, append_field_high, append_bit_low, append_bit_high, field_all, ofBool_bit, Nat.reduceSub, Nat.sub_self] <;> rfl
  have hf : x.getLsbD 4 = true ∧ x.getLsbD 24 = false ∧ x.extractLsb' 12 4 = (rd) ∧ x.extractLsb' 25 3 = 0b111#3 ∧
      x.extractLsb' 28 4 = (cond.toBits) := by
    subst hx; and_intros <;> simp (disch := omega) only [append_field_low, append_field_high, append_bit_low, append_bit_high, field_all, ofBool_bit, Nat.reduceSub, Nat.sub_self] <;> rfl
  have ht : decodeTransfer x = .mcrInvTlbC7 cond rd :=
    decodeTransfer_cp15 he16_12 he0_12 (by decide) he8_4 (by
      delta decodeCp15 condOf; simp only [he16_12, he0_12, hf, Cond.ofBits_toBits])
  delta decodeArm
  simp [-BitVec.getLsbD_eq_getElem, hf, ht]

theorem RoundTrip.mcrInvTlbEntryC7 (cond : Cond) (rd : RegNum) :
    RoundTrip.Statement (.mcrInvTlbEntryC7 cond rd) := by
  intro _
  delta encode decode
  dsimp only
  generalize hx : cond.toBits ++ 0b111000001000#12 ++ rd ++ 0b111100110111#12 = x
  have he0_12 : x.extractLsb' 0 12 = 0b111100110111#12 := by subst hx; simp (disch := omega) only [append_field_low, append_field_high, append_bit_low, append_bit_high, field_all, ofBool_bit, Nat.reduceSub, Nat.sub_self] <;> rfl
  have he8_4 : x.extractLsb' 8 4 = 0b1111#4 := by subst hx; simp (disch := omega) only [append_field_low, append_field_high, append_bit_low, append_bit_high, field_all, ofBool_bit, Nat.reduceSub, Nat.sub_self] <;> rfl
  have he16_12 : x.extractLsb' 16 12 = 0b111000001000#12 := by subst hx; simp (disch := omega) only [append_field_low, append_field_high, append_bit_low, append_bit_high, field_all, ofBool_bit, Nat.reduceSub, Nat.sub_self] <;> rfl
  have hf : x.getLsbD 4 = true ∧ x.getLsbD 24 = false ∧ x.extractLsb' 12 4 = (rd) ∧ x.extractLsb' 25 3 = 0b111#3 ∧
      x.extractLsb' 28 4 = (cond.toBits) := by
    subst hx; and_intros <;> simp (disch := omega) only [append_field_low, append_field_high, append_bit_low, append_bit_high, field_all, ofBool_bit, Nat.reduceSub, Nat.sub_self] <;> rfl
  have ht : decodeTransfer x = .mcrInvTlbEntryC7 cond rd :=
    decodeTransfer_cp15 he16_12 he0_12 (by decide) he8_4 (by
      delta decodeCp15 condOf; simp only [he16_12, he0_12, hf, Cond.ofBits_toBits])
  delta decodeArm
  simp [-BitVec.getLsbD_eq_getElem, hf, ht]

theorem RoundTrip.mcrCacheBase0 (cond : Cond) (rd : RegNum) :
    RoundTrip.Statement (.mcrCacheBase0 cond rd) := by
  intro _
  delta encode decode
  dsimp only
  generalize hx : cond.toBits ++ 0b111000001001#12 ++ rd ++ 0b111100010000#12 = x
  have he0_12 : x.extractLsb' 0 12 = 0b111100010000#12 := by subst hx; simp (disch := omega) only [append_field_low, append_field_high, append_bit_low, append_bit_high, field_all, ofBool_bit, Nat.reduceSub, Nat.sub_self] <;> rfl
  have he8_4 : x.extractLsb' 8 4 = 0b1111#4 := by subst hx; simp (disch := omega) only [append_field_low, append_field_high, append_bit_low, append_bit_high, field_all, ofBool_bit, Nat.reduceSub, Nat.sub_self] <;> rfl
  have he16_12 : x.extractLsb' 16 12 = 0b111000001001#12 := by subst hx; simp (disch := omega) only [append_field_low, append_field_high, append_bit_low, append_bit_high, field_all, ofBool_bit, Nat.reduceSub, Nat.sub_self] <;> rfl
  have hf : x.getLsbD 4 = true ∧ x.getLsbD 24 = false ∧ x.extractLsb' 12 4 = (rd) ∧ x.extractLsb' 25 3 = 0b111#3 ∧
      x.extractLsb' 28 4 = (cond.toBits) := by
    subst hx; and_intros <;> simp (disch := omega) only [append_field_low, append_field_high, append_bit_low, append_bit_high, field_all, ofBool_bit, Nat.reduceSub, Nat.sub_self] <;> rfl
  have ht : decodeTransfer x = .mcrCacheBase0 cond rd :=
    decodeTransfer_cp15 he16_12 he0_12 (by decide) he8_4 (by
      delta decodeCp15 condOf; simp only [he16_12, he0_12, hf, Cond.ofBits_toBits])
  delta decodeArm
  simp [-BitVec.getLsbD_eq_getElem, hf, ht]

theorem RoundTrip.mcrCacheVictim0 (cond : Cond) (rd : RegNum) :
    RoundTrip.Statement (.mcrCacheVictim0 cond rd) := by
  intro _
  delta encode decode
  dsimp only
  generalize hx : cond.toBits ++ 0b111000001001#12 ++ rd ++ 0b111100010001#12 = x
  have he0_12 : x.extractLsb' 0 12 = 0b111100010001#12 := by subst hx; simp (disch := omega) only [append_field_low, append_field_high, append_bit_low, append_bit_high, field_all, ofBool_bit, Nat.reduceSub, Nat.sub_self] <;> rfl
  have he8_4 : x.extractLsb' 8 4 = 0b1111#4 := by subst hx; simp (disch := omega) only [append_field_low, append_field_high, append_bit_low, append_bit_high, field_all, ofBool_bit, Nat.reduceSub, Nat.sub_self] <;> rfl
  have he16_12 : x.extractLsb' 16 12 = 0b111000001001#12 := by subst hx; simp (disch := omega) only [append_field_low, append_field_high, append_bit_low, append_bit_high, field_all, ofBool_bit, Nat.reduceSub, Nat.sub_self] <;> rfl
  have hf : x.getLsbD 4 = true ∧ x.getLsbD 24 = false ∧ x.extractLsb' 12 4 = (rd) ∧ x.extractLsb' 25 3 = 0b111#3 ∧
      x.extractLsb' 28 4 = (cond.toBits) := by
    subst hx; and_intros <;> simp (disch := omega) only [append_field_low, append_field_high, append_bit_low, append_bit_high, field_all, ofBool_bit, Nat.reduceSub, Nat.sub_self] <;> rfl
  have ht : decodeTransfer x = .mcrCacheVictim0 cond rd :=
    decodeTransfer_cp15 he16_12 he0_12 (by decide) he8_4 (by
      delta decodeCp15 condOf; simp only [he16_12, he0_12, hf, Cond.ofBits_toBits])
  delta decodeArm
  simp [-BitVec.getLsbD_eq_getElem, hf, ht]

theorem RoundTrip.mcrCacheBase1 (cond : Cond) (rd : RegNum) :
    RoundTrip.Statement (.mcrCacheBase1 cond rd) := by
  intro _
  delta encode decode
  dsimp only
  generalize hx : cond.toBits ++ 0b111000001001#12 ++ rd ++ 0b111100110000#12 = x
  have he0_12 : x.extractLsb' 0 12 = 0b111100110000#12 := by subst hx; simp (disch := omega) only [append_field_low, append_field_high, append_bit_low, append_bit_high, field_all, ofBool_bit, Nat.reduceSub, Nat.sub_self] <;> rfl
  have he8_4 : x.extractLsb' 8 4 = 0b1111#4 := by subst hx; simp (disch := omega) only [append_field_low, append_field_high, append_bit_low, append_bit_high, field_all, ofBool_bit, Nat.reduceSub, Nat.sub_self] <;> rfl
  have he16_12 : x.extractLsb' 16 12 = 0b111000001001#12 := by subst hx; simp (disch := omega) only [append_field_low, append_field_high, append_bit_low, append_bit_high, field_all, ofBool_bit, Nat.reduceSub, Nat.sub_self] <;> rfl
  have hf : x.getLsbD 4 = true ∧ x.getLsbD 24 = false ∧ x.extractLsb' 12 4 = (rd) ∧ x.extractLsb' 25 3 = 0b111#3 ∧
      x.extractLsb' 28 4 = (cond.toBits) := by
    subst hx; and_intros <;> simp (disch := omega) only [append_field_low, append_field_high, append_bit_low, append_bit_high, field_all, ofBool_bit, Nat.reduceSub, Nat.sub_self] <;> rfl
  have ht : decodeTransfer x = .mcrCacheBase1 cond rd :=
    decodeTransfer_cp15 he16_12 he0_12 (by decide) he8_4 (by
      delta decodeCp15 condOf; simp only [he16_12, he0_12, hf, Cond.ofBits_toBits])
  delta decodeArm
  simp [-BitVec.getLsbD_eq_getElem, hf, ht]

theorem RoundTrip.mcrCacheVictim1 (cond : Cond) (rd : RegNum) :
    RoundTrip.Statement (.mcrCacheVictim1 cond rd) := by
  intro _
  delta encode decode
  dsimp only
  generalize hx : cond.toBits ++ 0b111000001001#12 ++ rd ++ 0b111100110001#12 = x
  have he0_12 : x.extractLsb' 0 12 = 0b111100110001#12 := by subst hx; simp (disch := omega) only [append_field_low, append_field_high, append_bit_low, append_bit_high, field_all, ofBool_bit, Nat.reduceSub, Nat.sub_self] <;> rfl
  have he8_4 : x.extractLsb' 8 4 = 0b1111#4 := by subst hx; simp (disch := omega) only [append_field_low, append_field_high, append_bit_low, append_bit_high, field_all, ofBool_bit, Nat.reduceSub, Nat.sub_self] <;> rfl
  have he16_12 : x.extractLsb' 16 12 = 0b111000001001#12 := by subst hx; simp (disch := omega) only [append_field_low, append_field_high, append_bit_low, append_bit_high, field_all, ofBool_bit, Nat.reduceSub, Nat.sub_self] <;> rfl
  have hf : x.getLsbD 4 = true ∧ x.getLsbD 24 = false ∧ x.extractLsb' 12 4 = (rd) ∧ x.extractLsb' 25 3 = 0b111#3 ∧
      x.extractLsb' 28 4 = (cond.toBits) := by
    subst hx; and_intros <;> simp (disch := omega) only [append_field_low, append_field_high, append_bit_low, append_bit_high, field_all, ofBool_bit, Nat.reduceSub, Nat.sub_self] <;> rfl
  have ht : decodeTransfer x = .mcrCacheVictim1 cond rd :=
    decodeTransfer_cp15 he16_12 he0_12 (by decide) he8_4 (by
      delta decodeCp15 condOf; simp only [he16_12, he0_12, hf, Cond.ofBits_toBits])
  delta decodeArm
  simp [-BitVec.getLsbD_eq_getElem, hf, ht]

theorem RoundTrip.mrcTlbLockdown (cond : Cond) (rd : RegNum) :
    RoundTrip.Statement (.mrcTlbLockdown cond rd) := by
  intro _
  delta encode decode
  dsimp only
  generalize hx : cond.toBits ++ 0b111000011010#12 ++ rd ++ 0b111100010000#12 = x
  have he0_12 : x.extractLsb' 0 12 = 0b111100010000#12 := by subst hx; simp (disch := omega) only [append_field_low, append_field_high, append_bit_low, append_bit_high, field_all, ofBool_bit, Nat.reduceSub, Nat.sub_self] <;> rfl
  have he8_4 : x.extractLsb' 8 4 = 0b1111#4 := by subst hx; simp (disch := omega) only [append_field_low, append_field_high, append_bit_low, append_bit_high, field_all, ofBool_bit, Nat.reduceSub, Nat.sub_self] <;> rfl
  have he16_12 : x.extractLsb' 16 12 = 0b111000011010#12 := by subst hx; simp (disch := omega) only [append_field_low, append_field_high, append_bit_low, append_bit_high, field_all, ofBool_bit, Nat.reduceSub, Nat.sub_self] <;> rfl
  have hf : x.getLsbD 4 = true ∧ x.getLsbD 24 = false ∧ x.extractLsb' 12 4 = (rd) ∧ x.extractLsb' 25 3 = 0b111#3 ∧
      x.extractLsb' 28 4 = (cond.toBits) := by
    subst hx; and_intros <;> simp (disch := omega) only [append_field_low, append_field_high, append_bit_low, append_bit_high, field_all, ofBool_bit, Nat.reduceSub, Nat.sub_self] <;> rfl
  have ht : decodeTransfer x = .mrcTlbLockdown cond rd :=
    decodeTransfer_cp15 he16_12 he0_12 (by decide) he8_4 (by
      delta decodeCp15 condOf; simp only [he16_12, he0_12, hf, Cond.ofBits_toBits])
  delta decodeArm
  simp [-BitVec.getLsbD_eq_getElem, hf, ht]

theorem RoundTrip.mcrTlbLockdown (cond : Cond) (rd : RegNum) :
    RoundTrip.Statement (.mcrTlbLockdown cond rd) := by
  intro _
  delta encode decode
  dsimp only
  generalize hx : cond.toBits ++ 0b111000001010#12 ++ rd ++ 0b111100010000#12 = x
  have he0_12 : x.extractLsb' 0 12 = 0b111100010000#12 := by subst hx; simp (disch := omega) only [append_field_low, append_field_high, append_bit_low, append_bit_high, field_all, ofBool_bit, Nat.reduceSub, Nat.sub_self] <;> rfl
  have he8_4 : x.extractLsb' 8 4 = 0b1111#4 := by subst hx; simp (disch := omega) only [append_field_low, append_field_high, append_bit_low, append_bit_high, field_all, ofBool_bit, Nat.reduceSub, Nat.sub_self] <;> rfl
  have he16_12 : x.extractLsb' 16 12 = 0b111000001010#12 := by subst hx; simp (disch := omega) only [append_field_low, append_field_high, append_bit_low, append_bit_high, field_all, ofBool_bit, Nat.reduceSub, Nat.sub_self] <;> rfl
  have hf : x.getLsbD 4 = true ∧ x.getLsbD 24 = false ∧ x.extractLsb' 12 4 = (rd) ∧ x.extractLsb' 25 3 = 0b111#3 ∧
      x.extractLsb' 28 4 = (cond.toBits) := by
    subst hx; and_intros <;> simp (disch := omega) only [append_field_low, append_field_high, append_bit_low, append_bit_high, field_all, ofBool_bit, Nat.reduceSub, Nat.sub_self] <;> rfl
  have ht : decodeTransfer x = .mcrTlbLockdown cond rd :=
    decodeTransfer_cp15 he16_12 he0_12 (by decide) he8_4 (by
      delta decodeCp15 condOf; simp only [he16_12, he0_12, hf, Cond.ofBits_toBits])
  delta decodeArm
  simp [-BitVec.getLsbD_eq_getElem, hf, ht]

theorem RoundTrip.mrcPid (cond : Cond) (rd : RegNum) :
    RoundTrip.Statement (.mrcPid cond rd) := by
  intro _
  delta encode decode
  dsimp only
  generalize hx : cond.toBits ++ 0b111000011101#12 ++ rd ++ 0b111100010000#12 = x
  have he0_12 : x.extractLsb' 0 12 = 0b111100010000#12 := by subst hx; simp (disch := omega) only [append_field_low, append_field_high, append_bit_low, append_bit_high, field_all, ofBool_bit, Nat.reduceSub, Nat.sub_self] <;> rfl
  have he8_4 : x.extractLsb' 8 4 = 0b1111#4 := by subst hx; simp (disch := omega) only [append_field_low, append_field_high, append_bit_low, append_bit_high, field_all, ofBool_bit, Nat.reduceSub, Nat.sub_self] <;> rfl
  have he16_12 : x.extractLsb' 16 12 = 0b111000011101#12 := by subst hx; simp (disch := omega) only [append_field_low, append_field_high, append_bit_low, append_bit_high, field_all, ofBool_bit, Nat.reduceSub, Nat.sub_self] <;> rfl
  have hf : x.getLsbD 4 = true ∧ x.getLsbD 24 = false ∧ x.extractLsb' 12 4 = (rd) ∧ x.extractLsb' 25 3 = 0b111#3 ∧
      x.extractLsb' 28 4 = (cond.toBits) := by
    subst hx; and_intros <;> simp (disch := omega) only [append_field_low, append_field_high, append_bit_low, append_bit_high, field_all, ofBool_bit, Nat.reduceSub, Nat.sub_self] <;> rfl
  have ht : decodeTransfer x = .mrcPid cond rd :=
    decodeTransfer_cp15 he16_12 he0_12 (by decide) he8_4 (by
      delta decodeCp15 condOf; simp only [he16_12, he0_12, hf, Cond.ofBits_toBits])
  delta decodeArm
  simp [-BitVec.getLsbD_eq_getElem, hf, ht]

theorem RoundTrip.mcrPid (cond : Cond) (rd : RegNum) :
    RoundTrip.Statement (.mcrPid cond rd) := by
  intro _
  delta encode decode
  dsimp only
  generalize hx : cond.toBits ++ 0b111000001101#12 ++ rd ++ 0b111100010000#12 = x
  have he0_12 : x.extractLsb' 0 12 = 0b111100010000#12 := by subst hx; simp (disch := omega) only [append_field_low, append_field_high, append_bit_low, append_bit_high, field_all, ofBool_bit, Nat.reduceSub, Nat.sub_self] <;> rfl
  have he8_4 : x.extractLsb' 8 4 = 0b1111#4 := by subst hx; simp (disch := omega) only [append_field_low, append_field_high, append_bit_low, append_bit_high, field_all, ofBool_bit, Nat.reduceSub, Nat.sub_self] <;> rfl
  have he16_12 : x.extractLsb' 16 12 = 0b111000001101#12 := by subst hx; simp (disch := omega) only [append_field_low, append_field_high, append_bit_low, append_bit_high, field_all, ofBool_bit, Nat.reduceSub, Nat.sub_self] <;> rfl
  have hf : x.getLsbD 4 = true ∧ x.getLsbD 24 = false ∧ x.extractLsb' 12 4 = (rd) ∧ x.extractLsb' 25 3 = 0b111#3 ∧
      x.extractLsb' 28 4 = (cond.toBits) := by
    subst hx; and_intros <;> simp (disch := omega) only [append_field_low, append_field_high, append_bit_low, append_bit_high, field_all, ofBool_bit, Nat.reduceSub, Nat.sub_self] <;> rfl
  have ht : decodeTransfer x = .mcrPid cond rd :=
    decodeTransfer_cp15 he16_12 he0_12 (by decide) he8_4 (by
      delta decodeCp15 condOf; simp only [he16_12, he0_12, hf, Cond.ofBits_toBits])
  delta decodeArm
  simp [-BitVec.getLsbD_eq_getElem, hf, ht]

theorem RoundTrip.mrcProcId (cond : Cond) (rd : RegNum) :
    RoundTrip.Statement (.mrcProcId cond rd) := by
  intro _
  delta encode decode
  dsimp only
  generalize hx : cond.toBits ++ 0b111000011101#12 ++ rd ++ 0b111100110000#12 = x
  have he0_12 : x.extractLsb' 0 12 = 0b111100110000#12 := by subst hx; simp (disch := omega) only [append_field_low, append_field_high, append_bit_low, append_bit_high, field_all, ofBool_bit, Nat.reduceSub, Nat.sub_self] <;> rfl
  have he8_4 : x.extractLsb' 8 4 = 0b1111#4 := by subst hx; simp (disch := omega) only [append_field_low, append_field_high, append_bit_low, append_bit_high, field_all, ofBool_bit, Nat.reduceSub, Nat.sub_self] <;> rfl
  have he16_12 : x.extractLsb' 16 12 = 0b111000011101#12 := by subst hx; simp (disch := omega) only [append_field_low, append_field_high, append_bit_low, append_bit_high, field_all, ofBool_bit, Nat.reduceSub, Nat.sub_self] <;> rfl
  have hf : x.getLsbD 4 = true ∧ x.getLsbD 24 = false ∧ x.extractLsb' 12 4 = (rd) ∧ x.extractLsb' 25 3 = 0b111#3 ∧
      x.extractLsb' 28 4 = (cond.toBits) := by
    subst hx; and_intros <;> simp (disch := omega) only [append_field_low, append_field_high, append_bit_low, append_bit_high, field_all, ofBool_bit, Nat.reduceSub, Nat.sub_self] <;> rfl
  have ht : decodeTransfer x = .mrcProcId cond rd :=
    decodeTransfer_cp15 he16_12 he0_12 (by decide) he8_4 (by
      delta decodeCp15 condOf; simp only [he16_12, he0_12, hf, Cond.ofBits_toBits])
  delta decodeArm
  simp [-BitVec.getLsbD_eq_getElem, hf, ht]

theorem RoundTrip.mcrProcId (cond : Cond) (rd : RegNum) :
    RoundTrip.Statement (.mcrProcId cond rd) := by
  intro _
  delta encode decode
  dsimp only
  generalize hx : cond.toBits ++ 0b111000001101#12 ++ rd ++ 0b111100110000#12 = x
  have he0_12 : x.extractLsb' 0 12 = 0b111100110000#12 := by subst hx; simp (disch := omega) only [append_field_low, append_field_high, append_bit_low, append_bit_high, field_all, ofBool_bit, Nat.reduceSub, Nat.sub_self] <;> rfl
  have he8_4 : x.extractLsb' 8 4 = 0b1111#4 := by subst hx; simp (disch := omega) only [append_field_low, append_field_high, append_bit_low, append_bit_high, field_all, ofBool_bit, Nat.reduceSub, Nat.sub_self] <;> rfl
  have he16_12 : x.extractLsb' 16 12 = 0b111000001101#12 := by subst hx; simp (disch := omega) only [append_field_low, append_field_high, append_bit_low, append_bit_high, field_all, ofBool_bit, Nat.reduceSub, Nat.sub_self] <;> rfl
  have hf : x.getLsbD 4 = true ∧ x.getLsbD 24 = false ∧ x.extractLsb' 12 4 = (rd) ∧ x.extractLsb' 25 3 = 0b111#3 ∧
      x.extractLsb' 28 4 = (cond.toBits) := by
    subst hx; and_intros <;> simp (disch := omega) only [append_field_low, append_field_high, append_bit_low, append_bit_high, field_all, ofBool_bit, Nat.reduceSub, Nat.sub_self] <;> rfl
  have ht : decodeTransfer x = .mcrProcId cond rd :=
    decodeTransfer_cp15 he16_12 he0_12 (by decide) he8_4 (by
      delta decodeCp15 condOf; simp only [he16_12, he0_12, hf, Cond.ofBits_toBits])
  delta decodeArm
  simp [-BitVec.getLsbD_eq_getElem, hf, ht]

theorem RoundTrip.mcrTestState (cond : Cond) (rd : RegNum) :
    RoundTrip.Statement (.mcrTestState cond rd) := by
  intro _
  delta encode decode
  dsimp only
  generalize hx : cond.toBits ++ 0b111011101111#12 ++ rd ++ 0b111111111111#12 = x
  have he0_12 : x.extractLsb' 0 12 = 0b111111111111#12 := by subst hx; simp (disch := omega) only [append_field_low, append_field_high, append_bit_low, append_bit_high, field_all, ofBool_bit, Nat.reduceSub, Nat.sub_self] <;> rfl
  have he8_4 : x.extractLsb' 8 4 = 0b1111#4 := by subst hx; simp (disch := omega) only [append_field_low, append_field_high, append_bit_low, append_bit_high, field_all, ofBool_bit, Nat.reduceSub, Nat.sub_self] <;> rfl
  have he16_12 : x.extractLsb' 16 12 = 0b111011101111#12 := by subst hx; simp (disch := omega) only [append_field_low, append_field_high, append_bit_low, append_bit_high, field_all, ofBool_bit, Nat.reduceSub, Nat.sub_self] <;> rfl
  have hf : x.getLsbD 4 = true ∧ x.getLsbD 24 = false ∧ x.extractLsb' 12 4 = (rd) ∧ x.extractLsb' 25 3 = 0b111#3 ∧
      x.extractLsb' 28 4 = (cond.toBits) := by
    subst hx; and_intros <;> simp (disch := omega) only [append_field_low, append_field_high, append_bit_low, append_bit_high, field_all, ofBool_bit, Nat.reduceSub, Nat.sub_self] <;> rfl
  have ht : decodeTransfer x = .mcrTestState cond rd :=
    decodeTransfer_cp15 he16_12 he0_12 (by decide) he8_4 (by
      delta decodeCp15 condOf; simp only [he16_12, he0_12, hf, Cond.ofBits_toBits])
  delta decodeArm
  simp [-BitVec.getLsbD_eq_getElem, hf, ht]

theorem RoundTrip.mrcTestState (cond : Cond) (rd : RegNum) :
    RoundTrip.Statement (.mrcTestState cond rd) := by
  intro _
  delta encode decode
  dsimp only
  generalize hx : cond.toBits ++ 0b111011111111#12 ++ rd ++ 0b111111111111#12 = x
  have he0_12 : x.extractLsb' 0 12 = 0b111111111111#12 := by subst hx; simp (disch := omega) only [append_field_low, append_field_high, append_bit_low, append_bit_high, field_all, ofBool_bit, Nat.reduceSub, Nat.sub_self] <;> rfl
  have he8_4 : x.extractLsb' 8 4 = 0b1111#4 := by subst hx; simp (disch := omega) only [append_field_low, append_field_high, append_bit_low, append_bit_high, field_all, ofBool_bit, Nat.reduceSub, Nat.sub_self] <;> rfl
  have he16_12 : x.extractLsb' 16 12 = 0b111011111111#12 := by subst hx; simp (disch := omega) only [append_field_low, append_field_high, append_bit_low, append_bit_high, field_all, ofBool_bit, Nat.reduceSub, Nat.sub_self] <;> rfl
  have hf : x.getLsbD 4 = true ∧ x.getLsbD 24 = false ∧ x.extractLsb' 12 4 = (rd) ∧ x.extractLsb' 25 3 = 0b111#3 ∧
      x.extractLsb' 28 4 = (cond.toBits) := by
    subst hx; and_intros <;> simp (disch := omega) only [append_field_low, append_field_high, append_bit_low, append_bit_high, field_all, ofBool_bit, Nat.reduceSub, Nat.sub_self] <;> rfl
  have ht : decodeTransfer x = .mrcTestState cond rd :=
    decodeTransfer_cp15 he16_12 he0_12 (by decide) he8_4 (by
      delta decodeCp15 condOf; simp only [he16_12, he0_12, hf, Cond.ofBits_toBits])
  delta decodeArm
  simp [-BitVec.getLsbD_eq_getElem, hf, ht]

theorem RoundTrip.mcrC15C (cond : Cond) (rd : RegNum) :
    RoundTrip.Statement (.mcrC15C cond rd) := by
  intro _
  delta encode decode
  dsimp only
  generalize hx : cond.toBits ++ 0b111001101111#12 ++ rd ++ 0b111100010011#12 = x
  have he0_12 : x.extractLsb' 0 12 = 0b111100010011#12 := by subst hx; simp (disch := omega) only [append_field_low, append_field_high, append_bit_low, append_bit_high, field_all, ofBool_bit, Nat.reduceSub, Nat.sub_self] <;> rfl
  have he8_4 : x.extractLsb' 8 4 = 0b1111#4 := by subst hx; simp (disch := omega) only [append_field_low, append_field_high, append_bit_low, append_bit_high, field_all, ofBool_bit, Nat.reduceSub, Nat.sub_self] <;> rfl
  have he16_12 : x.extractLsb' 16 12 = 0b111001101111#12 := by subst hx; simp (disch := omega) only [append_field_low, append_field_high, append_bit_low, append_bit_high, field_all, ofBool_bit, Nat.reduceSub, Nat.sub_self] <;> rfl
  have hf : x.getLsbD 4 = true ∧ x.getLsbD 24 = false ∧ x.extractLsb' 12 4 = (rd) ∧ x.extractLsb' 25 3 = 0b111#3 ∧
      x.extractLsb' 28 4 = (cond.toBits) := by
    subst hx; and_intros <;> simp (disch := omega) only [append_field_low, append_field_high, append_bit_low, append_bit_high, field_all, ofBool_bit, Nat.reduceSub, Nat.sub_self] <;> rfl
  have ht : decodeTransfer x = .mcrC15C cond rd :=
    decodeTransfer_cp15 he16_12 he0_12 (by decide) he8_4 (by
      delta decodeCp15 condOf; simp only [he16_12, he0_12, hf, Cond.ofBits_toBits])
  delta decodeArm
  simp [-BitVec.getLsbD_eq_getElem, hf, ht]

theorem RoundTrip.mrcC15C (cond : Cond) (rd : RegNum) :
    RoundTrip.Statement (.mrcC15C cond rd) := by
  intro _
  delta encode decode
  dsimp only
  generalize hx : cond.toBits ++ 0b111001111111#12 ++ rd ++ 0b111100010011#12 = x
  have he0_12 : x.extractLsb' 0 12 = 0b111100010011#12 := by subst hx; simp (disch := omega) only [append_field_low, append_field_high, append_bit_low, append_bit_high, field_all, ofBool_bit, Nat.reduceSub, Nat.sub_self] <;> rfl
  have he8_4 : x.extractLsb' 8 4 = 0b1111#4 := by subst hx; simp (disch := omega) only [append_field_low, append_field_high, append_bit_low, append_bit_high, field_all, ofBool_bit, Nat.reduceSub, Nat.sub_self] <;> rfl
  have he16_12 : x.extractLsb' 16 12 = 0b111001111111#12 := by subst hx; simp (disch := omega) only [append_field_low, append_field_high, append_bit_low, append_bit_high, field_all, ofBool_bit, Nat.reduceSub, Nat.sub_self] <;> rfl
  have hf : x.getLsbD 4 = true ∧ x.getLsbD 24 = false ∧ x.extractLsb' 12 4 = (rd) ∧ x.extractLsb' 25 3 = 0b111#3 ∧
      x.extractLsb' 28 4 = (cond.toBits) := by
    subst hx; and_intros <;> simp (disch := omega) only [append_field_low, append_field_high, append_bit_low, append_bit_high, field_all, ofBool_bit, Nat.reduceSub, Nat.sub_self] <;> rfl
  have ht : decodeTransfer x = .mrcC15C cond rd :=
    decodeTransfer_cp15 he16_12 he0_12 (by decide) he8_4 (by
      delta decodeCp15 condOf; simp only [he16_12, he0_12, hf, Cond.ofBits_toBits])
  delta decodeArm
  simp [-BitVec.getLsbD_eq_getElem, hf, ht]

theorem RoundTrip.mcrCacheCamRead (cond : Cond) (rd : RegNum) :
    RoundTrip.Statement (.mcrCacheCamRead cond rd) := by
  intro _
  delta encode decode
  dsimp only
  generalize hx : cond.toBits ++ 0b111001001111#12 ++ rd ++ 0b111101010111#12 = x
  have he0_12 : x.extractLsb' 0 12 = 0b111101010111#12 := by subst hx; simp (disch := omega) only [append_field_low, append_field_high, append_bit_low, append_bit_high, field_all, ofBool_bit, Nat.reduceSub, Nat.sub_self] <;> rfl
  have he8_4 : x.extractLsb' 8 4 = 0b1111#4 := by subst hx; simp (disch := omega) only [append_field_low, append_field_high, append_bit_low, append_bit_high, field_all, ofBool_bit, Nat.reduceSub, Nat.sub_self] <;> rfl
  have he16_12 : x.extractLsb' 16 12 = 0b111001001111#12 := by subst hx; simp (disch := omega) only [append_field_low, append_field_high, append_bit_low, append_bit_high, field_all, ofBool_bit, Nat.reduceSub, Nat.sub_self] <;> rfl
  have hf : x.getLsbD 4 = true ∧ x.getLsbD 24 = false ∧ x.extractLsb' 12 4 = (rd) ∧ x.extractLsb' 25 3 = 0b111#3 ∧
      x.extractLsb' 28 4 = (cond.toBits) := by
    subst hx; and_intros <;> simp (disch := omega) only [append_field_low, append_field_high, append_bit_low, append_bit_high, field_all, ofBool_bit, Nat.reduceSub, Nat.sub_self] <;> rfl
  have ht : decodeTransfer x = .mcrCacheCamRead cond rd :=
    decodeTransfer_cp15 he16_12 he0_12 (by decide) he8_4 (by
      delta decodeCp15 condOf; simp only [he16_12, he0_12, hf, Cond.ofBits_toBits])
  delta decodeArm
  simp [-BitVec.getLsbD_eq_getElem, hf, ht]

theorem RoundTrip.mcrCacheCamWrite (cond : Cond) (rd : RegNum) :
    RoundTrip.Statement (.mcrCacheCamWrite cond rd) := by
  intro _
  delta encode decode
  dsimp only
  generalize hx : cond.toBits ++ 0b111001001111#12 ++ rd ++ 0b111111010111#12 = x
  have he0_12 : x.extractLsb' 0 12 = 0b111111010111#12 := by subst hx; simp (disch := omega) only [append_field_low, append_field_high, append_bit_low, append_bit_high, field_all, ofBool_bit, Nat.reduceSub, Nat.sub_self] <;> rfl
  have he8_4 : x.extractLsb' 8 4 = 0b1111#4 := by subst hx; simp (disch := omega) only [append_field_low, append_field_high, append_bit_low, append_bit_high, field_all, ofBool_bit, Nat.reduceSub, Nat.sub_self] <;> rfl
  have he16_12 : x.extractLsb' 16 12 = 0b111001001111#12 := by subst hx; simp (disch := omega) only [append_field_low, append_field_high, append_bit_low, append_bit_high, field_all, ofBool_bit, Nat.reduceSub, Nat.sub_self] <;> rfl
  have hf : x.getLsbD 4 = true ∧ x.getLsbD 24 = false ∧ x.extractLsb' 12 4 = (rd) ∧ x.extractLsb' 25 3 = 0b111#3 ∧
      x.extractLsb' 28 4 = (cond.toBits) := by
    subst hx; and_intros <;> simp (disch := omega) only [append_field_low, append_field_high, append_bit_low, append_bit_high, field_all, ofBool_bit, Nat.reduceSub, Nat.sub_self] <;> rfl
  have ht : decodeTransfer x = .mcrCacheCamWrite cond rd :=
    decodeTransfer_cp15 he16_12 he0_12 (by decide) he8_4 (by
      delta decodeCp15 condOf; simp only [he16_12, he0_12, hf, Cond.ofBits_toBits])
  delta decodeArm
  simp [-BitVec.getLsbD_eq_getElem, hf, ht]

theorem RoundTrip.mcrCacheRamRead (cond : Cond) (rd : RegNum) :
    RoundTrip.Statement (.mcrCacheRamRead cond rd) := by
  intro _
  delta encode decode
  dsimp only
  generalize hx : cond.toBits ++ 0b111001001111#12 ++ rd ++ 0b111101011011#12 = x
  have he0_12 : x.extractLsb' 0 12 = 0b111101011011#12 := by subst hx; simp (disch := omega) only [append_field_low, append_field_high, append_bit_low, append_bit_high, field_all, ofBool_bit, Nat.reduceSub, Nat.sub_self] <;> rfl
  have he8_4 : x.extractLsb' 8 4 = 0b1111#4 := by subst hx; simp (disch := omega) only [append_field_low, append_field_high, append_bit_low, append_bit_high, field_all, ofBool_bit, Nat.reduceSub, Nat.sub_self] <;> rfl
  have he16_12 : x.extractLsb' 16 12 = 0b111001001111#12 := by subst hx; simp (disch := omega) only [append_field_low, append_field_high, append_bit_low, append_bit_high, field_all, ofBool_bit, Nat.reduceSub, Nat.sub_self] <;> rfl
  have hf : x.getLsbD 4 = true ∧ x.getLsbD 24 = false ∧ x.extractLsb' 12 4 = (rd) ∧ x.extractLsb' 25 3 = 0b111#3 ∧
      x.extractLsb' 28 4 = (cond.toBits) := by
    subst hx; and_intros <;> simp (disch := omega) only [append_field_low, append_field_high, append_bit_low, append_bit_high, field_all, ofBool_bit, Nat.reduceSub, Nat.sub_self] <;> rfl
  have ht : decodeTransfer x = .mcrCacheRamRead cond rd :=
    decodeTransfer_cp15 he16_12 he0_12 (by decide) he8_4 (by
      delta decodeCp15 condOf; simp only [he16_12, he0_12, hf, Cond.ofBits_toBits])
  delta decodeArm
  simp [-BitVec.getLsbD_eq_getElem, hf, ht]

theorem RoundTrip.mcrCacheRamWrite (cond : Cond) (rd : RegNum) :
    RoundTrip.Statement (.mcrCacheRamWrite cond rd) := by
  intro _
  delta encode decode
  dsimp only
  generalize hx : cond.toBits ++ 0b111001001111#12 ++ rd ++ 0b111111011011#12 = x
  have he0_12 : x.extractLsb' 0 12 = 0b111111011011#12 := by subst hx; simp (disch := omega) only [append_field_low, append_field_high, append_bit_low, append_bit_high, field_all, ofBool_bit, Nat.reduceSub, Nat.sub_self] <;> rfl
  have he8_4 : x.extractLsb' 8 4 = 0b1111#4 := by subst hx; simp (disch := omega) only [append_field_low, append_field_high, append_bit_low, append_bit_high, field_all, ofBool_bit, Nat.reduceSub, Nat.sub_self] <;> rfl
  have he16_12 : x.extractLsb' 16 12 = 0b111001001111#12 := by subst hx; simp (disch := omega) only [append_field_low, append_field_high, append_bit_low, append_bit_high, field_all, ofBool_bit, Nat.reduceSub, Nat.sub_self] <;> rfl
  have hf : x.getLsbD 4 = true ∧ x.getLsbD 24 = false ∧ x.extractLsb' 12 4 = (rd) ∧ x.extractLsb' 25 3 = 0b111#3 ∧
      x.extractLsb' 28 4 = (cond.toBits) := by
    subst hx; and_intros <;> simp (disch := omega) only [append_field_low, append_field_high, append_bit_low, append_bit_high, field_all, ofBool_bit, Nat.reduceSub, Nat.sub_self] <;> rfl
  have ht : decodeTransfer x = .mcrCacheRamWrite cond rd :=
    decodeTransfer_cp15 he16_12 he0_12 (by decide) he8_4 (by
      delta decodeCp15 condOf; simp only [he16_12, he0_12, hf, Cond.ofBits_toBits])
  delta decodeArm
  simp [-BitVec.getLsbD_eq_getElem, hf, ht]

theorem RoundTrip.mcrCacheCamMatch (cond : Cond) (rd : RegNum) :
    RoundTrip.Statement (.mcrCacheCamMatch cond rd) := by
  intro _
  delta encode decode
  dsimp only
  generalize hx : cond.toBits ++ 0b111001001111#12 ++ rd ++ 0b111110110111#12 = x
  have he0_12 : x.extractLsb' 0 12 = 0b111110110111#12 := by subst hx; simp (disch := omega) only [append_field_low, append_field_high, append_bit_low, append_bit_high, field_all, ofBool_bit, Nat.reduceSub, Nat.sub_self] <;> rfl
  have he8_4 : x.extractLsb' 8 4 = 0b1111#4 := by subst hx; simp (disch := omega) only [append_field_low, append_field_high, append_bit_low, append_bit_high, field_all, ofBool_bit, Nat.reduceSub, Nat.sub_self] <;> rfl
  have he16_12 : x.extractLsb' 16 12 = 0b111001001111#12 := by subst hx; simp (disch := omega) only [append_field_low, append_field_high, append_bit_low, append_bit_high, field_all, ofBool_bit, Nat.reduceSub, Nat.sub_self] <;> rfl
  have hf : x.getLsbD 4 = true ∧ x.getLsbD 24 = false ∧ x.extractLsb' 12 4 = (rd) ∧ x.extractLsb' 25 3 = 0b111#3 ∧
      x.extractLsb' 28 4 = (cond.toBits) := by
    subst hx; and_intros <;> simp (disch := omega) only [append_field_low, append_field_high, append_bit_low, append_bit_high, field_all, ofBool_bit, Nat.reduceSub, Nat.sub_self] <;> rfl
  have ht : decodeTransfer x = .mcrCacheCamMatch cond rd :=
    decodeTransfer_cp15 he16_12 he0_12 (by decide) he8_4 (by
      delta decodeCp15 condOf; simp only [he16_12, he0_12, hf, Cond.ofBits_toBits])
  delta decodeArm
  simp [-BitVec.getLsbD_eq_getElem, hf, ht]

theorem RoundTrip.mrcC15M (cond : Cond) (rd : RegNum) :
    RoundTrip.Statement (.mrcC15M cond rd) := by
  intro _
  delta encode decode
  dsimp only
  generalize hx : cond.toBits ++ 0b111010011111#12 ++ rd ++ 0b111100010011#12 = x
  have he0_12 : x.extractLsb' 0 12 = 0b111100010011#12 := by subst hx; simp (disch := omega) only [append_field_low, append_field_high, append_bit_low, append_bit_high, field_all, ofBool_bit, Nat.reduceSub, Nat.sub_self] <;> rfl
  have he8_4 : x.extractLsb' 8 4 = 0b1111#4 := by subst hx; simp (disch := omega) only [append_field_low, append_field_high, append_bit_low, append_bit_high, field_all, ofBool_bit, Nat.reduceSub, Nat.sub_self] <;> rfl
  have he16_12 : x.extractLsb' 16 12 = 0b111010011111#12 := by subst hx; simp (disch := omega) only [append_field_low, append_field_high, append_bit_low, append_bit_high, field_all, ofBool_bit, Nat.reduceSub, Nat.sub_self] <;> rfl
  have hf : x.getLsbD 4 = true ∧ x.getLsbD 24 = false ∧ x.extractLsb' 12 4 = (rd) ∧ x.extractLsb' 25 3 = 0b111#3 ∧
      x.extractLsb' 28 4 = (cond.toBits) := by
    subst hx; and_intros <;> simp (disch := omega) only [append_field_low, append_field_high, append_bit_low, append_bit_high, field_all, ofBool_bit, Nat.reduceSub, Nat.sub_self] <;> rfl
  have ht : decodeTransfer x = .mrcC15M cond rd :=
    decodeTransfer_cp15 he16_12 he0_12 (by decide) he8_4 (by
      delta decodeCp15 condOf; simp only [he16_12, he0_12, hf, Cond.ofBits_toBits])
  delta decodeArm
  simp [-BitVec.getLsbD_eq_getElem, hf, ht]

theorem RoundTrip.mrcC15MAlt (cond : Cond) (rd : RegNum) :
    RoundTrip.Statement (.mrcC15MAlt cond rd) := by
  intro _
  delta encode decode
  dsimp only
  generalize hx : cond.toBits ++ 0b111010011111#12 ++ rd ++ 0b111111010011#12 = x
  have he0_12 : x.extractLsb' 0 12 = 0b111111010011#12 := by subst hx; simp (disch := omega) only [append_field_low, append_field_high, append_bit_low, append_bit_high, field_all, ofBool_bit, Nat.reduceSub, Nat.sub_self] <;> rfl
  have he8_4 : x.extractLsb' 8 4 = 0b1111#4 := by subst hx; simp (disch := omega) only [append_field_low, append_field_high, append_bit_low, append_bit_high, field_all, ofBool_bit, Nat.reduceSub, Nat.sub_self] <;> rfl
  have he16_12 : x.extractLsb' 16 12 = 0b111010011111#12 := by subst hx; simp (disch := omega) only [append_field_low, append_field_high, append_bit_low, append_bit_high, field_all, ofBool_bit, Nat.reduceSub, Nat.sub_self] <;> rfl
  have hf : x.getLsbD 4 = true ∧ x.getLsbD 24 = false ∧ x.extractLsb' 12 4 = (rd) ∧ x.extractLsb' 25 3 = 0b111#3 ∧
      x.extractLsb' 28 4 = (cond.toBits) := by
    subst hx; and_intros <;> simp (disch := omega) only [append_field_low, append_field_high, append_bit_low, append_bit_high, field_all, ofBool_bit, Nat.reduceSub, Nat.sub_self] <;> rfl
  have ht : decodeTransfer x = .mrcC15MAlt cond rd :=
    decodeTransfer_cp15 he16_12 he0_12 (by decide) he8_4 (by
      delta decodeCp15 condOf; simp only [he16_12, he0_12, hf, Cond.ofBits_toBits])
  delta decodeArm
  simp [-BitVec.getLsbD_eq_getElem, hf, ht]

theorem RoundTrip.mcrTlbCamRead (cond : Cond) (rd : RegNum) :
    RoundTrip.Statement (.mcrTlbCamRead cond rd) := by
  intro _
  delta encode decode
  dsimp only
  generalize hx : cond.toBits ++ 0b111010001111#12 ++ rd ++ 0b111110010111#12 = x
  have he0_12 : x.extractLsb' 0 12 = 0b111110010111#12 := by subst hx; simp (disch := omega) only [append_field_low, append_field_high, append_bit_low, append_bit_high, field_all, ofBool_bit, Nat.reduceSub, Nat.sub_self] <;> rfl
  have he8_4 : x.extractLsb' 8 4 = 0b1111#4 := by subst hx; simp (disch := omega) only [append_field_low, append_field_high, append_bit_low, append_bit_high, field_all, ofBool_bit, Nat.reduceSub, Nat.sub_self] <;> rfl
  have he16_12 : x.extractLsb' 16 12 = 0b111010001111#12 := by subst hx; simp (disch := omega) only [append_field_low, append_field_high, append_bit_low, append_bit_high, field_all, ofBool_bit, Nat.reduceSub, Nat.sub_self] <;> rfl
  have hf : x.getLsbD 4 = true ∧ x.getLsbD 24 = false ∧ x.extractLsb' 12 4 = (rd) ∧ x.extractLsb' 25 3 = 0b111#3 ∧
      x.extractLsb' 28 4 = (cond.toBits) := by
    subst hx; and_intros <;> simp (disch := omega) only [append_field_low, append_field_high, append_bit_low, append_bit_high, field_all, ofBool_bit, Nat.reduceSub, Nat.sub_self] <;> rfl
  have ht : decodeTransfer x = .mcrTlbCamRead cond rd :=
    decodeTransfer_cp15 he16_12 he0_12 (by decide) he8_4 (by
      delta decodeCp15 condOf; simp only [he16_12, he0_12, hf, Cond.ofBits_toBits])
  delta decodeArm
  simp [-BitVec.getLsbD_eq_getElem, hf, ht]

theorem RoundTrip.mcrTlbCamWrite (cond : Cond) (rd : RegNum) :
    RoundTrip.Statement (.mcrTlbCamWrite cond rd) := by
  intro _
  delta encode decode
  dsimp only
  generalize hx : cond.toBits ++ 0b111010001111#12 ++ rd ++ 0b111100010111#12 = x
  have he0_12 : x.extractLsb' 0 12 = 0b111100010111#12 := by subst hx; simp (disch := omega) only [append_field_low, append_field_high, append_bit_low, append_bit_high, field_all, ofBool_bit, Nat.reduceSub, Nat.sub_self] <;> rfl
  have he8_4 : x.extractLsb' 8 4 = 0b1111#4 := by subst hx; simp (disch := omega) only [append_field_low, append_field_high, append_bit_low, append_bit_high, field_all, ofBool_bit, Nat.reduceSub, Nat.sub_self] <;> rfl
  have he16_12 : x.extractLsb' 16 12 = 0b111010001111#12 := by subst hx; simp (disch := omega) only [append_field_low, append_field_high, append_bit_low, append_bit_high, field_all, ofBool_bit, Nat.reduceSub, Nat.sub_self] <;> rfl
  have hf : x.getLsbD 4 = true ∧ x.getLsbD 24 = false ∧ x.extractLsb' 12 4 = (rd) ∧ x.extractLsb' 25 3 = 0b111#3 ∧
      x.extractLsb' 28 4 = (cond.toBits) := by
    subst hx; and_intros <;> simp (disch := omega) only [append_field_low, append_field_high, append_bit_low, append_bit_high, field_all, ofBool_bit, Nat.reduceSub, Nat.sub_self] <;> rfl
  have ht : decodeTransfer x = .mcrTlbCamWrite cond rd :=
    decodeTransfer_cp15 he16_12 he0_12 (by decide) he8_4 (by
      delta decodeCp15 condOf; simp only [he16_12, he0_12, hf, Cond.ofBits_toBits])
  delta decodeArm
  simp [-BitVec.getLsbD_eq_getElem, hf, ht]

theorem RoundTrip.mcrTlbRam1Read (cond : Cond) (rd : RegNum) :
    RoundTrip.Statement (.mcrTlbRam1Read cond rd) := by
  intro _
  delta encode decode
  dsimp only
  generalize hx : cond.toBits ++ 0b111010001111#12 ++ rd ++ 0b111110011011#12 = x
  have he0_12 : x.extractLsb' 0 12 = 0b111110011011#12 := by subst hx; simp (disch := omega) only [append_field_low, append_field_high, append_bit_low, append_bit_high, field_all, ofBool_bit, Nat.reduceSub, Nat.sub_self] <;> rfl
  have he8_4 : x.extractLsb' 8 4 = 0b1111#4 := by subst hx; simp (disch := omega) only [append_field_low, append_field_high, append_bit_low, append_bit_high, field_all, ofBool_bit, Nat.reduceSub, Nat.sub_self] <;> rfl
  have he16_12 : x.extractLsb' 16 12 = 0b111010001111#12 := by subst hx; simp (disch := omega) only [append_field_low, append_field_high, append_bit_low, append_bit_high, field_all, ofBool_bit, Nat.reduceSub, Nat.sub_self] <;> rfl
  have hf : x.getLsbD 4 = true ∧ x.getLsbD 24 = false ∧ x.extractLsb' 12 4 = (rd) ∧ x.extractLsb' 25 3 = 0b111#3 ∧
      x.extractLsb' 28 4 = (cond.toBits) := by
    subst hx; and_intros <;> simp (disch := omega) only [append_field_low, append_field_high, append_bit_low, append_bit_high, field_all, ofBool_bit, Nat.reduceSub, Nat.sub_self] <;> rfl
  have ht : decodeTransfer x = .mcrTlbRam1Read cond rd :=
    decodeTransfer_cp15 he16_12 he0_12 (by decide) he8_4 (by
      delta decodeCp15 condOf; simp only [he16_12, he0_12, hf, Cond.ofBits_toBits])
  delta decodeArm
  simp [-BitVec.getLsbD_eq_getElem, hf, ht]

theorem RoundTrip.mcrTlbRam1Write (cond : Cond) (rd : RegNum) :
    RoundTrip.Statement (.mcrTlbRam1Write cond rd) := by
  intro _
  delta encode decode
  dsimp only
  generalize hx : cond.toBits ++ 0b111010001111#12 ++ rd ++ 0b111100011011#12 = x
  have he0_12 : x.extractLsb' 0 12 = 0b111100011011#12 := by subst hx; simp (disch := omega) only [append_field_low, append_field_high, append_bit_low, append_bit_high, field_all, ofBool_bit, Nat.reduceSub, Nat.sub_self] <;> rfl
  have he8_4 : x.extractLsb' 8 4 = 0b1111#4 := by subst hx; simp (disch := omega) only [append_field_low, append_field_high, append_bit_low, append_bit_high, field_all, ofBool_bit, Nat.reduceSub, Nat.sub_self] <;> rfl
  have he16_12 : x.extractLsb' 16 12 = 0b111010001111#12 := by subst hx; simp (disch := omega) only [append_field_low, append_field_high, append_bit_low, append_bit_high, field_all, ofBool_bit, Nat.reduceSub, Nat.sub_self] <;> rfl
  have hf : x.getLsbD 4 = true ∧ x.getLsbD 24 = false ∧ x.extractLsb' 12 4 = (rd) ∧ x.extractLsb' 25 3 = 0b111#3 ∧
      x.extractLsb' 28 4 = (cond.toBits) := by
    subst hx; and_intros <;> simp (disch := omega) only [append_field_low, append_field_high, append_bit_low, append_bit_high, field_all, ofBool_bit, Nat.reduceSub, Nat.sub_self] <;> rfl
  have ht : decodeTransfer x = .mcrTlbRam1Write cond rd :=
    decodeTransfer_cp15 he16_12 he0_12 (by decide) he8_4 (by
      delta decodeCp15 condOf; simp only [he16_12, he0_12, hf, Cond.ofBits_toBits])
  delta decodeArm
  simp [-BitVec.getLsbD_eq_getElem, hf, ht]

theorem RoundTrip.mcrTlbRam2Read (cond : Cond) (rd : RegNum) :
    RoundTrip.Statement (.mcrTlbRam2Read cond rd) := by
  intro _
  delta encode decode
  dsimp only
  generalize hx : cond.toBits ++ 0b111010001111#12 ++ rd ++ 0b111110110011#12 = x
  have he0_12 : x.extractLsb' 0 12 = 0b111110110011#12 := by subst hx; simp (disch := omega) only [append_field_low, append_field_high, append_bit_low, append_bit_high, field_all, ofBool_bit, Nat.reduceSub, Nat.sub_self] <;> rfl
  have he8_4 : x.extractLsb' 8 4 = 0b1111#4 := by subst hx; simp (disch := omega) only [append_field_low, append_field_high, append_bit_low, append_bit_high, field_all, ofBool_bit, Nat.reduceSub, Nat.sub_self] <;> rfl
  have he16_12 : x.extractLsb' 16 12 = 0b111010001111#12 := by subst hx; simp (disch := omega) only [append_field_low, append_field_high, append_bit_low, append_bit_high, field_all, ofBool_bit, Nat.reduceSub, Nat.sub_self] <;> rfl
  have hf : x.getLsbD 4 = true ∧ x.getLsbD 24 = false ∧ x.extractLsb' 12 4 = (rd) ∧ x.extractLsb' 25 3 = 0b111#3 ∧
      x.extractLsb' 28 4 = (cond.toBits) := by
    subst hx; and_intros <;> simp (disch := omega) only [append_field_low, append_field_high, append_bit_low, append_bit_high, field_all, ofBool_bit, Nat.reduceSub, Nat.sub_self] <;> rfl
  have ht : decodeTransfer x = .mcrTlbRam2Read cond rd :=
    decodeTransfer_cp15 he16_12 he0_12 (by decide) he8_4 (by
      delta decodeCp15 condOf; simp only [he16_12, he0_12, hf, Cond.ofBits_toBits])
  delta decodeArm
  simp [-BitVec.getLsbD_eq_getElem, hf, ht]

theorem RoundTrip.mcrTlbRam2Write (cond : Cond) (rd : RegNum) :
    RoundTrip.Statement (.mcrTlbRam2Write cond rd) := by
  intro _
  delta encode decode
  dsimp only
  generalize hx : cond.toBits ++ 0b111010001111#12 ++ rd ++ 0b111100110011#12 = x
  have he0_12 : x.extractLsb' 0 12 = 0b111100110011#12 := by subst hx; simp (disch := omega) only [append_field_low, append_field_high, append_bit_low, append_bit_high, field_all, ofBool_bit, Nat.reduceSub, Nat.sub_self] <;> rfl
  have he8_4 : x.extractLsb' 8 4 = 0b1111#4 := by subst hx; simp (disch := omega) only [append_field_low, append_field_high, append_bit_low, append_bit_high, field_all, ofBool_bit, Nat.reduceSub, Nat.sub_self] <;> rfl
  have he16_12 : x.extractLsb' 16 12 = 0b111010001111#12 := by subst hx; simp (disch := omega) only [append_field_low, append_field_high, append_bit_low, append_bit_high, field_all, ofBool_bit, Nat.reduceSub, Nat.sub_self] <;> rfl
  have hf : x.getLsbD 4 = true ∧ x.getLsbD 24 = false ∧ x.extractLsb' 12 4 = (rd) ∧ x.extractLsb' 25 3 = 0b111#3 ∧
      x.extractLsb' 28 4 = (cond.toBits) := by
    subst hx; and_intros <;> simp (disch := omega) only [append_field_low, append_field_high, append_bit_low, append_bit_high, field_all, ofBool_bit, Nat.reduceSub, Nat.sub_self] <;> rfl
  have ht : decodeTransfer x = .mcrTlbRam2Write cond rd :=
    decodeTransfer_cp15 he16_12 he0_12 (by decide) he8_4 (by
      delta decodeCp15 condOf; simp only [he16_12, he0_12, hf, Cond.ofBits_toBits])
  delta decodeArm
  simp [-BitVec.getLsbD_eq_getElem, hf, ht]

theorem RoundTrip.mcrTlbCamMatch (cond : Cond) (rd : RegNum) :
    RoundTrip.Statement (.mcrTlbCamMatch cond rd) := by
  intro _
  delta encode decode
  dsimp only
  generalize hx : cond.toBits ++ 0b111010001111#12 ++ rd ++ 0b111110011101#12 = x
  have he0_12 : x.extractLsb' 0 12 = 0b111110011101#12 := by subst hx; simp (disch := omega) only [append_field_low, append_field_high, append_bit_low, append_bit_high, field_all, ofBool_bit, Nat.reduceSub, Nat.sub_self] <;> rfl
  have he8_4 : x.extractLsb' 8 4 = 0b1111#4 := by subst hx; simp (disch := omega) only [append_field_low, append_field_high, append_bit_low, append_bit_high, field_all, ofBool_bit, Nat.reduceSub, Nat.sub_self] <;> rfl
  have he16_12 : x.extractLsb' 16 12 = 0b111010001111#12 := by subst hx; simp (disch := omega) only [append_field_low, append_field_high, append_bit_low, append_bit_high, field_all, ofBool_bit, Nat.reduceSub, Nat.sub_self] <;> rfl
  have hf : x.getLsbD 4 = true ∧ x.getLsbD 24 = false ∧ x.extractLsb' 12 4 = (rd) ∧ x.extractLsb' 25 3 = 0b111#3 ∧
      x.extractLsb' 28 4 = (cond.toBits) := by
    subst hx; and_intros <;> simp (disch := omega) only [append_field_low, append_field_high, append_bit_low, append_bit_high, field_all, ofBool_bit, Nat.reduceSub, Nat.sub_self] <;> rfl
  have ht : decodeTransfer x = .mcrTlbCamMatch cond rd :=
    decodeTransfer_cp15 he16_12 he0_12 (by decide) he8_4 (by
      delta decodeCp15 condOf; simp only [he16_12, he0_12, hf, Cond.ofBits_toBits])
  delta decodeArm
  simp [-BitVec.getLsbD_eq_getElem, hf, ht]

theorem RoundTrip.mrcDccControl (cond : Cond) (op1 : BitVec 3) (rd : RegNum) (op2 : BitVec 3) (crm : BitVec 4) :
    RoundTrip.Statement (.mrcDccControl cond op1 rd op2 crm) := by
  intro _
  delta encode decode
  dsimp only
  generalize hx : cond.toBits ++ 0b1110#4 ++ op1 ++ 0b10000#5 ++ rd ++ 0b1110#4 ++ op2 ++ 0b1#1 ++ crm = x
  have he4_1 : x.extractLsb' 4 1 = 0b1#1 := by subst hx; simp (disch := omega) only [append_field_low, append_field_high, append_bit_low, append_bit_high, field_all, ofBool_bit, Nat.reduceSub, Nat.sub_self] <;> rfl
  have he8_4 : x.extractLsb' 8 4 = 0b1110#4 := by subst hx; simp (disch := omega) only [append_field_low, append_field_high, append_bit_low, append_bit_high, field_all, ofBool_bit, Nat.reduceSub, Nat.sub_self] <;> rfl
  have hf : x.getLsbD 4 = true ∧ x.getLsbD 24 = false ∧ x.extractLsb' 0 4 = (crm) ∧ x.extractLsb' 5 3 = (op2) ∧
      x.extractLsb' 12 4 = (rd) ∧ x.extractLsb' 16 5 = 0b10000#5 ∧ x.extractLsb' 21 3 = (op1) ∧ x.extractLsb' 25 3 =
      0b111#3 ∧ x.extractLsb' 28 4 = (cond.toBits) := by
    subst hx; and_intros <;> simp (disch := omega) only [append_field_low, append_field_high, append_bit_low, append_bit_high, field_all, ofBool_bit, Nat.reduceSub, Nat.sub_self] <;> rfl
  have ht : decodeTransfer x = .mrcDccControl cond op1 rd op2 crm :=
    decodeTransfer_cp14 he8_4 he4_1 (by delta decodeCp14 condOf; simp only [hf, he8_4, he4_1, Cond.ofBits_toBits])
  delta decodeArm
  simp [-BitVec.getLsbD_eq_getElem, hf, ht]

theorem RoundTrip.mrcDccData (cond : Cond) (op1 : BitVec 3) (rd : RegNum) (op2 : BitVec 3) (crm : BitVec 4) :
    RoundTrip.Statement (.mrcDccData cond op1 rd op2 crm) := by
  intro _
  delta encode decode
  dsimp only
  generalize hx : cond.toBits ++ 0b1110#4 ++ op1 ++ 0b10001#5 ++ rd ++ 0b1110#4 ++ op2 ++ 0b1#1 ++ crm = x
  have he4_1 : x.extractLsb' 4 1 = 0b1#1 := by subst hx; simp (disch := omega) only [append_field_low, append_field_high, append_bit_low, append_bit_high, field_all, ofBool_bit, Nat.reduceSub, Nat.sub_self] <;> rfl
  have he8_4 : x.extractLsb' 8 4 = 0b1110#4 := by subst hx; simp (disch := omega) only [append_field_low, append_field_high, append_bit_low, append_bit_high, field_all, ofBool_bit, Nat.reduceSub, Nat.sub_self] <;> rfl
  have hf : x.getLsbD 4 = true ∧ x.getLsbD 24 = false ∧ x.extractLsb' 0 4 = (crm) ∧ x.extractLsb' 5 3 = (op2) ∧
      x.extractLsb' 12 4 = (rd) ∧ x.extractLsb' 16 5 = 0b10001#5 ∧ x.extractLsb' 21 3 = (op1) ∧ x.extractLsb' 25 3 =
      0b111#3 ∧ x.extractLsb' 28 4 = (cond.toBits) := by
    subst hx; and_intros <;> simp (disch := omega) only [append_field_low, append_field_high, append_bit_low, append_bit_high, field_all, ofBool_bit, Nat.reduceSub, Nat.sub_self] <;> rfl
  have ht : decodeTransfer x = .mrcDccData cond op1 rd op2 crm :=
    decodeTransfer_cp14 he8_4 he4_1 (by delta decodeCp14 condOf; simp only [hf, he8_4, he4_1, Cond.ofBits_toBits])
  delta decodeArm
  simp [-BitVec.getLsbD_eq_getElem, hf, ht]

theorem RoundTrip.mcrDccData (cond : Cond) (op1 : BitVec 3) (rd : RegNum) (op2 : BitVec 3) (crm : BitVec 4) :
    RoundTrip.Statement (.mcrDccData cond op1 rd op2 crm) := by
  intro _
  delta encode decode
  dsimp only
  generalize hx : cond.toBits ++ 0b1110#4 ++ op1 ++ 0b00001#5 ++ rd ++ 0b1110#4 ++ op2 ++ 0b1#1 ++ crm = x
  have he4_1 : x.extractLsb' 4 1 = 0b1#1 := by subst hx; simp (disch := omega) only [append_field_low, append_field_high, append_bit_low, append_bit_high, field_all, ofBool_bit, Nat.reduceSub, Nat.sub_self] <;> rfl
  have he8_4 : x.extractLsb' 8 4 = 0b1110#4 := by subst hx; simp (disch := omega) only [append_field_low, append_field_high, append_bit_low, append_bit_high, field_all, ofBool_bit, Nat.reduceSub, Nat.sub_self] <;> rfl
  have hf : x.getLsbD 4 = true ∧ x.getLsbD 24 = false ∧ x.extractLsb' 0 4 = (crm) ∧ x.extractLsb' 5 3 = (op2) ∧
      x.extractLsb' 12 4 = (rd) ∧ x.extractLsb' 16 5 = 0b00001#5 ∧ x.extractLsb' 21 3 = (op1) ∧ x.extractLsb' 25 3 =
      0b111#3 ∧ x.extractLsb' 28 4 = (cond.toBits) := by
    subst hx; and_intros <;> simp (disch := omega) only [append_field_low, append_field_high, append_bit_low, append_bit_high, field_all, ofBool_bit, Nat.reduceSub, Nat.sub_self] <;> rfl
  have ht : decodeTransfer x = .mcrDccData cond op1 rd op2 crm :=
    decodeTransfer_cp14 he8_4 he4_1 (by delta decodeCp14 condOf; simp only [hf, he8_4, he4_1, Cond.ofBits_toBits])
  delta decodeArm
  simp [-BitVec.getLsbD_eq_getElem, hf, ht]

theorem RoundTrip.mrcAbortStatus (cond : Cond) (op1 : BitVec 3) (rd : RegNum) (op2 : BitVec 3) (crm : BitVec 4) :
    RoundTrip.Statement (.mrcAbortStatus cond op1 rd op2 crm) := by
  intro _
  delta encode decode
  dsimp only
  generalize hx : cond.toBits ++ 0b1110#4 ++ op1 ++ 0b10010#5 ++ rd ++ 0b1110#4 ++ op2 ++ 0b1#1 ++ crm = x
  have he4_1 : x.extractLsb' 4 1 = 0b1#1 := by subst hx; simp (disch := omega) only [append_field_low, append_field_high, append_bit_low, append_bit_high, field_all, ofBool_bit, Nat.reduceSub, Nat.sub_self] <;> rfl
  have he8_4 : x.extractLsb' 8 4 = 0b1110#4 := by subst hx; simp (disch := omega) only [append_field_low, append_field_high, append_bit_low, append_bit_high, field_all, ofBool_bit, Nat.reduceSub, Nat.sub_self] <;> rfl
  have hf : x.getLsbD 4 = true ∧ x.getLsbD 24 = false ∧ x.extractLsb' 0 4 = (crm) ∧ x.extractLsb' 5 3 = (op2) ∧
      x.extractLsb' 12 4 = (rd) ∧ x.extractLsb' 16 5 = 0b10010#5 ∧ x.extractLsb' 21 3 = (op1) ∧ x.extractLsb' 25 3 =
      0b111#3 ∧ x.extractLsb' 28 4 = (cond.toBits) := by
    subst hx; and_intros <;> simp (disch := omega) only [append_field_low, append_field_high, append_bit_low, append_bit_high, field_all, ofBool_bit, Nat.reduceSub, Nat.sub_self] <;> rfl
  have ht : decodeTransfer x = .mrcAbortStatus cond op1 rd op2 crm :=
    decodeTransfer_cp14 he8_4 he4_1 (by delta decodeCp14 condOf; simp only [hf, he8_4, he4_1, Cond.ofBits_toBits])
  delta decodeArm
  simp [-BitVec.getLsbD_eq_getElem, hf, ht]

theorem RoundTrip.mcrAbortStatus (cond : Cond) (op1 : BitVec 3) (rd : RegNum) (op2 : BitVec 3) (crm : BitVec 4) :
    RoundTrip.Statement (.mcrAbortStatus cond op1 rd op2 crm) := by
  intro _
  delta encode decode
  dsimp only
  generalize hx : cond.toBits ++ 0b1110#4 ++ op1 ++ 0b00010#5 ++ rd ++ 0b1110#4 ++ op2 ++ 0b1#1 ++ crm = x
  have he4_1 : x.extractLsb' 4 1 = 0b1#1 := by subst hx; simp (disch := omega) only [append_field_low, append_field_high, append_bit_low, append_bit_high, field_all, ofBool_bit, Nat.reduceSub, Nat.sub_self] <;> rfl
  have he8_4 : x.extractLsb' 8 4 = 0b1110#4 := by subst hx; simp (disch := omega) only [append_field_low, append_field_high, append_bit_low, append_bit_high, field_all, ofBool_bit, Nat.reduceSub, Nat.sub_self] <;> rfl
  have hf : x.getLsbD 4 = true ∧ x.getLsbD 24 = false ∧ x.extractLsb' 0 4 = (crm) ∧ x.extractLsb' 5 3 = (op2) ∧
      x.extractLsb' 12 4 = (rd) ∧ x.extractLsb' 16 5 = 0b00010#5 ∧ x.extractLsb' 21 3 = (op1) ∧ x.extractLsb' 25 3 =
      0b111#3 ∧ x.extractLsb' 28 4 = (cond.toBits) := by
    subst hx; and_intros <;> simp (disch := omega) only [append_field_low, append_field_high, append_bit_low, append_bit_high, field_all, ofBool_bit, Nat.reduceSub, Nat.sub_self] <;> rfl
  have ht : decodeTransfer x = .mcrAbortStatus cond op1 rd op2 crm :=
    decodeTransfer_cp14 he8_4 he4_1 (by delta decodeCp14 condOf; simp only [hf, he8_4, he4_1, Cond.ofBits_toBits])
  delta decodeArm
  simp [-BitVec.getLsbD_eq_getElem, hf, ht]

theorem RoundTrip.tLslImm (imm5 : BitVec 5) (rs rd : LowReg) :
    RoundTrip.Statement (.tLslImm imm5 rs rd) := by
  intro _
  delta encode decode
  dsimp only
  generalize hx : 0b00000#5 ++ imm5 ++ rs ++ rd = x
  have hf : x.extractLsb' 0 3 = (rd) ∧ x.extractLsb' 3 3 = (rs) ∧ x.extractLsb' 6 5 = (imm5) ∧ x.extractLsb' 11 2 = 0b00#2
      ∧ x.extractLsb' 13 3 = 0b000#3 := by
    subst hx; and_intros <;> simp (disch := omega) only [append_field_low, append_field_high, append_bit_low, append_bit_high, field_all, ofBool_bit, Nat.reduceSub, Nat.sub_self] <;> rfl
  delta decodeThumb decodeThumbShiftAdd
  simp [-BitVec.getLsbD_eq_getElem, hf]

theorem RoundTrip.tLsrImm (imm5 : BitVec 5) (rs rd : LowReg) :
    RoundTrip.Statement (.tLsrImm imm5 rs rd) := by
  intro _
  delta encode decode
  dsimp only
  generalize hx : 0b00001#5 ++ imm5 ++ rs ++ rd = x
  have hf : x.extractLsb' 0 3 = (rd) ∧ x.extractLsb' 3 3 = (rs) ∧ x.extractLsb' 6 5 = (imm5) ∧ x.extractLsb' 11 2 = 0b01#2
      ∧ x.extractLsb' 13 3 = 0b000#3 := by
    subst hx; and_intros <;> simp (disch := omega) only [append_field_low, append_field_high, append_bit_low, append_bit_high, field_all, ofBool_bit, Nat.reduceSub, Nat.sub_self] <;> rfl
  delta decodeThumb decodeThumbShiftAdd
  simp [-BitVec.getLsbD_eq_getElem, hf]

theorem RoundTrip.tAsrImm (imm5 : BitVec 5) (rs rd : LowReg) :
    RoundTrip.Statement (.tAsrImm imm5 rs rd) := by
  intro _
  delta encode decode
  dsimp only
  generalize hx : 0b00010#5 ++ imm5 ++ rs ++ rd = x
  have hf : x.extractLsb' 0 3 = (rd) ∧ x.extractLsb' 3 3 = (rs) ∧ x.extractLsb' 6 5 = (imm5) ∧ x.extractLsb' 11 2 = 0b10#2
      ∧ x.extractLsb' 13 3 = 0b000#3 := by
    subst hx; and_intros <;> simp (disch := omega) only [append_field_low, append_field_high, append_bit_low, append_bit_high, field_all, ofBool_bit, Nat.reduceSub, Nat.sub_self] <;> rfl
  delta decodeThumb decodeThumbShiftAdd
  simp [-BitVec.getLsbD_eq_getElem, hf]

theorem RoundTrip.tAddReg (rn rs rd : LowReg) :
    RoundTrip.Statement (.tAddReg rn rs rd) := by
  intro _
  delta encode decode
  dsimp only
  generalize hx : 0b0001100#7 ++ rn ++ rs ++ rd = x
  have hf : x.extractLsb' 0 3 = (rd) ∧ x.extractLsb' 3 3 = (rs) ∧ x.extractLsb' 6 3 = (rn) ∧ x.extractLsb' 9 2 = 0b00#2 ∧
      x.extractLsb' 11 2 = 0b11#2 ∧ x.extractLsb' 13 3 = 0b000#3 := by
    subst hx; and_intros <;> simp (disch := omega) only [append_field_low, append_field_high, append_bit_low, append_bit_high, field_all, ofBool_bit, Nat.reduceSub, Nat.sub_self] <;> rfl
  delta decodeThumb decodeThumbShiftAdd
  simp [-BitVec.getLsbD_eq_getElem, hf]

theorem RoundTrip.tSubReg (rn rs rd : LowReg) :
    RoundTrip.Statement (.tSubReg rn rs rd) := by
  intro _
  delta encode decode
  dsimp only
  generalize hx : 0b0001101#7 ++ rn ++ rs ++ rd = x
  have hf : x.extractLsb' 0 3 = (rd) ∧ x.extractLsb' 3 3 = (rs) ∧ x.extractLsb' 6 3 = (rn) ∧ x.extractLsb' 9 2 = 0b01#2 ∧
      x.extractLsb' 11 2 = 0b11#2 ∧ x.extractLsb' 13 3 = 0b000#3 := by
    subst hx; and_intros <;> simp (disch := omega) only [append_field_low, append_field_high, append_bit_low, append_bit_high, field_all, ofBool_bit, Nat.reduceSub, Nat.sub_self] <;> rfl
  delta decodeThumb decodeThumbShiftAdd
  simp [-BitVec.getLsbD_eq_getElem, hf]

theorem RoundTrip.tAddImm3 (imm3 : BitVec 3) (rs rd : LowReg) :
    RoundTrip.Statement (.tAddImm3 imm3 rs rd) := by
  intro _
  delta encode decode
  dsimp only
  generalize hx : 0b0001110#7 ++ imm3 ++ rs ++ rd = x
  have hf : x.extractLsb' 0 3 = (rd) ∧ x.extractLsb' 3 3 = (rs) ∧ x.extractLsb' 6 3 = (imm3) ∧ x.extractLsb' 9 2 = 0b10#2
      ∧ x.extractLsb' 11 2 = 0b11#2 ∧ x.extractLsb' 13 3 = 0b000#3 := by
    subst hx; and_intros <;> simp (disch := omega) only [append_field_low, append_field_high, append_bit_low, append_bit_high, field_all, ofBool_bit, Nat.reduceSub, Nat.sub_self] <;> rfl
  delta decodeThumb decodeThumbShiftAdd
  simp [-BitVec.getLsbD_eq_getElem, hf]

theorem RoundTrip.tSubImm3 (imm3 : BitVec 3) (rs rd : LowReg) :
    RoundTrip.Statement (.tSubImm3 imm3 rs rd) := by
  intro _
  delta encode decode
  dsimp only
  generalize hx : 0b0001111#7 ++ imm3 ++ rs ++ rd = x
  have hf : x.extractLsb' 0 3 = (rd) ∧ x.extractLsb' 3 3 = (rs) ∧ x.extractLsb' 6 3 = (imm3) ∧ x.extractLsb' 9 2 = 0b11#2
      ∧ x.extractLsb' 11 2 = 0b11#2 ∧ x.extractLsb' 13 3 = 0b000#3 := by
    subst hx; and_intros <;> simp (disch := omega) only [append_field_low, append_field_high, append_bit_low, append_bit_high, field_all, ofBool_bit, Nat.reduceSub, Nat.sub_self] <;> rfl
  delta decodeThumb decodeThumbShiftAdd
  simp [-BitVec.getLsbD_eq_getElem, hf]

theorem RoundTrip.tMovImm (rd : LowReg) (imm8 : BitVec 8) :
    RoundTrip.Statement (.tMovImm rd imm8) := by
  intro _
  delta encode decode
  dsimp only
  generalize hx : 0b00100#5 ++ rd ++ imm8 = x
  have hf : x.extractLsb' 0 8 = (imm8) ∧ x.extractLsb' 8 3 = (rd) ∧ x.extractLsb' 11 2 = 0b00#2 ∧ x.extractLsb' 13 3 =
      0b001#3 := by
    subst hx; and_intros <;> simp (disch := omega) only [append_field_low, append_field_high, append_bit_low, append_bit_high, field_all, ofBool_bit, Nat.reduceSub, Nat.sub_self] <;> rfl
  delta decodeThumb decodeThumbImm8
  simp [-BitVec.getLsbD_eq_getElem, hf]

theorem RoundTrip.tCmpImm (rd : LowReg) (imm8 : BitVec 8) :
    RoundTrip.Statement (.tCmpImm rd imm8) := by
  intro _
  delta encode decode
  dsimp only
  generalize hx : 0b00101#5 ++ rd ++ imm8 = x
  have hf : x.extractLsb' 0 8 = (imm8) ∧ x.extractLsb' 8 3 = (rd) ∧ x.extractLsb' 11 2 = 0b01#2 ∧ x.extractLsb' 13 3 =
      0b001#3 := by
    subst hx; and_intros <;> simp (disch := omega) only [append_field_low, append_field_high, append_bit_low, append_bit_high, field_all, ofBool_bit, Nat.reduceSub, Nat.sub_self] <;> rfl
  delta decodeThumb decodeThumbImm8
  simp [-BitVec.getLsbD_eq_getElem, hf]

theorem RoundTrip.tAddImm8 (rd : LowReg) (imm8 : BitVec 8) :
    RoundTrip.Statement (.tAddImm8 rd imm8) := by
  intro _
  delta encode decode
  dsimp only
  generalize hx : 0b00110#5 ++ rd ++ imm8 = x
  have hf : x.extractLsb' 0 8 = (imm8) ∧ x.extractLsb' 8 3 = (rd) ∧ x.extractLsb' 11 2 = 0b10#2 ∧ x.extractLsb' 13 3 =
      0b001#3 := by
    subst hx; and_intros <;> simp (disch := omega) only [append_field_low, append_field_high, append_bit_low, append_bit_high, field_all, ofBool_bit, Nat.reduceSub, Nat.sub_self] <;> rfl
  delta decodeThumb decodeThumbImm8
  simp [-BitVec.getLsbD_eq_getElem, hf]

theorem RoundTrip.tSubImm8 (rd : LowReg) (imm8 : BitVec 8) :
    RoundTrip.Statement (.tSubImm8 rd imm8) := by
  intro _
  delta encode decode
  dsimp only
  generalize hx : 0b00111#5 ++ rd ++ imm8 = x
  have hf : x.extractLsb' 0 8 = (imm8) ∧ x.extractLsb' 8 3 = (rd) ∧ x.extractLsb' 11 2 = 0b11#2 ∧ x.extractLsb' 13 3 =
      0b001#3 := by
    subst hx; and_intros <;> simp (disch := omega) only [append_field_low, append_field_high, append_bit_low, append_bit_high, field_all, ofBool_bit, Nat.reduceSub, Nat.sub_self] <;> rfl
  delta decodeThumb decodeThumbImm8
  simp [-BitVec.getLsbD_eq_getElem, hf]

theorem RoundTrip.tAnd (rs rd : LowReg) :
    RoundTrip.Statement (.tAnd rs rd) := by
  intro _
  delta encode decode
  dsimp only
  generalize hx : 0b0100000000#10 ++ rs ++ rd = x
  have hf : x.getLsbD 10 = false ∧ x.getLsbD 11 = false ∧ x.getLsbD 12 = false ∧ x.extractLsb' 0 3 = (rd) ∧ x.extractLsb'
      3 3 = (rs) ∧ x.extractLsb' 6 4 = 0b0000#4 ∧ x.extractLsb' 8 3 = 0b000#3 ∧ x.extractLsb' 13 3 = 0b010#3 := by
    subst hx; and_intros <;> simp (disch := omega) only [append_field_low, append_field_high, append_bit_low, append_bit_high, field_all, ofBool_bit, Nat.reduceSub, Nat.sub_self] <;> rfl
  delta decodeThumb decodeThumbAlu
  simp [-BitVec.getLsbD_eq_getElem, hf]

theorem RoundTrip.tEor (rs rd : LowReg) :
    RoundTrip.Statement (.tEor rs rd) := by
  intro _
  delta encode decode
  dsimp only
  generalize hx : 0b0100000001#10 ++ rs ++ rd = x
  have hf : x.getLsbD 10 = false ∧ x.getLsbD 11 = false ∧ x.getLsbD 12 = false ∧ x.extractLsb' 0 3 = (rd) ∧ x.extractLsb'
      3 3 = (rs) ∧ x.extractLsb' 6 4 = 0b0001#4 ∧ x.extractLsb' 8 3 = 0b000#3 ∧ x.extractLsb' 13 3 = 0b010#3 := by
    subst hx; and_intros <;> simp (disch := omega) only [append_field_low, append_field_high, append_bit_low, append_bit_high, field_all, ofBool_bit, Nat.reduceSub, Nat.sub_self] <;> rfl
  delta decodeThumb decodeThumbAlu
  simp [-BitVec.getLsbD_eq_getElem, hf]

theorem RoundTrip.tLslReg (rs rd : LowReg) :
    RoundTrip.Statement (.tLslReg rs rd) := by
  intro _
  delta encode decode
  dsimp only
  generalize hx : 0b0100000010#10 ++ rs ++ rd = x
  have hf : x.getLsbD 10 = false ∧ x.getLsbD 11 = false ∧ x.getLsbD 12 = false ∧ x.extractLsb' 0 3 = (rd) ∧ x.extractLsb'
      3 3 = (rs) ∧ x.extractLsb' 6 4 = 0b0010#4 ∧ x.extractLsb' 8 3 = 0b000#3 ∧ x.extractLsb' 13 3 = 0b010#3 := by
    subst hx; and_intros <;> simp (disch := omega) only [append_field_low, append_field_high, append_bit_low, append_bit_high, field_all, ofBool_bit, Nat.reduceSub, Nat.sub_self] <;> rfl
  delta decodeThumb decodeThumbAlu
  simp [-BitVec.getLsbD_eq_getElem, hf]

theorem RoundTrip.tLsrReg (rs rd : LowReg) :
    RoundTrip.Statement (.tLsrReg rs rd) := by
  intro _
  delta encode decode
  dsimp only
  generalize hx : 0b0100000011#10 ++ rs ++ rd = x
  have hf : x.getLsbD 10 = false ∧ x.getLsbD 11 = false ∧ x.getLsbD 12 = false ∧ x.extractLsb' 0 3 = (rd) ∧ x.extractLsb'
      3 3 = (rs) ∧ x.extractLsb' 6 4 = 0b0011#4 ∧ x.extractLsb' 8 3 = 0b000#3 ∧ x.extractLsb' 13 3 = 0b010#3 := by
    subst hx; and_intros <;> simp (disch := omega) only [append_field_low, append_field_high, append_bit_low, append_bit_high, field_all, ofBool_bit, Nat.reduceSub, Nat.sub_self] <;> rfl
  delta decodeThumb decodeThumbAlu
  simp [-BitVec.getLsbD_eq_getElem, hf]

theorem RoundTrip.tAsrReg (rs rd : LowReg) :
    RoundTrip.Statement (.tAsrReg rs rd) := by
  intro _
  delta encode decode
  dsimp only
  generalize hx : 0b0100000100#10 ++ rs ++ rd = x
  have hf : x.getLsbD 10 = false ∧ x.getLsbD 11 = false ∧ x.getLsbD 12 = false ∧ x.extractLsb' 0 3 = (rd) ∧ x.extractLsb'
      3 3 = (rs) ∧ x.extractLsb' 6 4 = 0b0100#4 ∧ x.extractLsb' 8 3 = 0b001#3 ∧ x.extractLsb' 13 3 = 0b010#3 := by
    subst hx; and_intros <;> simp (disch := omega) only [append_field_low, append_field_high, append_bit_low, append_bit_high, field_all, ofBool_bit, Nat.reduceSub, Nat.sub_self] <;> rfl
  delta decodeThumb decodeThumbAlu
  simp [-BitVec.getLsbD_eq_getElem, hf]

theorem RoundTrip.tAdc (rs rd : LowReg) :
    RoundTrip.Statement (.tAdc rs rd) := by
  intro _
  delta encode decode
  dsimp only
  generalize hx : 0b0100000101#10 ++ rs ++ rd = x
  have hf : x.getLsbD 10 = false ∧ x.getLsbD 11 = false ∧ x.getLsbD 12 = false ∧ x.extractLsb' 0 3 = (rd) ∧ x.extractLsb'
      3 3 = (rs) ∧ x.extractLsb' 6 4 = 0b0101#4 ∧ x.extractLsb' 8 3 = 0b001#3 ∧ x.extractLsb' 13 3 = 0b010#3 := by
    subst hx; and_intros <;> simp (disch := omega) only [append_field_low, append_field_high, append_bit_low, append_bit_high, field_all, ofBool_bit, Nat.reduceSub, Nat.sub_self] <;> rfl
  delta decodeThumb decodeThumbAlu
  simp [-BitVec.getLsbD_eq_getElem, hf]

theorem RoundTrip.tSbc (rs rd : LowReg) :
    RoundTrip.Statement (.tSbc rs rd) := by
  intro _
  delta encode decode
  dsimp only
  generalize hx : 0b0100000110#10 ++ rs ++ rd = x
  have hf : x.getLsbD 10 = false ∧ x.getLsbD 11 = false ∧ x.getLsbD 12 = false ∧ x.extractLsb' 0 3 = (rd) ∧ x.extractLsb'
      3 3 = (rs) ∧ x.extractLsb' 6 4 = 0b0110#4 ∧ x.extractLsb' 8 3 = 0b001#3 ∧ x.extractLsb' 13 3 = 0b010#3 := by
    subst hx; and_intros <;> simp (disch := omega) only [append_field_low, append_field_high, append_bit_low, append_bit_high, field_all, ofBool_bit, Nat.reduceSub, Nat.sub_self] <;> rfl
  delta decodeThumb decodeThumbAlu
  simp [-BitVec.getLsbD_eq_getElem, hf]

theorem RoundTrip.tRorReg (rs rd : LowReg) :
    RoundTrip.Statement (.tRorReg rs rd) := by
  intro _
  delta encode decode
  dsimp only
  generalize hx : 0b0100000111#10 ++ rs ++ rd = x
  have hf : x.getLsbD 10 = false ∧ x.getLsbD 11 = false ∧ x.getLsbD 12 = false ∧ x.extractLsb' 0 3 = (rd) ∧ x.extractLsb'
      3 3 = (rs) ∧ x.extractLsb' 6 4 = 0b0111#4 ∧ x.extractLsb' 8 3 = 0b001#3 ∧ x.extractLsb' 13 3 = 0b010#3 := by
    subst hx; and_intros <;> simp (disch := omega) only [append_field_low, append_field_high, append_bit_low, append_bit_high, field_all, ofBool_bit, Nat.reduceSub, Nat.sub_self] <;> rfl
  delta decodeThumb decodeThumbAlu
  simp [-BitVec.getLsbD_eq_getElem, hf]

theorem RoundTrip.tTst (rs rd : LowReg) :
    RoundTrip.Statement (.tTst rs rd) := by
  intro _
  delta encode decode
  dsimp only
  generalize hx : 0b0100001000#10 ++ rs ++ rd = x
  have hf : x.getLsbD 10 = false ∧ x.getLsbD 11 = false ∧ x.getLsbD 12 = false ∧ x.extractLsb' 0 3 = (rd) ∧ x.extractLsb'
      3 3 = (rs) ∧ x.extractLsb' 6 4 = 0b1000#4 ∧ x.extractLsb' 8 3 = 0b010#3 ∧ x.extractLsb' 13 3 = 0b010#3 := by
    subst hx; and_intros <;> simp (disch := omega) only [append_field_low, append_field_high, append_bit_low, append_bit_high, field_all, ofBool_bit, Nat.reduceSub, Nat.sub_self] <;> rfl
  delta decodeThumb decodeThumbAlu
  simp [-BitVec.getLsbD_eq_getElem, hf]

theorem RoundTrip.tNeg (rs rd : LowReg) :
    RoundTrip.Statement (.tNeg rs rd) := by
  intro _
  delta encode decode
  dsimp only
  generalize hx : 0b0100001001#10 ++ rs ++ rd = x
  have hf : x.getLsbD 10 = false ∧ x.getLsbD 11 = false ∧ x.getLsbD 12 = false ∧ x.extractLsb' 0 3 = (rd) ∧ x.extractLsb'
      3 3 = (rs) ∧ x.extractLsb' 6 4 = 0b1001#4 ∧ x.extractLsb' 8 3 = 0b010#3 ∧ x.extractLsb' 13 3 = 0b010#3 := by
    subst hx; and_intros <;> simp (disch := omega) only [append_field_low, append_field_high, append_bit_low, append_bit_high, field_all, ofBool_bit, Nat.reduceSub, Nat.sub_self] <;> rfl
  delta decodeThumb decodeThumbAlu
  simp [-BitVec.getLsbD_eq_getElem, hf]

theorem RoundTrip.tCmp (rs rd : LowReg) :
    RoundTrip.Statement (.tCmp rs rd) := by
  intro _
  delta encode decode
  dsimp only
  generalize hx : 0b0100001010#10 ++ rs ++ rd = x
  have hf : x.getLsbD 10 = false ∧ x.getLsbD 11 = false ∧ x.getLsbD 12 = false ∧ x.extractLsb' 0 3 = (rd) ∧ x.extractLsb'
      3 3 = (rs) ∧ x.extractLsb' 6 4 = 0b1010#4 ∧ x.extractLsb' 8 3 = 0b010#3 ∧ x.extractLsb' 13 3 = 0b010#3 := by
    subst hx; and_intros <;> simp (disch := omega) only [append_field_low, append_field_high, append_bit_low, append_bit_high, field_all, ofBool_bit, Nat.reduceSub, Nat.sub_self] <;> rfl
  delta decodeThumb decodeThumbAlu
  simp [-BitVec.getLsbD_eq_getElem, hf]

theorem RoundTrip.tCmn (rs rd : LowReg) :
    RoundTrip.Statement (.tCmn rs rd) := by
  intro _
  delta encode decode
  dsimp only
  generalize hx : 0b0100001011#10 ++ rs ++ rd = x
  have hf : x.getLsbD 10 = false ∧ x.getLsbD 11 = false ∧ x.getLsbD 12 = false ∧ x.extractLsb' 0 3 = (rd) ∧ x.extractLsb'
      3 3 = (rs) ∧ x.extractLsb' 6 4 = 0b1011#4 ∧ x.extractLsb' 8 3 = 0b010#3 ∧ x.extractLsb' 13 3 = 0b010#3 := by
    subst hx; and_intros <;> simp (disch := omega) only [append_field_low, append_field_high, append_bit_low, append_bit_high, field_all, ofBool_bit, Nat.reduceSub, Nat.sub_self] <;> rfl
  delta decodeThumb decodeThumbAlu
  simp [-BitVec.getLsbD_eq_getElem, hf]

theorem RoundTrip.tOrr (rs rd : LowReg) :
    RoundTrip.Statement (.tOrr rs rd) := by
  intro _
  delta encode decode
  dsimp only
  generalize hx : 0b0100001100#10 ++ rs ++ rd = x
  have hf : x.getLsbD 10 = false ∧ x.getLsbD 11 = false ∧ x.getLsbD 12 = false ∧ x.extractLsb' 0 3 = (rd) ∧ x.extractLsb'
      3 3 = (rs) ∧ x.extractLsb' 6 4 = 0b1100#4 ∧ x.extractLsb' 8 3 = 0b011#3 ∧ x.extractLsb' 13 3 = 0b010#3 := by
    subst hx; and_intros <;> simp (disch := omega) only [append_field_low, append_field_high, append_bit_low, append_bit_high, field_all, ofBool_bit, Nat.reduceSub, Nat.sub_self] <;> rfl
  delta decodeThumb decodeThumbAlu
  simp [-BitVec.getLsbD_eq_getElem, hf]

theorem RoundTrip.tMul (rs rd : LowReg) :
    RoundTrip.Statement (.tMul rs rd) := by
  intro _
  delta encode decode
  dsimp only
  generalize hx : 0b0100001101#10 ++ rs ++ rd = x
  have hf : x.getLsbD 10 = false ∧ x.getLsbD 11 = false ∧ x.getLsbD 12 = false ∧ x.extractLsb' 0 3 = (rd) ∧ x.extractLsb'
      3 3 = (rs) ∧ x.extractLsb' 6 4 = 0b1101#4 ∧ x.extractLsb' 8 3 = 0b011#3 ∧ x.extractLsb' 13 3 = 0b010#3 := by
    subst hx; and_intros <;> simp (disch := omega) only [append_field_low, append_field_high, append_bit_low, append_bit_high, field_all, ofBool_bit, Nat.reduceSub, Nat.sub_self] <;> rfl
  delta decodeThumb decodeThumbAlu
  simp [-BitVec.getLsbD_eq_getElem, hf]

theorem RoundTrip.tBic (rs rd : LowReg) :
    RoundTrip.Statement (.tBic rs rd) := by
  intro _
  delta encode decode
  dsimp only
  generalize hx : 0b0100001110#10 ++ rs ++ rd = x
  have hf : x.getLsbD 10 = false ∧ x.getLsbD 11 = false ∧ x.getLsbD 12 = false ∧ x.extractLsb' 0 3 = (rd) ∧ x.extractLsb'
      3 3 = (rs) ∧ x.extractLsb' 6 4 = 0b1110#4 ∧ x.extractLsb' 8 3 = 0b011#3 ∧ x.extractLsb' 13 3 = 0b010#3 := by
    subst hx; and_intros <;> simp (disch := omega) only [append_field_low, append_field_high, append_bit_low, append_bit_high, field_all, ofBool_bit, Nat.reduceSub, Nat.sub_self] <;> rfl
  delta decodeThumb decodeThumbAlu
  simp [-BitVec.getLsbD_eq_getElem, hf]

theorem RoundTrip.tMvn (rs rd : LowReg) :
    RoundTrip.Statement (.tMvn rs rd) := by
  intro _
  delta encode decode
  dsimp only
  generalize hx : 0b0100001111#10 ++ rs ++ rd = x
  have hf : x.getLsbD 10 = false ∧ x.getLsbD 11 = false ∧ x.getLsbD 12 = false ∧ x.extractLsb' 0 3 = (rd) ∧ x.extractLsb'
      3 3 = (rs) ∧ x.extractLsb' 6 4 = 0b1111#4 ∧ x.extractLsb' 8 3 = 0b011#3 ∧ x.extractLsb' 13 3 = 0b010#3 := by
    subst hx; and_intros <;> simp (disch := omega) only [append_field_low, append_field_high, append_bit_low, append_bit_high, field_all, ofBool_bit, Nat.reduceSub, Nat.sub_self] <;> rfl
  delta decodeThumb decodeThumbAlu
  simp [-BitVec.getLsbD_eq_getElem, hf]

theorem RoundTrip.tAddHi (h1 h2 : Bool) (rs rd : LowReg) :
    RoundTrip.Statement (.tAddHi h1 h2 rs rd) := by
  intro _
  delta encode decode
  dsimp only
  generalize hx : 0b01000100#8 ++ BitVec.ofBool h1 ++ BitVec.ofBool h2 ++ rs ++ rd = x
  have hf : x.getLsbD 6 = h2 ∧ x.getLsbD 7 = h1 ∧ x.getLsbD 10 = true ∧ x.getLsbD 11 = false ∧ x.getLsbD 12 = false ∧
      x.extractLsb' 0 3 = (rd) ∧ x.extractLsb' 3 3 = (rs) ∧ x.extractLsb' 8 2 = 0b00#2 ∧ x.extractLsb' 8 3 = 0b100#3
      ∧ x.extractLsb' 13 3 = 0b010#3 := by
    subst hx; and_intros <;> simp (disch := omega) only [append_field_low, append_field_high, append_bit_low, append_bit_high, field_all, ofBool_bit, Nat.reduceSub, Nat.sub_self] <;> rfl
  delta decodeThumb decodeThumbHi
  simp [-BitVec.getLsbD_eq_getElem, hf]

theorem RoundTrip.tCmpHi (h1 h2 : Bool) (rs rd : LowReg) :
    RoundTrip.Statement (.tCmpHi h1 h2 rs rd) := by
  intro _
  delta encode decode
  dsimp only
  generalize hx : 0b01000101#8 ++ BitVec.ofBool h1 ++ BitVec.ofBool h2 ++ rs ++ rd = x
  have hf : x.getLsbD 6 = h2 ∧ x.getLsbD 7 = h1 ∧ x.getLsbD 10 = true ∧ x.getLsbD 11 = false ∧ x.getLsbD 12 = false ∧
      x.extractLsb' 0 3 = (rd) ∧ x.extractLsb' 3 3 = (rs) ∧ x.extractLsb' 8 2 = 0b01#2 ∧ x.extractLsb' 8 3 = 0b101#3
      ∧ x.extractLsb' 13 3 = 0b010#3 := by
    subst hx; and_intros <;> simp (disch := omega) only [append_field_low, append_field_high, append_bit_low, append_bit_high, field_all, ofBool_bit, Nat.reduceSub, Nat.sub_self] <;> rfl
  delta decodeThumb decodeThumbHi
  simp [-BitVec.getLsbD_eq_getElem, hf]

theorem RoundTrip.tMovHi (h1 h2 : Bool) (rs rd : LowReg) :
    RoundTrip.Statement (.tMovHi h1 h2 rs rd) := by
  intro _
  delta encode decode
  dsimp only
  generalize hx : 0b01000110#8 ++ BitVec.ofBool h1 ++ BitVec.ofBool h2 ++ rs ++ rd = x
  have hf : x.getLsbD 6 = h2 ∧ x.getLsbD 7 = h1 ∧ x.getLsbD 10 = true ∧ x.getLsbD 11 = false ∧ x.getLsbD 12 = false ∧
      x.extractLsb' 0 3 = (rd) ∧ x.extractLsb' 3 3 = (rs) ∧ x.extractLsb' 8 2 = 0b10#2 ∧ x.extractLsb' 8 3 = 0b110#3
      ∧ x.extractLsb' 13 3 = 0b010#3 := by
    subst hx; and_intros <;> simp (disch := omega) only [append_field_low, append_field_high, append_bit_low, append_bit_high, field_all, ofBool_bit, Nat.reduceSub, Nat.sub_self] <;> rfl
  delta decodeThumb decodeThumbHi
  simp [-BitVec.getLsbD_eq_getElem, hf]

theorem RoundTrip.tBx (h2 : Bool) (rs : LowReg) :
    RoundTrip.Statement (.tBx h2 rs) := by
  intro _
  delta encode decode
  dsimp only
  generalize hx : 0b010001110#9 ++ BitVec.ofBool h2 ++ rs ++ 0b000#3 = x
  have hf : x.getLsbD 6 = h2 ∧ x.getLsbD 7 = false ∧ x.getLsbD 10 = true ∧ x.getLsbD 11 = false ∧ x.getLsbD 12 = false ∧
      x.extractLsb' 3 3 = (rs) ∧ x.extractLsb' 8 2 = 0b11#2 ∧ x.extractLsb' 8 3 = 0b111#3 ∧ x.extractLsb' 13 3 =
      0b010#3 := by
    subst hx; and_intros <;> simp (disch := omega) only [append_field_low, append_field_high, append_bit_low, append_bit_high, field_all, ofBool_bit, Nat.reduceSub, Nat.sub_self] <;> rfl
  delta decodeThumb decodeThumbHi
  simp [-BitVec.getLsbD_eq_getElem, hf]

theorem RoundTrip.tLdrPc (rd : LowReg) (word8 : BitVec 8) :
    RoundTrip.Statement (.tLdrPc rd word8) := by
  intro _
  delta encode decode
  dsimp only
  generalize hx : 0b01001#5 ++ rd ++ word8 = x
  have hf : x.getLsbD 10 = (rd).getLsbD 2 ∧ x.getLsbD 11 = true ∧ x.getLsbD 12 = false ∧ x.extractLsb' 0 8 = (word8) ∧
      x.extractLsb' 8 3 = (rd) ∧ x.extractLsb' 13 3 = 0b010#3 := by
    subst hx; and_intros <;> simp (disch := omega) only [append_field_low, append_field_high, append_bit_low, append_bit_high, field_all, ofBool_bit, Nat.reduceSub, Nat.sub_self] <;> rfl
  delta decodeThumb decodeThumb
  simp [-BitVec.getLsbD_eq_getElem, hf]

theorem RoundTrip.tStrReg (ro rb rd : LowReg) :
    RoundTrip.Statement (.tStrReg ro rb rd) := by
  intro _
  delta encode decode
  dsimp only
  generalize hx : 0b0101000#7 ++ ro ++ rb ++ rd = x
  have hf : x.getLsbD 10 = false ∧ x.getLsbD 11 = false ∧ x.getLsbD 12 = true ∧ x.extractLsb' 0 3 = (rd) ∧ x.extractLsb' 3
      3 = (rb) ∧ x.extractLsb' 6 3 = (ro) ∧ x.extractLsb' 9 3 = 0b000#3 ∧ x.extractLsb' 13 3 = 0b010#3 := by
    subst hx; and_intros <;> simp (disch := omega) only [append_field_low, append_field_high, append_bit_low, append_bit_high, field_all, ofBool_bit, Nat.reduceSub, Nat.sub_self] <;> rfl
  delta decodeThumb decodeThumbRegOffset
  simp [-BitVec.getLsbD_eq_getElem, hf]

theorem RoundTrip.tStrbReg (ro rb rd : LowReg) :
    RoundTrip.Statement (.tStrbReg ro rb rd) := by
  intro _
  delta encode decode
  dsimp only
  generalize hx : 0b0101010#7 ++ ro ++ rb ++ rd = x
  have hf : x.getLsbD 10 = true ∧ x.getLsbD 11 = false ∧ x.getLsbD 12 = true ∧ x.extractLsb' 0 3 = (rd) ∧ x.extractLsb' 3
      3 = (rb) ∧ x.extractLsb' 6 3 = (ro) ∧ x.extractLsb' 9 3 = 0b010#3 ∧ x.extractLsb' 13 3 = 0b010#3 := by
    subst hx; and_intros <;> simp (disch := omega) only [append_field_low, append_field_high, append_bit_low, append_bit_high, field_all, ofBool_bit, Nat.reduceSub, Nat.sub_self] <;> rfl
  delta decodeThumb decodeThumbRegOffset
  simp [-BitVec.getLsbD_eq_getElem, hf]

theorem RoundTrip.tLdrReg (ro rb rd : LowReg) :
    RoundTrip.Statement (.tLdrReg ro rb rd) := by
  intro _
  delta encode decode
  dsimp only
  generalize hx : 0b0101100#7 ++ ro ++ rb ++ rd = x
  have hf : x.getLsbD 10 = false ∧ x.getLsbD 11 = true ∧ x.getLsbD 12 = true ∧ x.extractLsb' 0 3 = (rd) ∧ x.extractLsb' 3
      3 = (rb) ∧ x.extractLsb' 6 3 = (ro) ∧ x.extractLsb' 9 3 = 0b100#3 ∧ x.extractLsb' 13 3 = 0b010#3 := by
    subst hx; and_intros <;> simp (disch := omega) only [append_field_low, append_field_high, append_bit_low, append_bit_high, field_all, ofBool_bit, Nat.reduceSub, Nat.sub_self] <;> rfl
  delta decodeThumb decodeThumbRegOffset
  simp [-BitVec.getLsbD_eq_getElem, hf]

theorem RoundTrip.tLdrbReg (ro rb rd : LowReg) :
    RoundTrip.Statement (.tLdrbReg ro rb rd) := by
  intro _
  delta encode decode
  dsimp only
  generalize hx : 0b0101110#7 ++ ro ++ rb ++ rd = x
  have hf : x.getLsbD 10 = true ∧ x.getLsbD 11 = true ∧ x.getLsbD 12 = true ∧ x.extractLsb' 0 3 = (rd) ∧ x.extractLsb' 3 3
      = (rb) ∧ x.extractLsb' 6 3 = (ro) ∧ x.extractLsb' 9 3 = 0b110#3 ∧ x.extractLsb' 13 3 = 0b010#3 := by
    subst hx; and_intros <;> simp (disch := omega) only [append_field_low, append_field_high, append_bit_low, append_bit_high, field_all, ofBool_bit, Nat.reduceSub, Nat.sub_self] <;> rfl
  delta decodeThumb decodeThumbRegOffset
  simp [-BitVec.getLsbD_eq_getElem, hf]

theorem RoundTrip.tStrhReg (ro rb rd : LowReg) :
    RoundTrip.Statement (.tStrhReg ro rb rd) := by
  intro _
  delta encode decode
  dsimp only
  generalize hx : 0b0101001#7 ++ ro ++ rb ++ rd = x
  have hf : x.getLsbD 10 = false ∧ x.getLsbD 11 = false ∧ x.getLsbD 12 = true ∧ x.extractLsb' 0 3 = (rd) ∧ x.extractLsb' 3
      3 = (rb) ∧ x.extractLsb' 6 3 = (ro) ∧ x.extractLsb' 9 3 = 0b001#3 ∧ x.extractLsb' 13 3 = 0b010#3 := by
    subst hx; and_intros <;> simp (disch := omega) only [append_field_low, append_field_high, append_bit_low, append_bit_high, field_all, ofBool_bit, Nat.reduceSub, Nat.sub_self] <;> rfl
  delta decodeThumb decodeThumbRegOffset
  simp [-BitVec.getLsbD_eq_getElem, hf]

theorem RoundTrip.tLdrhReg (ro rb rd : LowReg) :
    RoundTrip.Statement (.tLdrhReg ro rb rd) := by
  intro _
  delta encode decode
  dsimp only
  generalize hx : 0b0101101#7 ++ ro ++ rb ++ rd = x
  have hf : x.getLsbD 10 = false ∧ x.getLsbD 11 = true ∧ x.getLsbD 12 = true ∧ x.extractLsb' 0 3 = (rd) ∧ x.extractLsb' 3
      3 = (rb) ∧ x.extractLsb' 6 3 = (ro) ∧ x.extractLsb' 9 3 = 0b101#3 ∧ x.extractLsb' 13 3 = 0b010#3 := by
    subst hx; and_intros <;> simp (disch := omega) only [append_field_low, append_field_high, append_bit_low, append_bit_high, field_all, ofBool_bit, Nat.reduceSub, Nat.sub_self] <;> rfl
  delta decodeThumb decodeThumbRegOffset
  simp [-BitVec.getLsbD_eq_getElem, hf]

theorem RoundTrip.tLdrsbReg (ro rb rd : LowReg) :
    RoundTrip.Statement (.tLdrsbReg ro rb rd) := by
  intro _
  delta encode decode
  dsimp only
  generalize hx : 0b0101011#7 ++ ro ++ rb ++ rd = x
  have hf : x.getLsbD 10 = true ∧ x.getLsbD 11 = false ∧ x.getLsbD 12 = true ∧ x.extractLsb' 0 3 = (rd) ∧ x.extractLsb' 3
      3 = (rb) ∧ x.extractLsb' 6 3 = (ro) ∧ x.extractLsb' 9 3 = 0b011#3 ∧ x.extractLsb' 13 3 = 0b010#3 := by
    subst hx; and_intros <;> simp (disch := omega) only [append_field_low, append_field_high, append_bit_low, append_bit_high, field_all, ofBool_bit, Nat.reduceSub, Nat.sub_self] <;> rfl
  delta decodeThumb decodeThumbRegOffset
  simp [-BitVec.getLsbD_eq_getElem, hf]

theorem RoundTrip.tLdrshReg (ro rb rd : LowReg) :
    RoundTrip.Statement (.tLdrshReg ro rb rd) := by
  intro _
  delta encode decode
  dsimp only
  generalize hx : 0b0101111#7 ++ ro ++ rb ++ rd = x
  have hf : x.getLsbD 10 = true ∧ x.getLsbD 11 = true ∧ x.getLsbD 12 = true ∧ x.extractLsb' 0 3 = (rd) ∧ x.extractLsb' 3 3
      = (rb) ∧ x.extractLsb' 6 3 = (ro) ∧ x.extractLsb' 9 3 = 0b111#3 ∧ x.extractLsb' 13 3 = 0b010#3 := by
    subst hx; and_intros <;> simp (disch := omega) only [append_field_low, append_field_high, append_bit_low, append_bit_high, field_all, ofBool_bit, Nat.reduceSub, Nat.sub_self] <;> rfl
  delta decodeThumb decodeThumbRegOffset
  simp [-BitVec.getLsbD_eq_getElem, hf]

theorem RoundTrip.tStrImm (imm5 : BitVec 5) (rb rd : LowReg) :
    RoundTrip.Statement (.tStrImm imm5 rb rd) := by
  intro _
  delta encode decode
  dsimp only
  generalize hx : 0b01100#5 ++ imm5 ++ rb ++ rd = x
  have hf : x.extractLsb' 0 3 = (rd) ∧ x.extractLsb' 3 3 = (rb) ∧ x.extractLsb' 6 5 = (imm5) ∧ x.extractLsb' 11 2 = 0b00#2
      ∧ x.extractLsb' 13 3 = 0b011#3 := by
    subst hx; and_intros <;> simp (disch := omega) only [append_field_low, append_field_high, append_bit_low, append_bit_high, field_all, ofBool_bit, Nat.reduceSub, Nat.sub_self] <;> rfl
  delta decodeThumb decodeThumbImmOffset
  simp [-BitVec.getLsbD_eq_getElem, hf]

theorem RoundTrip.tLdrImm (imm5 : BitVec 5) (rb rd : LowReg) :
    RoundTrip.Statement (.tLdrImm imm5 rb rd) := by
  intro _
  delta encode decode
  dsimp only
  generalize hx : 0b01101#5 ++ imm5 ++ rb ++ rd = x
  have hf : x.extractLsb' 0 3 = (rd) ∧ x.extractLsb' 3 3 = (rb) ∧ x.extractLsb' 6 5 = (imm5) ∧ x.extractLsb' 11 2 = 0b01#2
      ∧ x.extractLsb' 13 3 = 0b011#3 := by
    subst hx; and_intros <;> simp (disch := omega) only [append_field_low, append_field_high, append_bit_low, append_bit_high, field_all, ofBool_bit, Nat.reduceSub, Nat.sub_self] <;> rfl
  delta decodeThumb decodeThumbImmOffset
  simp [-BitVec.getLsbD_eq_getElem, hf]

theorem RoundTrip.tStrbImm (imm5 : BitVec 5) (rb rd : LowReg) :
    RoundTrip.Statement (.tStrbImm imm5 rb rd) := by
  intro _
  delta encode decode
  dsimp only
  generalize hx : 0b01110#5 ++ imm5 ++ rb ++ rd = x
  have hf : x.extractLsb' 0 3 = (rd) ∧ x.extractLsb' 3 3 = (rb) ∧ x.extractLsb' 6 5 = (imm5) ∧ x.extractLsb' 11 2 = 0b10#2
      ∧ x.extractLsb' 13 3 = 0b011#3 := by
    subst hx; and_intros <;> simp (disch := omega) only [append_field_low, append_field_high, append_bit_low, append_bit_high, field_all, ofBool_bit, Nat.reduceSub, Nat.sub_self] <;> rfl
  delta decodeThumb decodeThumbImmOffset
  simp [-BitVec.getLsbD_eq_getElem, hf]

theorem RoundTrip.tLdrbImm (imm5 : BitVec 5) (rb rd : LowReg) :
    RoundTrip.Statement (.tLdrbImm imm5 rb rd) := by
  intro _
  delta encode decode
  dsimp only
  generalize hx : 0b01111#5 ++ imm5 ++ rb ++ rd = x
  have hf : x.extractLsb' 0 3 = (rd) ∧ x.extractLsb' 3 3 = (rb) ∧ x.extractLsb' 6 5 = (imm5) ∧ x.extractLsb' 11 2 = 0b11#2
      ∧ x.extractLsb' 13 3 = 0b011#3 := by
    subst hx; and_intros <;> simp (disch := omega) only [append_field_low, append_field_high, append_bit_low, append_bit_high, field_all, ofBool_bit, Nat.reduceSub, Nat.sub_self] <;> rfl
  delta decodeThumb decodeThumbImmOffset
  simp [-BitVec.getLsbD_eq_getElem, hf]

theorem RoundTrip.tStrhImm (imm5 : BitVec 5) (rb rd : LowReg) :
    RoundTrip.Statement (.tStrhImm imm5 rb rd) := by
  intro _
  delta encode decode
  dsimp only
  generalize hx : 0b10000#5 ++ imm5 ++ rb ++ rd = x
  have hf : x.extractLsb' 0 3 = (rd) ∧ x.extractLsb' 3 3 = (rb) ∧ x.extractLsb' 6 5 = (imm5) ∧ x.extractLsb' 11 2 = 0b00#2
      ∧ x.extractLsb' 13 3 = 0b100#3 := by
    subst hx; and_intros <;> simp (disch := omega) only [append_field_low, append_field_high, append_bit_low, append_bit_high, field_all, ofBool_bit, Nat.reduceSub, Nat.sub_self] <;> rfl
  delta decodeThumb decodeThumbHalfSp
  simp [-BitVec.getLsbD_eq_getElem, hf]

theorem RoundTrip.tLdrhImm (imm5 : BitVec 5) (rb rd : LowReg) :
    RoundTrip.Statement (.tLdrhImm imm5 rb rd) := by
  intro _
  delta encode decode
  dsimp only
  generalize hx : 0b10001#5 ++ imm5 ++ rb ++ rd = x
  have hf : x.extractLsb' 0 3 = (rd) ∧ x.extractLsb' 3 3 = (rb) ∧ x.extractLsb' 6 5 = (imm5) ∧ x.extractLsb' 11 2 = 0b01#2
      ∧ x.extractLsb' 13 3 = 0b100#3 := by
    subst hx; and_intros <;> simp (disch := omega) only [append_field_low, append_field_high, append_bit_low, append_bit_high, field_all, ofBool_bit, Nat.reduceSub, Nat.sub_self] <;> rfl
  delta decodeThumb decodeThumbHalfSp
  simp [-BitVec.getLsbD_eq_getElem, hf]

theorem RoundTrip.tStrSp (rd : LowReg) (word8 : BitVec 8) :
    RoundTrip.Statement (.tStrSp rd word8) := by
  intro _
  delta encode decode
  dsimp only
  generalize hx : 0b10010#5 ++ rd ++ word8 = x
  have hf : x.extractLsb' 0 8 = (word8) ∧ x.extractLsb' 8 3 = (rd) ∧ x.extractLsb' 11 2 = 0b10#2 ∧ x.extractLsb' 13 3 =
      0b100#3 := by
    subst hx; and_intros <;> simp (disch := omega) only [append_field_low, append_field_high, append_bit_low, append_bit_high, field_all, ofBool_bit, Nat.reduceSub, Nat.sub_self] <;> rfl
  delta decodeThumb decodeThumbHalfSp
  simp [-BitVec.getLsbD_eq_getElem, hf]

theorem RoundTrip.tLdrSp (rd : LowReg) (word8 : BitVec 8) :
    RoundTrip.Statement (.tLdrSp rd word8) := by
  intro _
  delta encode decode
  dsimp only
  generalize hx : 0b10011#5 ++ rd ++ word8 = x
  have hf : x.extractLsb' 0 8 = (word8) ∧ x.extractLsb' 8 3 = (rd) ∧ x.extractLsb' 11 2 = 0b11#2 ∧ x.extractLsb' 13 3 =
      0b100#3 := by
    subst hx; and_intros <;> simp (disch := omega) only [append_field_low, append_field_high, append_bit_low, append_bit_high, field_all, ofBool_bit, Nat.reduceSub, Nat.sub_self] <;> rfl
  delta decodeThumb decodeThumbHalfSp
  simp [-BitVec.getLsbD_eq_getElem, hf]

theorem RoundTrip.tAddPc (rd : LowReg) (word8 : BitVec 8) :
    RoundTrip.Statement (.tAddPc rd word8) := by
  intro _
  delta encode decode
  dsimp only
  generalize hx : 0b10100#5 ++ rd ++ word8 = x
  have hf : x.getLsbD 11 = false ∧ x.getLsbD 12 = false ∧ x.extractLsb' 0 8 = (word8) ∧ x.extractLsb' 8 3 = (rd) ∧
      x.extractLsb' 13 3 = 0b101#3 := by
    subst hx; and_intros <;> simp (disch := omega) only [append_field_low, append_field_high, append_bit_low, append_bit_high, field_all, ofBool_bit, Nat.reduceSub, Nat.sub_self] <;> rfl
  delta decodeThumb decodeThumb
  simp [-BitVec.getLsbD_eq_getElem, hf]

theorem RoundTrip.tAddSp (rd : LowReg) (word8 : BitVec 8) :
    RoundTrip.Statement (.tAddSp rd word8) := by
  intro _
  delta encode decode
  dsimp only
  generalize hx : 0b10101#5 ++ rd ++ word8 = x
  have hf : x.getLsbD 11 = true ∧ x.getLsbD 12 = false ∧ x.extractLsb' 0 8 = (word8) ∧ x.extractLsb' 8 3 = (rd) ∧
      x.extractLsb' 13 3 = 0b101#3 := by
    subst hx; and_intros <;> simp (disch := omega) only [append_field_low, append_field_high, append_bit_low, append_bit_high, field_all, ofBool_bit, Nat.reduceSub, Nat.sub_self] <;> rfl
  delta decodeThumb decodeThumb
  simp [-BitVec.getLsbD_eq_getElem, hf]

theorem RoundTrip.tAddSpImm (word7 : BitVec 7) :
    RoundTrip.Statement (.tAddSpImm word7) := by
  intro _
  delta encode decode
  dsimp only
  generalize hx : 0b101100000#9 ++ word7 = x
  have hf : x.getLsbD 7 = false ∧ x.getLsbD 11 = false ∧ x.getLsbD 12 = true ∧ x.extractLsb' 0 7 = (word7) ∧ x.extractLsb'
      8 3 = 0b000#3 ∧ x.extractLsb' 8 4 = 0b0000#4 ∧ x.extractLsb' 13 3 = 0b101#3 := by
    subst hx; and_intros <;> simp (disch := omega) only [append_field_low, append_field_high, append_bit_low, append_bit_high, field_all, ofBool_bit, Nat.reduceSub, Nat.sub_self] <;> rfl
  delta decodeThumb decodeThumbMisc
  simp [-BitVec.getLsbD_eq_getElem, hf]

theorem RoundTrip.tSubSpImm (word7 : BitVec 7) :
    RoundTrip.Statement (.tSubSpImm word7) := by
  intro _
  delta encode decode
  dsimp only
  generalize hx : 0b101100001#9 ++ word7 = x
  have hf : x.getLsbD 7 = true ∧ x.getLsbD 11 = false ∧ x.getLsbD 12 = true ∧ x.extractLsb' 0 7 = (word7) ∧ x.extractLsb'
      8 3 = 0b000#3 ∧ x.extractLsb' 8 4 = 0b0000#4 ∧ x.extractLsb' 13 3 = 0b101#3 := by
    subst hx; and_intros <;> simp (disch := omega) only [append_field_low, append_field_high, append_bit_low, append_bit_high, field_all, ofBool_bit, Nat.reduceSub, Nat.sub_self] <;> rfl
  delta decodeThumb decodeThumbMisc
  simp [-BitVec.getLsbD_eq_getElem, hf]

theorem RoundTrip.tPush (r : Bool) (regs : BitVec 8) :
    RoundTrip.Statement (.tPush r regs) := by
  intro _
  delta encode decode
  dsimp only
  generalize hx : 0b1011010#7 ++ BitVec.ofBool r ++ regs = x
  have he8_1 : x.extractLsb' 8 1 = (BitVec.ofBool r) := by subst hx; simp (disch := omega) only [append_field_low, append_field_high, append_bit_low, append_bit_high, field_all, ofBool_bit, Nat.reduceSub, Nat.sub_self] <;> rfl
  have hf : x.getLsbD 7 = (regs).getLsbD 7 ∧ x.getLsbD 8 = r ∧ x.getLsbD 11 = false ∧ x.getLsbD 12 = true ∧ x.extractLsb'
      0 7 = (regs).extractLsb' 0 7 ∧ x.extractLsb' 0 8 = (regs) ∧ x.extractLsb' 9 3 = 0b010#3 ∧ x.extractLsb' 13 3 =
      0b101#3 := by
    subst hx; and_intros <;> simp (disch := omega) only [append_field_low, append_field_high, append_bit_low, append_bit_high, field_all, ofBool_bit, Nat.reduceSub, Nat.sub_self] <;> rfl
  have hm : x.extractLsb' 8 4 = x.extractLsb' 9 3 ++ x.extractLsb' 8 1 := field_split x 8 3 1
  cases r <;>
  · delta decodeThumb decodeThumbMisc
    simp [-BitVec.getLsbD_eq_getElem, hm, hf, he8_1]

theorem RoundTrip.tPop (r : Bool) (regs : BitVec 8) :
    RoundTrip.Statement (.tPop r regs) := by
  intro _
  delta encode decode
  dsimp only
  generalize hx : 0b1011110#7 ++ BitVec.ofBool r ++ regs = x
  have he8_1 : x.extractLsb' 8 1 = (BitVec.ofBool r) := by subst hx; simp (disch := omega) only [append_field_low, append_field_high, append_bit_low, append_bit_high, field_all, ofBool_bit, Nat.reduceSub, Nat.sub_self] <;> rfl
  have hf : x.getLsbD 7 = (regs).getLsbD 7 ∧ x.getLsbD 8 = r ∧ x.getLsbD 11 = true ∧ x.getLsbD 12 = true ∧ x.extractLsb' 0
      7 = (regs).extractLsb' 0 7 ∧ x.extractLsb' 0 8 = (regs) ∧ x.extractLsb' 9 3 = 0b110#3 ∧ x.extractLsb' 13 3 =
      0b101#3 := by
    subst hx; and_intros <;> simp (disch := omega) only [append_field_low, append_field_high, append_bit_low, append_bit_high, field_all, ofBool_bit, Nat.reduceSub, Nat.sub_self] <;> rfl
  have hm : x.extractLsb' 8 4 = x.extractLsb' 9 3 ++ x.extractLsb' 8 1 := field_split x 8 3 1
  cases r <;>
  · delta decodeThumb decodeThumbMisc
    simp [-BitVec.getLsbD_eq_getElem, hm, hf, he8_1]

theorem RoundTrip.tStmia (rb : LowReg) (regs : BitVec 8) :
    RoundTrip.Statement (.tStmia rb regs) := by
  intro _
  delta encode decode
  dsimp only
  generalize hx : 0b11000#5 ++ rb ++ regs = x
  have hf : x.getLsbD 11 = false ∧ x.getLsbD 12 = false ∧ x.extractLsb' 0 8 = (regs) ∧ x.extractLsb' 8 3 = (rb) ∧
      x.extractLsb' 13 3 = 0b110#3 := by
    subst hx; and_intros <;> simp (disch := omega) only [append_field_low, append_field_high, append_bit_low, append_bit_high, field_all, ofBool_bit, Nat.reduceSub, Nat.sub_self] <;> rfl
  delta decodeThumb decodeThumb
  simp [-BitVec.getLsbD_eq_getElem, hf]

theorem RoundTrip.tLdmia (rb : LowReg) (regs : BitVec 8) :
    RoundTrip.Statement (.tLdmia rb regs) := by
  intro _
  delta encode decode
  dsimp only
  generalize hx : 0b11001#5 ++ rb ++ regs = x
  have hf : x.getLsbD 11 = true ∧ x.getLsbD 12 = false ∧ x.extractLsb' 0 8 = (regs) ∧ x.extractLsb' 8 3 = (rb) ∧
      x.extractLsb' 13 3 = 0b110#3 := by
    subst hx; and_intros <;> simp (disch := omega) only [append_field_low, append_field_high, append_bit_low, append_bit_high, field_all, ofBool_bit, Nat.reduceSub, Nat.sub_self] <;> rfl
  delta decodeThumb decodeThumb
  simp [-BitVec.getLsbD_eq_getElem, hf]

theorem RoundTrip.tBeq (off8 : BitVec 8) :
    RoundTrip.Statement (.tBeq off8) := by
  intro _
  delta encode decode
  dsimp only
  generalize hx : 0b11010000#8 ++ off8 = x
  have hf : x.getLsbD 11 = false ∧ x.getLsbD 12 = true ∧ x.extractLsb' 0 8 = (off8) ∧ x.extractLsb' 8 3 = 0b000#3 ∧
      x.extractLsb' 8 4 = 0b0000#4 ∧ x.extractLsb' 13 3 = 0b110#3 := by
    subst hx; and_intros <;> simp (disch := omega) only [append_field_low, append_field_high, append_bit_low, append_bit_high, field_all, ofBool_bit, Nat.reduceSub, Nat.sub_self] <;> rfl
  delta decodeThumb decodeThumbCondBranch
  simp [-BitVec.getLsbD_eq_getElem, hf]

theorem RoundTrip.tBne (off8 : BitVec 8) :
    RoundTrip.Statement (.tBne off8) := by
  intro _
  delta encode decode
  dsimp only
  generalize hx : 0b11010001#8 ++ off8 = x
  have hf : x.getLsbD 11 = false ∧ x.getLsbD 12 = true ∧ x.extractLsb' 0 8 = (off8) ∧ x.extractLsb' 8 3 = 0b001#3 ∧
      x.extractLsb' 8 4 = 0b0001#4 ∧ x.extractLsb' 13 3 = 0b110#3 := by
    subst hx; and_intros <;> simp (disch := omega) only [append_field_low, append_field_high, append_bit_low, append_bit_high, field_all, ofBool_bit, Nat.reduceSub, Nat.sub_self] <;> rfl
  delta decodeThumb decodeThumbCondBranch
  simp [-BitVec.getLsbD_eq_getElem, hf]

theorem RoundTrip.tBcs (off8 : BitVec 8) :
    RoundTrip.Statement (.tBcs off8) := by
  intro _
  delta encode decode
  dsimp only
  generalize hx : 0b11010010#8 ++ off8 = x
  have hf : x.getLsbD 11 = false ∧ x.getLsbD 12 = true ∧ x.extractLsb' 0 8 = (off8) ∧ x.extractLsb' 8 3 = 0b010#3 ∧
      x.extractLsb' 8 4 = 0b0010#4 ∧ x.extractLsb' 13 3 = 0b110#3 := by
    subst hx; and_intros <;> simp (disch := omega) only [append_field_low, append_field_high, append_bit_low, append_bit_high, field_all, ofBool_bit, Nat.reduceSub, Nat.sub_self] <;> rfl
  delta decodeThumb decodeThumbCondBranch
  simp [-BitVec.getLsbD_eq_getElem, hf]

theorem RoundTrip.tBcc (off8 : BitVec 8) :
    RoundTrip.Statement (.tBcc off8) := by
  intro _
  delta encode decode
  dsimp only
  generalize hx : 0b11010011#8 ++ off8 = x
  have hf : x.getLsbD 11 = false ∧ x.getLsbD 12 = true ∧ x.extractLsb' 0 8 = (off8) ∧ x.extractLsb' 8 3 = 0b011#3 ∧
      x.extractLsb' 8 4 = 0b0011#4 ∧ x.extractLsb' 13 3 = 0b110#3 := by
    subst hx; and_intros <;> simp (disch := omega) only [append_field_low, append_field_high, append_bit_low, append_bit_high, field_all, ofBool_bit, Nat.reduceSub, Nat.sub_self] <;> rfl
  delta decodeThumb decodeThumbCondBranch
  simp [-BitVec.getLsbD_eq_getElem, hf]

theorem RoundTrip.tBmi (off8 : BitVec 8) :
    RoundTrip.Statement (.tBmi off8) := by
  intro _
  delta encode decode
  dsimp only
  generalize hx : 0b11010100#8 ++ off8 = x
  have hf : x.getLsbD 11 = false ∧ x.getLsbD 12 = true ∧ x.extractLsb' 0 8 = (off8) ∧ x.extractLsb' 8 3 = 0b100#3 ∧
      x.extractLsb' 8 4 = 0b0100#4 ∧ x.extractLsb' 13 3 = 0b110#3 := by
    subst hx; and_intros <;> simp (disch := omega) only [append_field_low, append_field_high, append_bit_low, append_bit_high, field_all, ofBool_bit, Nat.reduceSub, Nat.sub_self] <;> rfl
  delta decodeThumb decodeThumbCondBranch
  simp [-BitVec.getLsbD_eq_getElem, hf]

theorem RoundTrip.tBpl (off8 : BitVec 8) :
    RoundTrip.Statement (.tBpl off8) := by
  intro _
  delta encode decode
  dsimp only
  generalize hx : 0b11010101#8 ++ off8 = x
  have hf : x.getLsbD 11 = false ∧ x.getLsbD 12 = true ∧ x.extractLsb' 0 8 = (off8) ∧ x.extractLsb' 8 3 = 0b101#3 ∧
      x.extractLsb' 8 4 = 0b0101#4 ∧ x.extractLsb' 13 3 = 0b110#3 := by
    subst hx; and_intros <;> simp (disch := omega) only [append_field_low, append_field_high, append_bit_low, append_bit_high, field_all, ofBool_bit, Nat.reduceSub, Nat.sub_self] <;> rfl
  delta decodeThumb decodeThumbCondBranch
  simp [-BitVec.getLsbD_eq_getElem, hf]

theorem RoundTrip.tBvs (off8 : BitVec 8) :
    RoundTrip.Statement (.tBvs off8) := by
  intro _
  delta encode decode
  dsimp only
  generalize hx : 0b11010110#8 ++ off8 = x
  have hf : x.getLsbD 11 = false ∧ x.getLsbD 12 = true ∧ x.extractLsb' 0 8 = (off8) ∧ x.extractLsb' 8 3 = 0b110#3 ∧
      x.extractLsb' 8 4 = 0b0110#4 ∧ x.extractLsb' 13 3 = 0b110#3 := by
    subst hx; and_intros <;> simp (disch := omega) only [append_field_low, append_field_high, append_bit_low, append_bit_high, field_all, ofBool_bit, Nat.reduceSub, Nat.sub_self] <;> rfl
  delta decodeThumb decodeThumbCondBranch
  simp [-BitVec.getLsbD_eq_getElem, hf]

theorem RoundTrip.tBvc (off8 : BitVec 8) :
    RoundTrip.Statement (.tBvc off8) := by
  intro _
  delta encode decode
  dsimp only
  generalize hx : 0b11010111#8 ++ off8 = x
  have hf : x.getLsbD 11 = false ∧ x.getLsbD 12 = true ∧ x.extractLsb' 0 8 = (off8) ∧ x.extractLsb' 8 3 = 0b111#3 ∧
      x.extractLsb' 8 4 = 0b0111#4 ∧ x.extractLsb' 13 3 = 0b110#3 := by
    subst hx; and_intros <;> simp (disch := omega) only [append_field_low, append_field_high, append_bit_low, append_bit_high, field_all, ofBool_bit, Nat.reduceSub, Nat.sub_self] <;> rfl
  delta decodeThumb decodeThumbCondBranch
  simp [-BitVec.getLsbD_eq_getElem, hf]

theorem RoundTrip.tBhi (off8 : BitVec 8) :
    RoundTrip.Statement (.tBhi off8) := by
  intro _
  delta encode decode
  dsimp only
  generalize hx : 0b11011000#8 ++ off8 = x
  have hf : x.getLsbD 11 = true ∧ x.getLsbD 12 = true ∧ x.extractLsb' 0 8 = (off8) ∧ x.extractLsb' 8 3 = 0b000#3 ∧
      x.extractLsb' 8 4 = 0b1000#4 ∧ x.extractLsb' 13 3 = 0b110#3 := by
    subst hx; and_intros <;> simp (disch := omega) only [append_field_low, append_field_high, append_bit_low, append_bit_high, field_all, ofBool_bit, Nat.reduceSub, Nat.sub_self] <;> rfl
  delta decodeThumb decodeThumbCondBranch
  simp [-BitVec.getLsbD_eq_getElem, hf]

theorem RoundTrip.tBls (off8 : BitVec 8) :
    RoundTrip.Statement (.tBls off8) := by
  intro _
  delta encode decode
  dsimp only
  generalize hx : 0b11011001#8 ++ off8 = x
  have hf : x.getLsbD 11 = true ∧ x.getLsbD 12 = true ∧ x.extractLsb' 0 8 = (off8) ∧ x.extractLsb' 8 3 = 0b001#3 ∧
      x.extractLsb' 8 4 = 0b1001#4 ∧ x.extractLsb' 13 3 = 0b110#3 := by
    subst hx; and_intros <;> simp (disch := omega) only [append_field_low, append_field_high, append_bit_low, append_bit_high, field_all, ofBool_bit, Nat.reduceSub, Nat.sub_self] <;> rfl
  delta decodeThumb decodeThumbCondBranch
  simp [-BitVec.getLsbD_eq_getElem, hf]

theorem RoundTrip.tBge (off8 : BitVec 8) :
    RoundTrip.Statement (.tBge off8) := by
  intro _
  delta encode decode
  dsimp only
  generalize hx : 0b11011010#8 ++ off8 = x
  have hf : x.getLsbD 11 = true ∧ x.getLsbD 12 = true ∧ x.extractLsb' 0 8 = (off8) ∧ x.extractLsb' 8 3 = 0b010#3 ∧
      x.extractLsb' 8 4 = 0b1010#4 ∧ x.extractLsb' 13 3 = 0b110#3 := by
    subst hx; and_intros <;> simp (disch := omega) only [append_field_low, append_field_high, append_bit_low, append_bit_high, field_all, ofBool_bit, Nat.reduceSub, Nat.sub_self] <;> rfl
  delta decodeThumb decodeThumbCondBranch
  simp [-BitVec.getLsbD_eq_getElem, hf]

theorem RoundTrip.tBlt (off8 : BitVec 8) :
    RoundTrip.Statement (.tBlt off8) := by
  intro _
  delta encode decode
  dsimp only
  generalize hx : 0b11011011#8 ++ off8 = x
  have hf : x.getLsbD 11 = true ∧ x.getLsbD 12 = true ∧ x.extractLsb' 0 8 = (off8) ∧ x.extractLsb' 8 3 = 0b011#3 ∧
      x.extractLsb' 8 4 = 0b1011#4 ∧ x.extractLsb' 13 3 = 0b110#3 := by
    subst hx; and_intros <;> simp (disch := omega) only [append_field_low, append_field_high, append_bit_low, append_bit_high, field_all, ofBool_bit, Nat.reduceSub, Nat.sub_self] <;> rfl
  delta decodeThumb decodeThumbCondBranch
  simp [-BitVec.getLsbD_eq_getElem, hf]

theorem RoundTrip.tBgt (off8 : BitVec 8) :
    RoundTrip.Statement (.tBgt off8) := by
  intro _
  delta encode decode
  dsimp only
  generalize hx : 0b11011100#8 ++ off8 = x
  have hf : x.getLsbD 11 = true ∧ x.getLsbD 12 = true ∧ x.extractLsb' 0 8 = (off8) ∧ x.extractLsb' 8 3 = 0b100#3 ∧
      x.extractLsb' 8 4 = 0b1100#4 ∧ x.extractLsb' 13 3 = 0b110#3 := by
    subst hx; and_intros <;> simp (disch := omega) only [append_field_low, append_field_high, append_bit_low, append_bit_high, field_all, ofBool_bit, Nat.reduceSub, Nat.sub_self] <;> rfl
  delta decodeThumb decodeThumbCondBranch
  simp [-BitVec.getLsbD_eq_getElem, hf]

theorem RoundTrip.tBle (off8 : BitVec 8) :
    RoundTrip.Statement (.tBle off8) := by
  intro _
  delta encode decode
  dsimp only
  generalize hx : 0b11011101#8 ++ off8 = x
  have hf : x.getLsbD 11 = true ∧ x.getLsbD 12 = true ∧ x.extractLsb' 0 8 = (off8) ∧ x.extractLsb' 8 3 = 0b101#3 ∧
      x.extractLsb' 8 4 = 0b1101#4 ∧ x.extractLsb' 13 3 = 0b110#3 := by
    subst hx; and_intros <;> simp (disch := omega) only [append_field_low, append_field_high, append_bit_low, append_bit_high, field_all, ofBool_bit, Nat.reduceSub, Nat.sub_self] <;> rfl
  delta decodeThumb decodeThumbCondBranch
  simp [-BitVec.getLsbD_eq_getElem, hf]

theorem RoundTrip.tUndefCond (payload : BitVec 8) :
    RoundTrip.Statement (.tUndefCond payload) := by
  intro _
  delta encode decode
  dsimp only
  generalize hx : 0b11011110#8 ++ payload = x
  have hf : x.getLsbD 11 = true ∧ x.getLsbD 12 = true ∧ x.extractLsb' 0 8 = (payload) ∧ x.extractLsb' 8 3 = 0b110#3 ∧
      x.extractLsb' 8 4 = 0b1110#4 ∧ x.extractLsb' 13 3 = 0b110#3 := by
    subst hx; and_intros <;> simp (disch := omega) only [append_field_low, append_field_high, append_bit_low, append_bit_high, field_all, ofBool_bit, Nat.reduceSub, Nat.sub_self] <;> rfl
  delta decodeThumb decodeThumbCondBranch
  simp [-BitVec.getLsbD_eq_getElem, hf]

theorem RoundTrip.tSwi (comment : BitVec 8) :
    RoundTrip.Statement (.tSwi comment) := by
  intro _
  delta encode decode
  dsimp only
  generalize hx : 0b11011111#8 ++ comment = x
  have hf : x.getLsbD 11 = true ∧ x.getLsbD 12 = true ∧ x.extractLsb' 0 8 = (comment) ∧ x.extractLsb' 8 3 = 0b111#3 ∧
      x.extractLsb' 8 4 = 0b1111#4 ∧ x.extractLsb' 13 3 = 0b110#3 := by
    subst hx; and_intros <;> simp (disch := omega) only [append_field_low, append_field_high, append_bit_low, append_bit_high, field_all, ofBool_bit, Nat.reduceSub, Nat.sub_self] <;> rfl
  delta decodeThumb decodeThumbCondBranch
  simp [-BitVec.getLsbD_eq_getElem, hf]

theorem RoundTrip.tB (off11 : BitVec 11) :
    RoundTrip.Statement (.tB off11) := by
  intro _
  delta encode decode
  dsimp only
  generalize hx : 0b11100#5 ++ off11 = x
  have hf : x.extractLsb' 0 11 = (off11) ∧ x.extractLsb' 11 2 = 0b00#2 ∧ x.extractLsb' 13 3 = 0b111#3 := by
    subst hx; and_intros <;> simp (disch := omega) only [append_field_low, append_field_high, append_bit_low, append_bit_high, field_all, ofBool_bit, Nat.reduceSub, Nat.sub_self] <;> rfl
  delta decodeThumb decodeThumb
  simp [-BitVec.getLsbD_eq_getElem, hf]

theorem RoundTrip.tUndef11101 (payload : BitVec 11) :
    RoundTrip.Statement (.tUndef11101 payload) := by
  intro _
  delta encode decode
  dsimp only
  generalize hx : 0b11101#5 ++ payload = x
  have hf : x.extractLsb' 0 11 = (payload) ∧ x.extractLsb' 11 2 = 0b01#2 ∧ x.extractLsb' 13 3 = 0b111#3 := by
    subst hx; and_intros <;> simp (disch := omega) only [append_field_low, append_field_high, append_bit_low, append_bit_high, field_all, ofBool_bit, Nat.reduceSub, Nat.sub_self] <;> rfl
  delta decodeThumb decodeThumb
  simp [-BitVec.getLsbD_eq_getElem, hf]

theorem RoundTrip.tBlHigh (off11 : BitVec 11) :
    RoundTrip.Statement (.tBlHigh off11) := by
  intro _
  delta encode decode
  dsimp only
  generalize hx : 0b11110#5 ++ off11 = x
  have hf : x.extractLsb' 0 11 = (off11) ∧ x.extractLsb' 11 2 = 0b10#2 ∧ x.extractLsb' 13 3 = 0b111#3 := by
    subst hx; and_intros <;> simp (disch := omega) only [append_field_low, append_field_high, append_bit_low, append_bit_high, field_all, ofBool_bit, Nat.reduceSub, Nat.sub_self] <;> rfl
  delta decodeThumb decodeThumb
  simp [-BitVec.getLsbD_eq_getElem, hf]

theorem RoundTrip.tBlLow (off11 : BitVec 11) :
    RoundTrip.Statement (.tBlLow off11) := by
  intro _
  delta encode decode
  dsimp only
  generalize hx : 0b11111#5 ++ off11 = x
  have hf : x.extractLsb' 0 11 = (off11) ∧ x.extractLsb' 11 2 = 0b11#2 ∧ x.extractLsb' 13 3 = 0b111#3 := by
    subst hx; and_intros <;> simp (disch := omega) only [append_field_low, append_field_high, append_bit_low, append_bit_high, field_all, ofBool_bit, Nat.reduceSub, Nat.sub_self] <;> rfl
  delta decodeThumb decodeThumb
  simp [-BitVec.getLsbD_eq_getElem, hf]

theorem RoundTrip.tUndefB1 (payload : BitVec 8) :
    RoundTrip.Statement (.tUndefB1 payload) := by
  intro _
  delta encode decode
  dsimp only
  generalize hx : 0b10110001#8 ++ payload = x
  have hf : x.getLsbD 11 = false ∧ x.getLsbD 12 = true ∧ x.extractLsb' 0 8 = (payload) ∧ x.extractLsb' 8 3 = 0b001#3 ∧
      x.extractLsb' 8 4 = 0b0001#4 ∧ x.extractLsb' 13 3 = 0b101#3 := by
    subst hx; and_intros <;> simp (disch := omega) only [append_field_low, append_field_high, append_bit_low, append_bit_high, field_all, ofBool_bit, Nat.reduceSub, Nat.sub_self] <;> rfl
  delta decodeThumb decodeThumbMisc
  simp [-BitVec.getLsbD_eq_getElem, hf]

theorem RoundTrip.tUndefB2 (payload : BitVec 9) :
    RoundTrip.Statement (.tUndefB2 payload) := by
  intro _
  delta encode decode
  dsimp only
  generalize hx : 0b1011001#7 ++ payload = x
  have he8_1 : x.extractLsb' 8 1 = (payload).extractLsb' 8 1 := by subst hx; simp (disch := omega) only [append_field_low, append_field_high, append_bit_low, append_bit_high, field_all, ofBool_bit, Nat.reduceSub, Nat.sub_self] <;> rfl
  have hf : x.getLsbD 7 = (payload).getLsbD 7 ∧ x.getLsbD 8 = (payload).getLsbD 8 ∧ x.getLsbD 11 = false ∧ x.getLsbD 12 =
      true ∧ x.extractLsb' 0 7 = (payload).extractLsb' 0 7 ∧ x.extractLsb' 0 8 = (payload).extractLsb' 0 8 ∧
      x.extractLsb' 0 9 = (payload) ∧ x.extractLsb' 9 3 = 0b001#3 ∧ x.extractLsb' 13 3 = 0b101#3 := by
    subst hx; and_intros <;> simp (disch := omega) only [append_field_low, append_field_high, append_bit_low, append_bit_high, field_all, ofBool_bit, Nat.reduceSub, Nat.sub_self] <;> rfl
  have hm : x.extractLsb' 8 4 = x.extractLsb' 9 3 ++ x.extractLsb' 8 1 := field_split x 8 3 1
  rcases bit_cases (payload.extractLsb' 8 1) with hp | hp <;>
  · rw [hp] at he8_1
    delta decodeThumb decodeThumbMisc
    simp [-BitVec.getLsbD_eq_getElem, hm, hf, he8_1]

theorem RoundTrip.tUndefB6 (payload : BitVec 9) :
    RoundTrip.Statement (.tUndefB6 payload) := by
  intro _
  delta encode decode
  dsimp only
  generalize hx : 0b1011011#7 ++ payload = x
  have he8_1 : x.extractLsb' 8 1 = (payload).extractLsb' 8 1 := by subst hx; simp (disch := omega) only [append_field_low, append_field_high, append_bit_low, append_bit_high, field_all, ofBool_bit, Nat.reduceSub, Nat.sub_self] <;> rfl
  have hf : x.getLsbD 7 = (payload).getLsbD 7 ∧ x.getLsbD 8 = (payload).getLsbD 8 ∧ x.getLsbD 11 = false ∧ x.getLsbD 12 =
      true ∧ x.extractLsb' 0 7 = (payload).extractLsb' 0 7 ∧ x.extractLsb' 0 8 = (payload).extractLsb' 0 8 ∧
      x.extractLsb' 0 9 = (payload) ∧ x.extractLsb' 9 3 = 0b011#3 ∧ x.extractLsb' 13 3 = 0b101#3 := by
    subst hx; and_intros <;> simp (disch := omega) only [append_field_low, append_field_high, append_bit_low, append_bit_high, field_all, ofBool_bit, Nat.reduceSub, Nat.sub_self] <;> rfl
  have hm : x.extractLsb' 8 4 = x.extractLsb' 9 3 ++ x.extractLsb' 8 1 := field_split x 8 3 1
  rcases bit_cases (payload.extractLsb' 8 1) with hp | hp <;>
  · rw [hp] at he8_1
    delta decodeThumb decodeThumbMisc
    simp [-BitVec.getLsbD_eq_getElem, hm, hf, he8_1]

theorem RoundTrip.tUndefB8 (payload : BitVec 10) :
    RoundTrip.Statement (.tUndefB8 payload) := by
  intro _
  delta encode decode
  dsimp only
  generalize hx : 0b101110#6 ++ payload = x
  have he8_2 : x.extractLsb' 8 2 = (payload).extractLsb' 8 2 := by subst hx; simp (disch := omega) only [append_field_low, append_field_high, append_bit_low, append_bit_high, field_all, ofBool_bit, Nat.reduceSub, Nat.sub_self] <;> rfl
  have hf : x.getLsbD 7 = (payload).getLsbD 7 ∧ x.getLsbD 8 = (payload).getLsbD 8 ∧ x.getLsbD 11 = true ∧ x.getLsbD 12 =
      true ∧ x.extractLsb' 0 7 = (payload).extractLsb' 0 7 ∧ x.extractLsb' 0 8 = (payload).extractLsb' 0 8 ∧
      x.extractLsb' 0 9 = (payload).extractLsb' 0 9 ∧ x.extractLsb' 0 10 = (payload) ∧ x.extractLsb' 10 2 = 0b10#2 ∧
      x.extractLsb' 13 3 = 0b101#3 := by
    subst hx; and_intros <;> simp (disch := omega) only [append_field_low, append_field_high, append_bit_low, append_bit_high, field_all, ofBool_bit, Nat.reduceSub, Nat.sub_self] <;> rfl
  have hm : x.extractLsb' 8 4 = x.extractLsb' 10 2 ++ x.extractLsb' 8 2 := field_split x 8 2 2
  rcases pair_cases (payload.extractLsb' 8 2) with hp | hp | hp | hp <;>
  · rw [hp] at he8_2
    delta decodeThumb decodeThumbMisc
    simp [-BitVec.getLsbD_eq_getElem, hm, hf, he8_2]

theorem RoundTrip.tUndefBC (payload : BitVec 9) :
    RoundTrip.Statement (.tUndefBC payload) := by
  intro _
  delta encode decode
  dsimp only
  generalize hx : 0b1011111#7 ++ payload = x
  have he8_1 : x.extractLsb' 8 1 = (payload).extractLsb' 8 1 := by subst hx; simp (disch := omega) only [append_field_low, append_field_high, append_bit_low, append_bit_high, field_all, ofBool_bit, Nat.reduceSub, Nat.sub_self] <;> rfl
  have hf : x.getLsbD 7 = (payload).getLsbD 7 ∧ x.getLsbD 8 = (payload).getLsbD 8 ∧ x.getLsbD 11 = true ∧ x.getLsbD 12 =
      true ∧ x.extractLsb' 0 7 = (payload).extractLsb' 0 7 ∧ x.extractLsb' 0 8 = (payload).extractLsb' 0 8 ∧
      x.extractLsb' 0 9 = (payload) ∧ x.extractLsb' 9 3 = 0b111#3 ∧ x.extractLsb' 13 3 = 0b101#3 := by
    subst hx; and_intros <;> simp (disch := omega) only [append_field_low, append_field_high, append_bit_low, append_bit_high, field_all, ofBool_bit, Nat.reduceSub, Nat.sub_self] <;> rfl
  have hm : x.extractLsb' 8 4 = x.extractLsb' 9 3 ++ x.extractLsb' 8 1 := field_split x 8 3 1
  rcases bit_cases (payload.extractLsb' 8 1) with hp | hp <;>
  · rw [hp] at he8_1
    delta decodeThumb decodeThumbMisc
    simp [-BitVec.getLsbD_eq_getElem, hm, hf, he8_1]

theorem RoundTrip.tBxH1 (payload : BitVec 7) :
    RoundTrip.Statement (.tBxH1 payload) := by
  intro _
  delta encode decode
  dsimp only
  generalize hx : 0b010001111#9 ++ payload = x
  have hf : x.getLsbD 6 = (payload).getLsbD 6 ∧ x.getLsbD 7 = true ∧ x.getLsbD 10 = true ∧ x.getLsbD 11 = false ∧
      x.getLsbD 12 = false ∧ x.extractLsb' 0 7 = (payload) ∧ x.extractLsb' 3 3 = (payload).extractLsb' 3 3 ∧
      x.extractLsb' 8 2 = 0b11#2 ∧ x.extractLsb' 8 3 = 0b111#3 ∧ x.extractLsb' 13 3 = 0b010#3 := by
    subst hx; and_intros <;> simp (disch := omega) only [append_field_low, append_field_high, append_bit_low, append_bit_high, field_all, ofBool_bit, Nat.reduceSub, Nat.sub_self] <;> rfl
  delta decodeThumb decodeThumbHi
  simp [-BitVec.getLsbD_eq_getElem, hf]

end Sys2Proof.Laws
end

