-- ==== Sys2Proof/Laws/Quiet.lean ====
section
/-! SUPPORT. What a data access does with the MMU off and no watchpoint armed: the transfer the claims name. -/

namespace Sys2Proof.Machine

theorem MemoryStep.mmuOn {s t : State} (h : MemoryStep s t) : t.cp15.m = s.cp15.m := by
  have k := congrArg (fun x : State => x.cp15.m) h.fixed; exact k
theorem MemoryStep.checking {s t : State} (h : MemoryStep s t) : t.cp15.a = s.cp15.a := by
  have k := congrArg (fun x : State => x.cp15.a) h.fixed; exact k
theorem MemoryStep.bigEndian {s t : State} (h : MemoryStep s t) : t.cp15.b = s.cp15.b := by
  have k := congrArg (fun x : State => x.cp15.b) h.fixed; exact k
theorem MemoryStep.pid {s t : State} (h : MemoryStep s t) : t.cp15.pid = s.cp15.pid := by
  have k := congrArg (fun x : State => x.cp15.pid) h.fixed; exact k
theorem MemoryStep.testMode {s t : State} (h : MemoryStep s t) : t.testMode = s.testMode := by
  rw [State.testMode, State.testMode, h.halted, h.tap]
theorem MemoryStep.unit0 {s t : State} (h : MemoryStep s t) : t.ice.unit0 = s.ice.unit0 := by
  have k := congrArg (fun x : State => x.ice.unit0) h.fixed; exact k
theorem MemoryStep.unit1 {s t : State} (h : MemoryStep s t) : t.ice.unit1 = s.ice.unit1 := by
  have k := congrArg (fun x : State => x.ice.unit1) h.fixed; exact k

theorem MemoryStep.relocate {s t : State} (h : MemoryStep s t) (a : Word) : t.relocate a = s.relocate a := by
  rw [State.relocate, State.relocate, h.pid]

theorem MemoryStep.regionOf {s t : State} (h : MemoryStep s t) (a : Word) : t.regionOf a = s.regionOf a :=
  regionOf_params h.params a

end Sys2Proof.Machine

namespace Sys2Proof.Claims

open Sys2Proof.Machine

theorem Quiet.triggers {s : State} (h : Quiet s) (o : Observed) : s.triggers o = false := by
  simp [State.triggers, State.breakInput, -BitVec.getLsbD_eq_getElem, h.unit0, h.unit1, h.noBreak, h.normal]

theorem Quiet.debugSpeed {s : State} (h : Quiet s) : s.debugSpeed = false := by
  rw [State.debugSpeed, h.running]
  rfl

/-- An access to memory leaves a quiet state quiet. -/
theorem Quiet.step {s t : State} (q : Quiet s) (h : MemoryStep s t) : Quiet t := by
  exact ⟨h.mmuOn.trans q.mmuOff, h.halted.trans q.running, h.testMode.trans q.normal, h.alone q.alone, by rw [h.unit0]; exact q.unit0, by rw [h.unit1]; exact q.unit1,
    by rw [h.pins]; exact q.noBreak⟩

/-- An access to memory leaves an address ready. -/
theorem Ready.step {s t : State} {a : Word} {size : Size} (r : Ready s a size) (h : MemoryStep s t) : Ready t a size := by
  refine ⟨?_, ?_, ?_⟩
  · rw [h.relocate, show t.misaligned size (s.relocate a) = s.misaligned size (s.relocate a) by
      unfold State.misaligned; rw [h.checking]]
    exact r.aligned
  · rw [h.relocate]; exact r.even
  · rw [h.relocate, h.regionOf]; exact r.ram

theorem Ready.notOdd {s : State} {a : Word} {size : Size} (r : Ready s a size) :
    ¬ (size = .half ∧ (s.relocate a).getLsbD 0 = true) := by
  rintro ⟨h1, h2⟩
  rw [r.even h1] at h2
  cases h2

theorem quiet_onBus {s : State} (h : Quiet s) (t : BusTransfer) : Quiet (s.onBus t) := h.step (onBus_step s t)

/-- What a transfer reads is what memory holds, while no other master writes. -/
theorem Quiet.memoryWord {s : State} (h : Quiet s) (t : BusTransfer) (a : Word) : (s.onBus t).memoryWord a = s.memoryWord a := by
  rw [onBus_alone t h.alone]
  rfl

/-- The address a transfer carries is that of its first byte (R111). -/
theorem sizeAlign_eq (size : Size) (a : Word) : sizeAlign size a = firstByte size a := by cases size <;> rfl

/-- A ready read completes. -/
theorem dataRead_quiet {s : State} {a : Word} {size : Size} (priv lock : Bool) (h : Quiet s) (r : Ready s a size) :
    dataRead s a size priv lock = .done (readValue s a size) (afterRead s a size priv lock) := by
  have hreg : s.drainAll.regionOf (firstByte size (s.relocate a)) = .ram := by
    rw [(drainAll_step s).regionOf]; exact r.ram
  have hd := h.step (drainAll_step s)
  have hq : ∀ t o, (s.drainAll.onBus t).triggers o = false := fun t o => (quiet_onBus hd t).triggers o
  have hi : ∀ t w, (s.drainAll.onBus t).dataIntoCore w = w := fun t w => by
    rw [State.dataIntoCore, (quiet_onBus hd t).normal]; rfl
  have hb : s.drainAll.cp15.b = s.cp15.b := (drainAll_step s).bigEndian
  unfold dataRead
  dsimp only
  rw [h.debugSpeed, r.aligned, if_neg r.notOdd]
  simp only [Bool.false_eq_true, if_false, Machine.translate, h.mmuOff, externalOrCached, State.cacheOn, Bool.and_false,
    Bool.false_and, State.flatMapping, busRead, sizeAlign_eq, hreg, watchOutcome, hq, hi, hd.memoryWord, hb]
  rfl

/-- A ready write completes. -/
theorem dataWrite_quiet {s : State} {a : Word} {size : Size} (v : Word) (priv lock : Bool) (h : Quiet s) (r : Ready s a size) :
    dataWrite s a size v priv lock = .done 0 (afterWrite s a size v priv lock) := by
  have hreg : (s.updateCache (s.relocate a) size (replicateLanes size v)).drainAll.regionOf (firstByte size (s.relocate a)) = .ram := by
    rw [((updateCache_step s _ _ _).trans (drainAll_step _)).regionOf]; exact r.ram
  unfold dataWrite
  dsimp only
  rw [h.debugSpeed, r.aligned, if_neg r.notOdd, State.dataToSystem, h.normal]
  simp only [Bool.false_eq_true, if_false, Machine.translate, h.mmuOff, State.flatMapping, h.triggers, Bool.false_and, performWrite,
    State.buffered, busWrite, sizeAlign_eq, hreg, watchOutcome, afterWrite]

/-- A read that completes at once is a step of memory. -/
theorem afterRead_step (s : State) (a : Word) (size : Size) (priv lock : Bool) :
    MemoryStep s (afterRead s a size priv lock) :=
  ((drainAll_step s).trans (onBus_step _ _)).trans (observe_step _ _)

/-- So is a write. -/
theorem afterWrite_step (s : State) (a : Word) (size : Size) (v : Word) (priv lock : Bool) :
    MemoryStep s (afterWrite s a size v priv lock) :=
  (((updateCache_step s _ _ _).trans (drainAll_step _)).trans (busWrite_step _ _ _)).trans (observe_step _ _)

/-- A read changes no byte of memory. -/
theorem afterRead_settled (s : State) (a : Word) (size : Size) (priv lock : Bool) :
    Settled s (afterRead s a size priv lock) :=
  ((drainAll_settled s).trans (onBus_settled _ _)).trans (observe_settled _ _)

end Sys2Proof.Claims
end

