-- ==== Sys2Proof/Tests/Slice0.lean ====
section
/-! SUPPORT. Tests: ill-formed terms that WellFormed refuses, a word of each row decoded, single steps with the results of
95_test_vectors.md, and a witness for the hypotheses of each statement. -/

namespace Sys2Proof.Tests

open Sys2Proof.Machine Sys2Proof.Claims

set_option Elab.async false

/-! Helpers. -/

/-- Every word decodes to its instruction. -/
def decodes (nbits : Nat) (rows : List (Nat × Instr)) : Bool := rows.all (fun r => decodeTableWord nbits r.1 == some r.2)

/-- A word of memory in little-endian order. -/
def putWord (s : State) (a v : Word) : State :=
  (((s.setByte a (v.extractLsb' 0 8)).setByte (a + 1#32) (v.extractLsb' 8 8)).setByte (a + 2#32)
    (v.extractLsb' 16 8)).setByte (a + 3#32) (v.extractLsb' 24 8)

/-- The starting state of 95_test_vectors.md: a CPSR, a PC and some registers of the mode. -/
def start (cpsr pc : Word) (regs : List (RegNum × Word)) : State :=
  regs.foldl (fun t p => { t with gpr := t.gpr.set (physIndex t.cpsr.m p.1) p.2 })
    { State.reset with pc := pc, cpsr := psrOfWord cpsr }

/-- The memory that 95_test_vectors.md calls Data. -/
def withData (s : State) : State :=
  putWord (putWord (putWord s 0x9000#32 0x44332211#32) 0x9004#32 0x88776655#32) 0x9008#32 0xCCBBAA99#32

/-- What a step with an instruction leaves in some registers, some words of memory, CPSR and the PC. -/
def after (nbits w : Nat) (s : State) (regs : List RegNum) (mem : List Word) :
    Option (List Word × List Word × Word × Word) :=
  match step (s.withFetchWord nbits w) with
  | .next t =>
    some (regs.map (fun r => t.gpr[physIndex t.cpsr.m r]), mem.map t.memoryWord, psrToWord t.cpsr, t.pc)
  | .fault _ => none
  | .refused _ => none

/-! Decoding. -/

theorem test_decode_andImm_to_rsbRegShift : decodes 32
  [(0xB2006EEC, .andImm .lt false 0#4 6#4 14#4 0xEC#8),
   (0x1011EDC9, .andShift .ne true 1#4 14#4 0x1B#5 .asr 9#4),
   (0x4019E759, .andRegShift .mi true 9#4 14#4 7#4 .asr 9#4),
   (0x7238E054, .eorImm .vc true 8#4 14#4 0#4 0x54#8),
   (0x203E74CC, .eorShift .cs true 14#4 7#4 0x9#5 .asr 12#4),
   (0xA037D951, .eorRegShift .ge true 7#4 13#4 9#4 .asr 1#4),
   (0x124369F4, .subImm .ne false 3#4 6#4 9#4 0xF4#8),
   (0x905B43E4, .subShift .ls true 11#4 4#4 0x7#5 .ror 4#4),
   (0x10519B53, .subRegShift .ne true 1#4 9#4 11#4 .asr 3#4),
   (0xB271D793, .rsbImm .lt true 1#4 13#4 7#4 0x93#8),
   (0x407872C2, .rsbShift .mi true 8#4 7#4 0x5#5 .asr 2#4),
   (0x30746118, .rsbRegShift .cc true 4#4 6#4 1#4 .lsl 8#4)] = true := by decide +kernel

theorem test_decode_addImm_to_rscRegShift : decodes 32
  [(0xB29446A5, .addImm .lt true 4#4 4#4 6#4 0xA5#8),
   (0xD0817582, .addShift .le false 1#4 7#4 0xB#5 .lsl 2#4),
   (0x408CAD7B, .addRegShift .mi false 12#4 10#4 13#4 .ror 11#4),
   (0x02A00FBD, .adcImm .eq false 0#4 0#4 15#4 0xBD#8),
   (0x10A33B63, .adcShift .ne false 3#4 3#4 0x16#5 .ror 3#4),
   (0x30B30372, .adcRegShift .cc true 3#4 0#4 3#4 .ror 2#4),
   (0xE2DB38DA, .sbcImm .al true 11#4 3#4 8#4 0xDA#8),
   (0x10C9E3AE, .sbcShift .ne false 9#4 14#4 0x7#5 .lsr 14#4),
   (0xA0CC8B74, .sbcRegShift .ge false 12#4 8#4 11#4 .ror 4#4),
   (0xD2EE191D, .rscImm .le false 14#4 1#4 9#4 0x1D#8),
   (0x20EE4040, .rscShift .cs false 14#4 4#4 0x0#5 .asr 0#4),
   (0x20ED061D, .rscRegShift .cs false 13#4 0#4 6#4 .lsl 13#4)] = true := by decide +kernel

theorem test_decode_tstImm_to_cmnRegShift : decodes 32
  [(0xB31A0C3C, .tstImm .lt 10#4 12#4 0x3C#8),
   (0x91190CAA, .tstShift .ls 9#4 0x19#5 .lsr 10#4),
   (0xB119061A, .tstRegShift .lt 9#4 6#4 .lsl 10#4),
   (0xB3340146, .teqImm .lt 4#4 1#4 0x46#8),
   (0x61320AC9, .teqShift .vs 2#4 0x15#5 .asr 9#4),
   (0x21300F5C, .teqRegShift .cs 0#4 15#4 .asr 12#4),
   (0x13590C7C, .cmpImm .ne 9#4 12#4 0x7C#8),
   (0xE1590F28, .cmpShift .al 9#4 0x1E#5 .lsr 8#4),
   (0xD159041C, .cmpRegShift .le 9#4 4#4 .lsl 12#4),
   (0x437204A3, .cmnImm .mi 2#4 4#4 0xA3#8),
   (0x117B0D22, .cmnShift .ne 11#4 0x1A#5 .lsr 2#4),
   (0x0170017A, .cmnRegShift .eq 0#4 1#4 .ror 10#4)] = true := by decide +kernel

theorem test_decode_orrImm_to_mvnRegShift : decodes 32
  [(0x33936FA4, .orrImm .cc true 3#4 6#4 15#4 0xA4#8),
   (0xD1956DEE, .orrShift .le true 5#4 6#4 0x1B#5 .ror 14#4),
   (0x619EFA10, .orrRegShift .vs true 14#4 15#4 10#4 .lsl 0#4),
   (0xE3A0E481, .movImm .al false 14#4 4#4 0x81#8),
   (0xB1A03A07, .movShift .lt false 3#4 0x14#5 .lsl 7#4),
   (0x51A0303F, .movRegShift .pl false 3#4 0#4 .lsr 15#4),
   (0x33C46F33, .bicImm .cc false 4#4 6#4 15#4 0x33#8),
   (0x41C111E8, .bicShift .mi false 1#4 1#4 0x3#5 .ror 8#4),
   (0x81DC4377, .bicRegShift .hi true 12#4 4#4 3#4 .ror 7#4),
   (0x23E0BFBD, .mvnImm .cs false 11#4 15#4 0xBD#8),
   (0x41F04969, .mvnShift .mi true 4#4 0x12#5 .ror 9#4),
   (0xC1F07A1E, .mvnRegShift .gt true 7#4 10#4 .lsl 14#4)] = true := by decide +kernel

theorem test_decode_mul_to_ldrImmPost : decodes 32
  [(0x60010496, .mul .vs false 1#4 4#4 6#4),
   (0x8023CF9D, .mla .hi false 3#4 12#4 15#4 13#4),
   (0x60810A9B, .umull .vs false 1#4 0#4 10#4 11#4),
   (0x00AA2993, .umlal .eq false 10#4 2#4 9#4 3#4),
   (0x20C93490, .smull .cs false 9#4 3#4 4#4 0#4),
   (0x20F9B694, .smlal .cs true 9#4 11#4 6#4 4#4),
   (0x810F0000, .mrs .hi false 0#4),
   (0xD36BFADC, .msrImm .le true 11#4 10#4 0xDC#8),
   (0x7127F008, .msrReg .vc false 7#4 8#4),
   (0x412FFF17, .bx .mi 7#4),
   (0xC5302647, .ldrImmPre .gt false true 0#4 2#4 0x647#12),
   (0xC495F649, .ldrImmPost .gt true 5#4 15#4 0x649#12)] = true := by decide +kernel

theorem test_decode_ldrtImm_to_strImmPost : decodes 32
  [(0xD4B1E412, .ldrtImm .le true 1#4 14#4 0x412#12),
   (0xA71BE3A2, .ldrRegPre .ge false false 11#4 14#4 0x7#5 .lsr 2#4),
   (0xD61ABC8B, .ldrRegPost .le false 10#4 11#4 0x19#5 .lsl 11#4),
   (0x86349CE0, .ldrtReg .hi false 4#4 9#4 0x19#5 .ror 0#4),
   (0x557AF4E1, .ldrbImmPre .pl false true 10#4 15#4 0x4E1#12),
   (0x74D5104E, .ldrbImmPost .vc true 5#4 1#4 0x4E#12),
   (0x44FE2E4A, .ldrbtImm .mi true 14#4 2#4 0xE4A#12),
   (0x07F51CC0, .ldrbRegPre .eq true true 5#4 1#4 0x19#5 .asr 0#4),
   (0x16505245, .ldrbRegPost .ne false 0#4 5#4 0x4#5 .asr 5#4),
   (0x767B0AEF, .ldrbtReg .vc false 11#4 0#4 0x15#5 .ror 15#4),
   (0xA58A7B74, .strImmPre .ge true false 10#4 7#4 0xB74#12),
   (0x74090696, .strImmPost .vc false 9#4 0#4 0x696#12)] = true := by decide +kernel

theorem test_decode_strtImm_to_ldrhReg : decodes 32
  [(0x442DEC8C, .strtImm .mi false 13#4 14#4 0xC8C#12),
   (0xC70B11EB, .strRegPre .gt false false 11#4 1#4 0x3#5 .ror 11#4),
   (0x860164C5, .strRegPost .hi false 1#4 6#4 0x9#5 .asr 5#4),
   (0x26234AC0, .strtReg .cs false 3#4 4#4 0x15#5 .asr 0#4),
   (0x5565FF1C, .strbImmPre .pl false true 5#4 15#4 0xF1C#12),
   (0x4441BAF8, .strbImmPost .mi false 1#4 11#4 0xAF8#12),
   (0x44EBDC0D, .strbtImm .mi true 11#4 13#4 0xC0D#12),
   (0x17E25125, .strbRegPre .ne true true 2#4 5#4 0x2#5 .lsr 5#4),
   (0x26C186EC, .strbRegPost .cs true 1#4 8#4 0xD#5 .ror 12#4),
   (0x76EE36A6, .strbtReg .vc true 14#4 3#4 0xD#5 .lsr 6#4),
   (0xA17D88BD, .ldrhImm .ge true false true 13#4 8#4 8#4 13#4),
   (0x9090A0B0, .ldrhReg .ls false true false 0#4 10#4 0#4)] = true := by decide +kernel

theorem test_decode_ldrsbImm_to_swp : decodes 32
  [(0x917041DD, .ldrsbImm .ls true false true 0#4 4#4 1#4 13#4),
   (0x213770D6, .ldrsbReg .cs true false true 7#4 7#4 6#4),
   (0xA0D241FB, .ldrshImm .ge false true false 2#4 4#4 1#4 11#4),
   (0x61B1E0FE, .ldrshReg .vs true true true 1#4 14#4 14#4),
   (0xA161ADBB, .strhImm .ge true false true 1#4 10#4 13#4 11#4),
   (0x010C90BA, .strhReg .eq true false false 12#4 9#4 10#4),
   (0xE89E0F3A, .ldm .al false true false 14#4 0xF3A#16),
   (0xE9241806, .stm .al true false true 4#4 0x1806#16),
   (0x68DC184D, .ldmUser .vs false true false 12#4 0x184D#15),
   (0x59FAAC3E, .ldmRestore .pl true true true 10#4 0x2C3E#15),
   (0xA96817A0, .stmUser .ge true false true 8#4 0x17A0#16),
   (0xD106F091, .swp .le 6#4 15#4 1#4)] = true := by decide +kernel

theorem test_decode_swpb_to_mrcControl : decodes 32
  [(0x614D2098, .swpb .vs 13#4 2#4 8#4),
   (0x7AB77379, .b .vc 0xB77379#24),
   (0xDB3C4873, .bl .le 0x3C4873#24),
   (0xCF956BD8, .swi .gt 0x956BD8#24),
   (0x2E340F08, .cdp .cs 3#4 4#4 0#4 15#4 0#3 8#4),
   (0x5EC5B758, .mcr .pl 6#3 5#4 11#4 7#4 2#3 8#4),
   (0x6E1F5A59, .mrc .vs 0#3 15#4 5#4 10#4 2#3 9#4),
   (0x8D74FAD7, .ldc .hi true false true true 4#4 15#4 10#4 0xD7#8),
   (0xED285A5C, .stc .al true false false true 8#4 5#4 10#4 0x5C#8),
   (0x66931BFC, .undefined .vs 0x498DF#20 12#4),
   (0xDE109F10, .mrcId .le 9#4),
   (0x8E113F10, .mrcControl .hi 3#4)] = true := by decide +kernel

theorem test_decode_mcrControl_to_mcrInvTlbEntryC5 : decodes 32
  [(0x0E018F10, .mcrControl .eq 8#4),
   (0x5E12DF10, .mrcTtb .pl 13#4),
   (0x8E02CF10, .mcrTtb .hi 12#4),
   (0xCE13CF10, .mrcDacr .gt 12#4),
   (0xEE038F10, .mcrDacr .al 8#4),
   (0x7E15EF10, .mrcFsr .vc 14#4),
   (0xCE055F10, .mcrFsr .gt 5#4),
   (0x2E163F10, .mrcFar .cs 3#4),
   (0x5E069F10, .mcrFar .pl 9#4),
   (0x6E07AF17, .mcrInvCache .vs 10#4),
   (0xCE084F15, .mcrInvTlbC5 .gt 4#4),
   (0x8E088F35, .mcrInvTlbEntryC5 .hi 8#4)] = true := by decide +kernel

theorem test_decode_mcrInvTlbC6_to_mcrPid : decodes 32
  [(0x1E083F16, .mcrInvTlbC6 .ne 3#4),
   (0x5E085F36, .mcrInvTlbEntryC6 .pl 5#4),
   (0xDE082F17, .mcrInvTlbC7 .le 2#4),
   (0xDE08FF37, .mcrInvTlbEntryC7 .le 15#4),
   (0xDE099F10, .mcrCacheBase0 .le 9#4),
   (0x7E098F11, .mcrCacheVictim0 .vc 8#4),
   (0x5E098F30, .mcrCacheBase1 .pl 8#4),
   (0x1E09EF31, .mcrCacheVictim1 .ne 14#4),
   (0x5E1A7F10, .mrcTlbLockdown .pl 7#4),
   (0x9E0A9F10, .mcrTlbLockdown .ls 9#4),
   (0xCE1D5F10, .mrcPid .gt 5#4),
   (0x9E0DDF10, .mcrPid .ls 13#4)] = true := by decide +kernel

theorem test_decode_mrcProcId_to_mrcC15M : decodes 32
  [(0x1E1D0F30, .mrcProcId .ne 0#4),
   (0x2E0DFF30, .mcrProcId .cs 15#4),
   (0x3EEF4FFF, .mcrTestState .cc 4#4),
   (0x2EFF3FFF, .mrcTestState .cs 3#4),
   (0x2E6F7F13, .mcrC15C .cs 7#4),
   (0x7E7FCF13, .mrcC15C .vc 12#4),
   (0xEE4F9F57, .mcrCacheCamRead .al 9#4),
   (0x7E4F7FD7, .mcrCacheCamWrite .vc 7#4),
   (0xCE4FEF5B, .mcrCacheRamRead .gt 14#4),
   (0x4E4F0FDB, .mcrCacheRamWrite .mi 0#4),
   (0xCE4FEFB7, .mcrCacheCamMatch .gt 14#4),
   (0x4E9F0F13, .mrcC15M .mi 0#4)] = true := by decide +kernel

theorem test_decode_mrcC15MAlt_to_mrcAbortStatus : decodes 32
  [(0x9E9FFFD3, .mrcC15MAlt .ls 15#4),
   (0x8E8FDF97, .mcrTlbCamRead .hi 13#4),
   (0xDE8F9F17, .mcrTlbCamWrite .le 9#4),
   (0x5E8FDF9B, .mcrTlbRam1Read .pl 13#4),
   (0x3E8FEF1B, .mcrTlbRam1Write .cc 14#4),
   (0xCE8F1FB3, .mcrTlbRam2Read .gt 1#4),
   (0xBE8FDF33, .mcrTlbRam2Write .lt 13#4),
   (0x5E8FEF9D, .mcrTlbCamMatch .pl 14#4),
   (0x7E70DEDA, .mrcDccControl .vc 3#3 13#4 6#3 10#4),
   (0x3E111EDF, .mrcDccData .cc 0#3 1#4 6#3 15#4),
   (0x6E010EBC, .mcrDccData .vs 0#3 0#4 5#3 12#4),
   (0xCED26E9F, .mrcAbortStatus .gt 6#3 6#4 4#3 15#4)] = true := by decide +kernel

theorem test_decode_mcrAbortStatus_to_mcrAbortStatus : decodes 32
  [(0x4EC2AE7C, .mcrAbortStatus .mi 6#3 10#4 3#3 12#4)] = true := by decide +kernel

theorem test_decode_tLslImm_to_tSubImm8 : decodes 16
  [(0x0610, .tLslImm 0x18#5 2#3 0#3),
   (0x0FF6, .tLsrImm 0x1F#5 6#3 6#3),
   (0x1315, .tAsrImm 0xC#5 2#3 5#3),
   (0x1912, .tAddReg 4#3 2#3 2#3),
   (0x1A6C, .tSubReg 1#3 5#3 4#3),
   (0x1D9D, .tAddImm3 6#3 3#3 5#3),
   (0x1EB7, .tSubImm3 2#3 6#3 7#3),
   (0x25CD, .tMovImm 5#3 0xCD#8),
   (0x2B57, .tCmpImm 3#3 0x57#8),
   (0x34C1, .tAddImm8 4#3 0xC1#8),
   (0x3D66, .tSubImm8 5#3 0x66#8)] = true := by decide +kernel

theorem test_decode_tAnd_to_tCmn : decodes 16
  [(0x4012, .tAnd 2#3 2#3),
   (0x4067, .tEor 4#3 7#3),
   (0x4099, .tLslReg 3#3 1#3),
   (0x40CA, .tLsrReg 1#3 2#3),
   (0x4129, .tAsrReg 5#3 1#3),
   (0x417C, .tAdc 7#3 4#3),
   (0x41AE, .tSbc 5#3 6#3),
   (0x41F7, .tRorReg 6#3 7#3),
   (0x4233, .tTst 6#3 3#3),
   (0x4240, .tNeg 0#3 0#3),
   (0x42BE, .tCmp 7#3 6#3),
   (0x42FC, .tCmn 7#3 4#3)] = true := by decide +kernel

theorem test_decode_tOrr_to_tLdrReg : decodes 16
  [(0x4304, .tOrr 0#3 4#3),
   (0x436F, .tMul 5#3 7#3),
   (0x4397, .tBic 2#3 7#3),
   (0x43DA, .tMvn 3#3 2#3),
   (0x44A1, .tAddHi true false 4#3 1#3),
   (0x4568, .tCmpHi false true 5#3 0#3),
   (0x46F9, .tMovHi true true 7#3 1#3),
   (0x4758, .tBx true 3#3),
   (0x4A4D, .tLdrPc 2#3 0x4D#8),
   (0x50B4, .tStrReg 2#3 6#3 4#3),
   (0x55E5, .tStrbReg 7#3 4#3 5#3),
   (0x5991, .tLdrReg 6#3 2#3 1#3)] = true := by decide +kernel

theorem test_decode_tLdrbReg_to_tStrSp : decodes 16
  [(0x5C49, .tLdrbReg 1#3 1#3 1#3),
   (0x5391, .tStrhReg 6#3 2#3 1#3),
   (0x5BA9, .tLdrhReg 6#3 5#3 1#3),
   (0x577F, .tLdrsbReg 5#3 7#3 7#3),
   (0x5F42, .tLdrshReg 5#3 0#3 2#3),
   (0x610C, .tStrImm 0x4#5 1#3 4#3),
   (0x685A, .tLdrImm 0x1#5 3#3 2#3),
   (0x726C, .tStrbImm 0x9#5 5#3 4#3),
   (0x7CA2, .tLdrbImm 0x12#5 4#3 2#3),
   (0x812D, .tStrhImm 0x4#5 5#3 5#3),
   (0x880B, .tLdrhImm 0x0#5 1#3 3#3),
   (0x965F, .tStrSp 6#3 0x5F#8)] = true := by decide +kernel

theorem test_decode_tLdrSp_to_tBcs : decodes 16
  [(0x9E0D, .tLdrSp 6#3 0xD#8),
   (0xA327, .tAddPc 3#3 0x27#8),
   (0xAF99, .tAddSp 7#3 0x99#8),
   (0xB050, .tAddSpImm 0x50#7),
   (0xB0EF, .tSubSpImm 0x6F#7),
   (0xB546, .tPush true 0x46#8),
   (0xBCF6, .tPop false 0xF6#8),
   (0xC2C3, .tStmia 2#3 0xC3#8),
   (0xCE47, .tLdmia 6#3 0x47#8),
   (0xD0D1, .tBeq 0xD1#8),
   (0xD1D2, .tBne 0xD2#8),
   (0xD237, .tBcs 0x37#8)] = true := by decide +kernel

theorem test_decode_tBcc_to_tUndefCond : decodes 16
  [(0xD360, .tBcc 0x60#8),
   (0xD453, .tBmi 0x53#8),
   (0xD5AD, .tBpl 0xAD#8),
   (0xD6E0, .tBvs 0xE0#8),
   (0xD7BF, .tBvc 0xBF#8),
   (0xD8A4, .tBhi 0xA4#8),
   (0xD933, .tBls 0x33#8),
   (0xDA68, .tBge 0x68#8),
   (0xDBB8, .tBlt 0xB8#8),
   (0xDC59, .tBgt 0x59#8),
   (0xDD9A, .tBle 0x9A#8),
   (0xDEFD, .tUndefCond 0xFD#8)] = true := by decide +kernel

theorem test_decode_tSwi_to_tBxH1 : decodes 16
  [(0xDF5B, .tSwi 0x5B#8),
   (0xE348, .tB 0x348#11),
   (0xEF33, .tUndef11101 0x733#11),
   (0xF2C9, .tBlHigh 0x2C9#11),
   (0xF908, .tBlLow 0x108#11),
   (0xB145, .tUndefB1 0x45#8),
   (0xB350, .tUndefB2 0x150#9),
   (0xB75B, .tUndefB6 0x15B#9),
   (0xB9CC, .tUndefB8 0x1CC#10),
   (0xBECA, .tUndefBC 0xCA#9),
   (0x479E, .tBxH1 0x1E#7)] = true := by decide +kernel

/-! Steps. -/

/-- V1. -/
theorem test_movs_keeps_carry :
    after 32 0xE1B00001 (start 0x20000013#32 0x8000#32 [(1#4, 0x80000001#32)]) [0#4] [] =
      some ([0x80000001#32], [], 0xA0000013#32, 0x8004#32) := by
  decide +kernel

/-- V2. -/
theorem test_movs_lsr_32 :
    after 32 0xE1B00021 (start 0x13#32 0x8000#32 [(1#4, 0x80000001#32)]) [0#4] [] =
      some ([0x0#32], [], 0x60000013#32, 0x8004#32) := by
  decide +kernel

/-- V3. -/
theorem test_movs_asr_32 :
    after 32 0xE1B00041 (start 0x13#32 0x8000#32 [(1#4, 0x80000001#32)]) [0#4] [] =
      some ([0xFFFFFFFF#32], [], 0xA0000013#32, 0x8004#32) := by
  decide +kernel

/-- V4. -/
theorem test_movs_rrx :
    after 32 0xE1B00061 (start 0x20000013#32 0x8000#32 [(1#4, 0x80000001#32)]) [0#4] [] =
      some ([0xC0000000#32], [], 0xA0000013#32, 0x8004#32) := by
  decide +kernel

/-- V8. -/
theorem test_movs_lsl_by_33 :
    after 32 0xE1B00211 (start 0x13#32 0x8000#32 [(1#4, 0x80000001#32), (2#4, 0x21#32)]) [0#4] [] =
      some ([0x0#32], [], 0x40000013#32, 0x8004#32) := by
  decide +kernel

/-- V10. -/
theorem test_movs_asr_by_40 :
    after 32 0xE1B00251 (start 0x13#32 0x8000#32 [(1#4, 0x80000001#32), (2#4, 0x28#32)]) [0#4] [] =
      some ([0xFFFFFFFF#32], [], 0xA0000013#32, 0x8004#32) := by
  decide +kernel

/-- V11. -/
theorem test_movs_ror_by_32 :
    after 32 0xE1B00271 (start 0x13#32 0x8000#32 [(1#4, 0x80000001#32), (2#4, 0x20#32)]) [0#4] [] =
      some ([0x80000001#32], [], 0xA0000013#32, 0x8004#32) := by
  decide +kernel

/-- V12. -/
theorem test_movs_ror_uses_low_byte :
    after 32 0xE1B00271 (start 0x13#32 0x8000#32 [(1#4, 0x80000001#32), (2#4, 0x104#32)]) [0#4] [] =
      some ([0x18000000#32], [], 0x13#32, 0x8004#32) := by
  decide +kernel

/-- V13. -/
theorem test_movs_rotated_immediate :
    after 32 0xE3B004FF (start 0x13#32 0x8000#32 []) [0#4] [] =
      some ([0xFF000000#32], [], 0xA0000013#32, 0x8004#32) := by
  decide +kernel

/-- V14. -/
theorem test_adds_overflows :
    after 32 0xE0910002 (start 0x13#32 0x8000#32 [(1#4, 0x7FFFFFFF#32), (2#4, 0x1#32)]) [0#4] [] =
      some ([0x80000000#32], [], 0x90000013#32, 0x8004#32) := by
  decide +kernel

/-- V15. -/
theorem test_adds_carries :
    after 32 0xE0910002 (start 0x13#32 0x8000#32 [(1#4, 0xFFFFFFFF#32), (2#4, 0x1#32)]) [0#4] [] =
      some ([0x0#32], [], 0x60000013#32, 0x8004#32) := by
  decide +kernel

/-- V16. -/
theorem test_subs_overflows :
    after 32 0xE0510002 (start 0x13#32 0x8000#32 [(1#4, 0x80000000#32), (2#4, 0x1#32)]) [0#4] [] =
      some ([0x7FFFFFFF#32], [], 0x30000013#32, 0x8004#32) := by
  decide +kernel

/-- V17. -/
theorem test_subs_borrows :
    after 32 0xE0510002 (start 0x13#32 0x8000#32 [(1#4, 0x0#32), (2#4, 0x1#32)]) [0#4] [] =
      some ([0xFFFFFFFF#32], [], 0x80000013#32, 0x8004#32) := by
  decide +kernel

/-- V18. -/
theorem test_sbcs :
    after 32 0xE0D10002 (start 0x13#32 0x8000#32 [(1#4, 0x5#32), (2#4, 0x5#32)]) [0#4] [] =
      some ([0xFFFFFFFF#32], [], 0x80000013#32, 0x8004#32) := by
  decide +kernel

/-- V19. -/
theorem test_rscs :
    after 32 0xE0F10002 (start 0x20000013#32 0x8000#32 [(1#4, 0x1#32), (2#4, 0x3#32)]) [0#4] [] =
      some ([0x2#32], [], 0x20000013#32, 0x8004#32) := by
  decide +kernel

/-- V20. -/
theorem test_cmp :
    after 32 0xE1500001 (start 0x13#32 0x8000#32 [(0#4, 0x80000000#32), (1#4, 0x7FFFFFFF#32)]) [0#4] [] =
      some ([0x80000000#32], [], 0x30000013#32, 0x8004#32) := by
  decide +kernel

/-- V21. -/
theorem test_cmn :
    after 32 0xE1700001 (start 0x13#32 0x8000#32 [(0#4, 0x80000000#32), (1#4, 0x80000000#32)]) [0#4] [] =
      some ([0x80000000#32], [], 0x70000013#32, 0x8004#32) := by
  decide +kernel

/-- V22. -/
theorem test_condition_fails :
    after 32 0x01A00001 (start 0x13#32 0x8000#32 [(0#4, 0x9#32), (1#4, 0x5#32)]) [0#4] [] =
      some ([0x9#32], [], 0x13#32, 0x8004#32) := by
  decide +kernel

/-- R310. -/
theorem test_and :
    after 32 0xE0010002 (start 0x13#32 0x8000#32 [(1#4, 0xF0F0F0F0#32), (2#4, 0xFF00FF0#32)]) [0#4] [] =
      some ([0xF000F0#32], [], 0x13#32, 0x8004#32) := by
  decide +kernel

/-- R311. -/
theorem test_eor :
    after 32 0xE22330FF (start 0x13#32 0x8000#32 [(3#4, 0xAA#32)]) [3#4] [] =
      some ([0x55#32], [], 0x13#32, 0x8004#32) := by
  decide +kernel

/-- R313. -/
theorem test_rsb :
    after 32 0xE2600000 (start 0x13#32 0x8000#32 [(0#4, 0x5#32)]) [0#4] [] =
      some ([0xFFFFFFFB#32], [], 0x13#32, 0x8004#32) := by
  decide +kernel

/-- R315. -/
theorem test_adcs :
    after 32 0xE0B11003 (start 0x20000013#32 0x8000#32 [(1#4, 0xFFFFFFFF#32), (3#4, 0x0#32)]) [1#4] [] =
      some ([0x0#32], [], 0x60000013#32, 0x8004#32) := by
  decide +kernel

/-- R318. -/
theorem test_tst_shifted :
    after 32 0xE1110082 (start 0x13#32 0x8000#32 [(1#4, 0xFFFFFFFF#32), (2#4, 0xC0000000#32)]) [1#4] [] =
      some ([0xFFFFFFFF#32], [], 0xA0000013#32, 0x8004#32) := by
  decide +kernel

/-- R319. -/
theorem test_teq :
    after 32 0xE3300000 (start 0x13#32 0x8000#32 [(0#4, 0x80000000#32)]) [0#4] [] =
      some ([0x80000000#32], [], 0x80000013#32, 0x8004#32) := by
  decide +kernel

/-- R322. -/
theorem test_orrs :
    after 32 0xE3900102 (start 0x13#32 0x8000#32 [(0#4, 0x0#32)]) [0#4] [] =
      some ([0x80000000#32], [], 0xA0000013#32, 0x8004#32) := by
  decide +kernel

/-- R324. -/
theorem test_bic :
    after 32 0xE3C0001F (start 0x13#32 0x8000#32 [(0#4, 0x600000D3#32)]) [0#4] [] =
      some ([0x600000C0#32], [], 0x13#32, 0x8004#32) := by
  decide +kernel

/-- R325. -/
theorem test_mvn :
    after 32 0xE3E00000 (start 0x13#32 0x8000#32 []) [0#4] [] =
      some ([0xFFFFFFFF#32], [], 0x13#32, 0x8004#32) := by
  decide +kernel

/-- V23. -/
theorem test_add_reads_pc :
    after 32 0xE08F0000 (start 0x13#32 0x8000#32 [(0#4, 0x10#32)]) [0#4] [] =
      some ([0x8018#32], [], 0x13#32, 0x8004#32) := by
  decide +kernel

/-- V24. -/
theorem test_add_reads_pc_late :
    after 32 0xE08F0110 (start 0x13#32 0x8000#32 [(0#4, 0x10#32), (1#4, 0x0#32)]) [0#4] [] =
      some ([0x801C#32], [], 0x13#32, 0x8004#32) := by
  decide +kernel

/-- V25. -/
theorem test_mov_to_pc :
    after 32 0xE1A0F000 (start 0x13#32 0x8000#32 [(0#4, 0x9003#32)]) [] [] =
      some ([], [], 0x13#32, 0x9000#32) := by
  decide +kernel

/-- V26. -/
theorem test_movs_returns_to_thumb :
    after 32 0xE1B0F00E ({ start 0x13#32 0x8000#32 [(14#4, 0x9001#32)] with spsrSvc := psrOfWord 0x60000030#32 }) [] [] =
      some ([], [], 0x60000030#32, 0x9000#32) := by
  decide +kernel

/-- V27. -/
theorem test_subs_returns_from_irq :
    after 32 0xE25EF004 ({ start 0x92#32 0x8000#32 [(14#4, 0x9004#32)] with spsrIrq := psrOfWord 0x80000010#32 }) [] [] =
      some ([], [], 0x80000010#32, 0x9000#32) := by
  decide +kernel

/-- V31. -/
theorem test_mla :
    after 32 0xE0203291 (start 0x13#32 0x8000#32 [(1#4, 0xFFFFFFFF#32), (2#4, 0xFFFFFFFF#32), (3#4, 0x1#32)]) [0#4] [] =
      some ([0x2#32], [], 0x13#32, 0x8004#32) := by
  decide +kernel

/-- V32. -/
theorem test_umull :
    after 32 0xE0810392 (start 0x13#32 0x8000#32 [(2#4, 0xFFFFFFFF#32), (3#4, 0xFFFFFFFF#32)]) [0#4, 1#4] [] =
      some ([0x1#32, 0xFFFFFFFE#32], [], 0x13#32, 0x8004#32) := by
  decide +kernel

/-- V34. -/
theorem test_smlal :
    after 32 0xE0E10392 (start 0x13#32 0x8000#32 [(0#4, 0x1#32), (1#4, 0x0#32), (2#4, 0x80000000#32), (3#4, 0x2#32)]) [0#4, 1#4] [] =
      some ([0x1#32, 0xFFFFFFFF#32], [], 0x13#32, 0x8004#32) := by
  decide +kernel

/-- R355. -/
theorem test_smull :
    after 32 0xE0C10392 (start 0x13#32 0x8000#32 [(2#4, 0xFFFFFFFF#32), (3#4, 0x2#32)]) [0#4, 1#4] [] =
      some ([0xFFFFFFFE#32, 0xFFFFFFFF#32], [], 0x13#32, 0x8004#32) := by
  decide +kernel

/-- R354. -/
theorem test_umlal :
    after 32 0xE0A10392 (start 0x13#32 0x8000#32 [(0#4, 0xFFFFFFFF#32), (1#4, 0x0#32), (2#4, 0x1#32), (3#4, 0x1#32)]) [0#4, 1#4] [] =
      some ([0x0#32, 0x1#32], [], 0x13#32, 0x8004#32) := by
  decide +kernel

/-- R351. -/
theorem test_mul :
    after 32 0xE0000291 (start 0x13#32 0x8000#32 [(1#4, 0x10001#32), (2#4, 0x10000#32)]) [0#4] [] =
      some ([0x10000#32], [], 0x13#32, 0x8004#32) := by
  decide +kernel

/-- V40. -/
theorem test_mrs :
    after 32 0xE10F0000 (start 0x600000D3#32 0x8000#32 []) [0#4] [] =
      some ([0x600000D3#32], [], 0x600000D3#32, 0x8004#32) := by
  decide +kernel

/-- V41. -/
theorem test_msr_in_user_mode :
    after 32 0xE129F000 (start 0x10#32 0x8000#32 [(0#4, 0xF00000FF#32)]) [] [] =
      some ([], [], 0xF0000010#32, 0x8004#32) := by
  decide +kernel

/-- V42. -/
theorem test_msr_changes_mode :
    after 32 0xE129F000 (start 0xD3#32 0x8000#32 [(0#4, 0xF000001F#32)]) [] [] =
      some ([], [], 0xF000001F#32, 0x8004#32) := by
  decide +kernel

/-- V43. -/
theorem test_branch_to_itself :
    after 32 0xEAFFFFFE (start 0x13#32 0x8000#32 []) [] [] =
      some ([], [], 0x13#32, 0x8000#32) := by
  decide +kernel

/-- V44. -/
theorem test_bl :
    after 32 0xEB000010 (start 0x13#32 0x8000#32 []) [14#4] [] =
      some ([0x8004#32], [], 0x13#32, 0x8048#32) := by
  decide +kernel

/-- V45. -/
theorem test_bne_not_taken :
    after 32 0x1AFFFFF0 (start 0x40000013#32 0x8000#32 []) [] [] =
      some ([], [], 0x40000013#32, 0x8004#32) := by
  decide +kernel

/-- V46. -/
theorem test_bx_to_thumb :
    after 32 0xE12FFF10 (start 0x13#32 0x8000#32 [(0#4, 0x9001#32)]) [] [] =
      some ([], [], 0x33#32, 0x9000#32) := by
  decide +kernel

/-- V47. -/
theorem test_bx_stays_in_arm :
    after 32 0xE12FFF10 (start 0x13#32 0x8000#32 [(0#4, 0x9002#32)]) [] [] =
      some ([], [], 0x13#32, 0x9000#32) := by
  decide +kernel

/-- V50. -/
theorem test_ldr :
    after 32 0xE5910000 (withData (start 0x13#32 0x8000#32 [(1#4, 0x9000#32)])) [0#4] [] =
      some ([0x44332211#32], [], 0x13#32, 0x8004#32) := by
  decide +kernel

/-- V52. -/
theorem test_ldr_rotates :
    after 32 0xE5910003 (withData (start 0x13#32 0x8000#32 [(1#4, 0x9000#32)])) [0#4] [] =
      some ([0x33221144#32], [], 0x13#32, 0x8004#32) := by
  decide +kernel

/-- V54. -/
theorem test_ldrb :
    after 32 0xE5D10006 (withData (start 0x13#32 0x8000#32 [(1#4, 0x9000#32)])) [0#4] [] =
      some ([0x77#32], [], 0x13#32, 0x8004#32) := by
  decide +kernel

/-- V55. -/
theorem test_ldr_pre_indexed :
    after 32 0xE5B10004 (withData (start 0x13#32 0x8000#32 [(1#4, 0x9000#32)])) [0#4, 1#4] [] =
      some ([0x88776655#32, 0x9004#32], [], 0x13#32, 0x8004#32) := by
  decide +kernel

/-- V56. -/
theorem test_ldr_post_indexed :
    after 32 0xE4910004 (withData (start 0x13#32 0x8000#32 [(1#4, 0x9000#32)])) [0#4, 1#4] [] =
      some ([0x44332211#32, 0x9004#32], [], 0x13#32, 0x8004#32) := by
  decide +kernel

/-- V57. -/
theorem test_ldr_register_offset :
    after 32 0xE7110102 (withData (start 0x13#32 0x8000#32 [(1#4, 0x9008#32), (2#4, 0x2#32)])) [0#4, 1#4] [] =
      some ([0x44332211#32, 0x9008#32], [], 0x13#32, 0x8004#32) := by
  decide +kernel

/-- V58. -/
theorem test_ldrh :
    after 32 0xE1D100B6 (withData (start 0x13#32 0x8000#32 [(1#4, 0x9000#32)])) [0#4] [] =
      some ([0x8877#32], [], 0x13#32, 0x8004#32) := by
  decide +kernel

/-- V59. -/
theorem test_ldrsb :
    after 32 0xE1D100D7 (withData (start 0x13#32 0x8000#32 [(1#4, 0x9000#32)])) [0#4] [] =
      some ([0xFFFFFF88#32], [], 0x13#32, 0x8004#32) := by
  decide +kernel

/-- V60. -/
theorem test_ldrsh :
    after 32 0xE1D100FA (withData (start 0x13#32 0x8000#32 [(1#4, 0x9000#32)])) [0#4] [] =
      some ([0xFFFFCCBB#32], [], 0x13#32, 0x8004#32) := by
  decide +kernel

/-- V61. -/
theorem test_str_ignores_low_bits :
    after 32 0xE5810001 (withData (start 0x13#32 0x8000#32 [(1#4, 0x9000#32), (0#4, 0xDEADBEEF#32)])) [] [0x9000#32] =
      some ([], [0xDEADBEEF#32], 0x13#32, 0x8004#32) := by
  decide +kernel

/-- V62. -/
theorem test_strb :
    after 32 0xE5C10001 (withData (start 0x13#32 0x8000#32 [(1#4, 0x9000#32), (0#4, 0xDEADBEEF#32)])) [] [0x9000#32] =
      some ([], [0x4433EF11#32], 0x13#32, 0x8004#32) := by
  decide +kernel

/-- V63. -/
theorem test_strh :
    after 32 0xE1C100B2 (withData (start 0x13#32 0x8000#32 [(1#4, 0x9000#32), (0#4, 0xDEADBEEF#32)])) [] [0x9000#32] =
      some ([], [0xBEEF2211#32], 0x13#32, 0x8004#32) := by
  decide +kernel

/-- V64. -/
theorem test_str_pc :
    after 32 0xE581F000 (withData (start 0x13#32 0x8000#32 [(1#4, 0x9000#32)])) [] [0x9000#32] =
      some ([], [0x800C#32], 0x13#32, 0x8004#32) := by
  decide +kernel

/-- V66. -/
theorem test_swp :
    after 32 0xE1010092 (withData (start 0x13#32 0x8000#32 [(1#4, 0x9001#32), (2#4, 0x1020304#32)])) [0#4] [0x9000#32] =
      some ([0x11443322#32], [0x1020304#32], 0x13#32, 0x8004#32) := by
  decide +kernel

/-- V67. -/
theorem test_swpb :
    after 32 0xE1410092 (withData (start 0x13#32 0x8000#32 [(1#4, 0x9001#32), (2#4, 0x1020304#32)])) [0#4] [0x9000#32] =
      some ([0x22#32], [0x44330411#32], 0x13#32, 0x8004#32) := by
  decide +kernel

/-- V70. -/
theorem test_stmfd :
    after 32 0xE92D0007 (withData (start 0x13#32 0x8000#32 [(1#4, 0xA1#32), (0#4, 0xA0#32), (2#4, 0xA2#32), (13#4, 0x9010#32)])) [13#4] [0x9004#32, 0x9008#32, 0x900C#32] =
      some ([0x9004#32], [0xA0#32, 0xA1#32, 0xA2#32], 0x13#32, 0x8004#32) := by
  decide +kernel

/-- V72. -/
theorem test_stmib :
    after 32 0xE9AD0007 (withData (start 0x13#32 0x8000#32 [(1#4, 0xA1#32), (0#4, 0xA0#32), (2#4, 0xA2#32), (13#4, 0x9010#32)])) [13#4] [0x9014#32, 0x9018#32, 0x901C#32] =
      some ([0x901C#32], [0xA0#32, 0xA1#32, 0xA2#32], 0x13#32, 0x8004#32) := by
  decide +kernel

/-- V74. -/
theorem test_ldmfd :
    after 32 0xE8BD0007 (withData (start 0x13#32 0x8000#32 [(1#4, 0x9000#32), (13#4, 0x9000#32)])) [0#4, 1#4, 2#4, 13#4] [] =
      some ([0x44332211#32, 0x88776655#32, 0xCCBBAA99#32, 0x900C#32], [], 0x13#32, 0x8004#32) := by
  decide +kernel

/-- V75. -/
theorem test_ldmdb :
    after 32 0xE93D0007 (withData (start 0x13#32 0x8000#32 [(1#4, 0x9000#32), (13#4, 0x900C#32)])) [0#4, 1#4, 2#4, 13#4] [] =
      some ([0x44332211#32, 0x88776655#32, 0xCCBBAA99#32, 0x9000#32], [], 0x13#32, 0x8004#32) := by
  decide +kernel

/-- V76. -/
theorem test_stm_stores_written_back_base :
    after 32 0xE8A10003 (withData (start 0x13#32 0x8000#32 [(1#4, 0x9010#32), (0#4, 0xA0#32)])) [1#4] [0x9010#32, 0x9014#32] =
      some ([0x9018#32], [0xA0#32, 0x9018#32], 0x13#32, 0x8004#32) := by
  decide +kernel

/-- V78. -/
theorem test_ldm_loaded_base_wins :
    after 32 0xE8B10003 (withData (start 0x13#32 0x8000#32 [(1#4, 0x9000#32)])) [0#4, 1#4] [] =
      some ([0x44332211#32, 0x88776655#32], [], 0x13#32, 0x8004#32) := by
  decide +kernel

/-- V120. -/
theorem test_t_lsr_32 :
    after 16 0x0808 (start 0x33#32 0x8000#32 [(1#4, 0x80000001#32)]) [0#4] [] =
      some ([0x0#32], [], 0x60000033#32, 0x8002#32) := by
  decide +kernel

/-- V121. -/
theorem test_t_asr_32 :
    after 16 0x1008 (start 0x33#32 0x8000#32 [(1#4, 0x80000001#32)]) [0#4] [] =
      some ([0xFFFFFFFF#32], [], 0xA0000033#32, 0x8002#32) := by
  decide +kernel

/-- V122. -/
theorem test_t_lsl :
    after 16 0x0048 (start 0x33#32 0x8000#32 [(1#4, 0x80000001#32)]) [0#4] [] =
      some ([0x2#32], [], 0x20000033#32, 0x8002#32) := by
  decide +kernel

/-- V123. -/
theorem test_t_add :
    after 16 0x1888 (start 0x33#32 0x8000#32 [(1#4, 0x7FFFFFFF#32), (2#4, 0x1#32)]) [0#4] [] =
      some ([0x80000000#32], [], 0x90000033#32, 0x8002#32) := by
  decide +kernel

/-- V124. -/
theorem test_t_sub_imm3 :
    after 16 0x1FC8 (start 0x33#32 0x8000#32 [(1#4, 0x3#32)]) [0#4] [] =
      some ([0xFFFFFFFC#32], [], 0x80000033#32, 0x8002#32) := by
  decide +kernel

/-- V125. -/
theorem test_t_cmp_imm :
    after 16 0x28FF (start 0x33#32 0x8000#32 [(0#4, 0xFF#32)]) [0#4] [] =
      some ([0xFF#32], [], 0x60000033#32, 0x8002#32) := by
  decide +kernel

/-- V126. -/
theorem test_t_neg :
    after 16 0x4248 (start 0x33#32 0x8000#32 [(1#4, 0x80000000#32)]) [0#4] [] =
      some ([0x80000000#32], [], 0x90000033#32, 0x8002#32) := by
  decide +kernel

/-- V127. -/
theorem test_t_adc :
    after 16 0x4148 (start 0x20000033#32 0x8000#32 [(0#4, 0xFFFFFFFF#32), (1#4, 0x0#32)]) [0#4] [] =
      some ([0x0#32], [], 0x60000033#32, 0x8002#32) := by
  decide +kernel

/-- V128. -/
theorem test_t_ror :
    after 16 0x41C8 (start 0x33#32 0x8000#32 [(0#4, 0xF000000F#32), (1#4, 0x4#32)]) [0#4] [] =
      some ([0xFF000000#32], [], 0xA0000033#32, 0x8002#32) := by
  decide +kernel

/-- V130. -/
theorem test_t_add_hi :
    after 16 0x4440 (start 0x33#32 0x8000#32 [(0#4, 0x1#32), (8#4, 0x100#32)]) [0#4] [] =
      some ([0x101#32], [], 0x33#32, 0x8002#32) := by
  decide +kernel

/-- V131. -/
theorem test_t_mov_hi :
    after 16 0x4645 (start 0x33#32 0x8000#32 [(8#4, 0x77#32)]) [5#4] [] =
      some ([0x77#32], [], 0x33#32, 0x8002#32) := by
  decide +kernel

/-- V132. -/
theorem test_t_mov_pc :
    after 16 0x4678 (start 0x33#32 0x8000#32 []) [0#4] [] =
      some ([0x8004#32], [], 0x33#32, 0x8002#32) := by
  decide +kernel

/-- V133. -/
theorem test_t_cmp_hi :
    after 16 0x4540 (start 0x33#32 0x8000#32 [(0#4, 0x5#32), (8#4, 0x5#32)]) [0#4] [] =
      some ([0x5#32], [], 0x60000033#32, 0x8002#32) := by
  decide +kernel

/-- V134. -/
theorem test_t_add_pc :
    after 16 0xA001 (start 0x33#32 0x8002#32 []) [0#4] [] =
      some ([0x8008#32], [], 0x33#32, 0x8004#32) := by
  decide +kernel

/-- V135. -/
theorem test_t_sub_sp :
    after 16 0xB082 (start 0x33#32 0x8000#32 [(13#4, 0x9000#32)]) [13#4] [] =
      some ([0x8FF8#32], [], 0x33#32, 0x8002#32) := by
  decide +kernel

/-- V141. -/
theorem test_t_ldr :
    after 16 0x5888 (withData (start 0x33#32 0x8000#32 [(1#4, 0x9000#32), (2#4, 0x4#32)])) [0#4] [] =
      some ([0x88776655#32], [], 0x33#32, 0x8002#32) := by
  decide +kernel

/-- V142. -/
theorem test_t_ldrsb :
    after 16 0x5688 (withData (start 0x33#32 0x8000#32 [(1#4, 0x9000#32), (2#4, 0x7#32)])) [0#4] [] =
      some ([0xFFFFFF88#32], [], 0x33#32, 0x8002#32) := by
  decide +kernel

/-- V143. -/
theorem test_t_ldrb_imm :
    after 16 0x7988 (withData (start 0x33#32 0x8000#32 [(1#4, 0x9000#32)])) [0#4] [] =
      some ([0x77#32], [], 0x33#32, 0x8002#32) := by
  decide +kernel

/-- V144. -/
theorem test_t_ldrh_imm :
    after 16 0x8888 (withData (start 0x33#32 0x8000#32 [(1#4, 0x9000#32)])) [0#4] [] =
      some ([0x6655#32], [], 0x33#32, 0x8002#32) := by
  decide +kernel

/-- V145. -/
theorem test_t_ldr_sp :
    after 16 0x9801 (withData (start 0x33#32 0x8000#32 [(13#4, 0x9000#32)])) [0#4] [] =
      some ([0x88776655#32], [], 0x33#32, 0x8002#32) := by
  decide +kernel

/-- V146. -/
theorem test_t_push :
    after 16 0xB503 (withData (start 0x33#32 0x8000#32 [(13#4, 0x9010#32), (0#4, 0xA0#32), (1#4, 0xA1#32), (14#4, 0x8055#32)])) [13#4] [0x9004#32, 0x9008#32, 0x900C#32] =
      some ([0x9004#32], [0xA0#32, 0xA1#32, 0x8055#32], 0x33#32, 0x8002#32) := by
  decide +kernel

/-- V147. -/
theorem test_t_pop_pc :
    after 16 0xBD03 (withData (start 0x33#32 0x8000#32 [(13#4, 0x9000#32)])) [0#4, 1#4, 13#4] [] =
      some ([0x44332211#32, 0x88776655#32, 0x900C#32], [], 0x33#32, 0xCCBBAA98#32) := by
  decide +kernel

/-- V149. -/
theorem test_t_ldmia :
    after 16 0xC906 (withData (start 0x33#32 0x8000#32 [(1#4, 0x9000#32)])) [1#4, 2#4] [] =
      some ([0x44332211#32, 0x88776655#32], [], 0x33#32, 0x8002#32) := by
  decide +kernel

/-- V151. -/
theorem test_t_bne_not_taken :
    after 16 0xD1FE (start 0x40000033#32 0x8000#32 []) [] [] =
      some ([], [], 0x40000033#32, 0x8002#32) := by
  decide +kernel

/-- V153. -/
theorem test_t_b :
    after 16 0xE3FF (start 0x33#32 0x8000#32 []) [] [] =
      some ([], [], 0x33#32, 0x8802#32) := by
  decide +kernel

/-- V155. -/
theorem test_t_bl_high :
    after 16 0xF7FF (start 0x33#32 0x8000#32 []) [14#4] [] =
      some ([0x7004#32], [], 0x33#32, 0x8002#32) := by
  decide +kernel

/-- V156. -/
theorem test_t_bl_low :
    after 16 0xF800 (start 0x33#32 0x8002#32 [(14#4, 0x8004#32)]) [14#4] [] =
      some ([0x8005#32], [], 0x33#32, 0x8004#32) := by
  decide +kernel

/-- V158. -/
theorem test_t_bx_pc :
    after 16 0x4778 (start 0x33#32 0x8002#32 []) [] [] =
      some ([], [], 0x13#32, 0x8004#32) := by
  decide +kernel

/-- V85, R670. -/
theorem test_swi :
    after 32 0xEF123456 (start 0x60000010#32 0x8000#32 []) [14#4] [] =
      some ([0x8004#32], [], 0x60000093#32, 0x8#32) := by
  decide +kernel

/-- V86. -/
theorem test_undefined :
    after 32 0xE7F000F0 (start 0x10#32 0x8000#32 []) [14#4] [] =
      some ([0x8004#32], [], 0x9B#32, 0x4#32) := by
  decide +kernel

/-- V87. -/
theorem test_cp15_in_user_mode :
    after 32 0xEE111F10 (start 0x10#32 0x8000#32 []) [14#4] [] =
      some ([0x8004#32], [], 0x9B#32, 0x4#32) := by
  decide +kernel

/-- V88. -/
theorem test_cdp_absent :
    after 32 0xEE000100 (start 0x13#32 0x8000#32 []) [14#4] [] =
      some ([0x8004#32], [], 0x9B#32, 0x4#32) := by
  decide +kernel

/-- V89. -/
theorem test_t_swi :
    after 16 0xDF05 (start 0x30#32 0x8000#32 []) [14#4] [] =
      some ([0x8002#32], [], 0x93#32, 0x8#32) := by
  decide +kernel

/-- R673. -/
theorem test_t_undefined :
    after 16 0xDE00 (start 0x30#32 0x8010#32 []) [14#4] [] =
      some ([0x8012#32], [], 0x9B#32, 0x4#32) := by
  decide +kernel

/-- V90. -/
theorem test_mrc_id :
    after 32 0xEE100F10 (start 0x13#32 0x8000#32 []) [0#4] [] =
      some ([0x41807204#32], [], 0x13#32, 0x8004#32) := by
  decide +kernel

/-- V100. -/
theorem test_mrc_dcc_control :
    after 32 0xEE100E10 (start 0x13#32 0x8000#32 []) [0#4] [] =
      some ([0x70000000#32], [], 0x13#32, 0x8004#32) := by
  decide +kernel

/-- V53: an alignment fault leaves r0, saves the address + 8 and the CPSR, and puts the address in FAR. -/
theorem test_data_abort :
    (match step (State.withFetchWord
        { start 0x13#32 0x8000#32 [(1#4, 0x9000#32)] with cp15 := { State.reset.cp15 with a := true } } 32 0xE5910001) with
      | .next t => some (t.pc, t.gpr[physIndex modeAbt 14#4], t.cp15.far, t.gpr[(0 : Fin 30)], psrToWord t.spsrAbt)
      | .fault _ => none
      | .refused _ => none) = some (0x10#32, 0x8008#32, 0x9001#32, 0#32, 0x13#32) := by
  decide +kernel

/-- R671: an IRQ in Thumb state, before the instruction at 0x8004. -/
theorem test_irq_in_thumb_state :
    (match step { start 0x30#32 0x8004#32 [] with pins := { State.reset.pins with irq := true } } with
      | .next t => some (t.pc, t.gpr[physIndex modeIrq 14#4], psrToWord t.spsrIrq, psrToWord t.cpsr)
      | .fault _ => none
      | .refused _ => none) = some (0x18#32, 0x8008#32, 0x30#32, 0x92#32) := by
  decide +kernel

/-- V113, V116: FIQ before IRQ, at the high vector. -/
theorem test_fiq_first :
    (match step { start 0x10#32 0x8004#32 [] with
        pins := { State.reset.pins with irq := true, fiq := true }, cp15 := { State.reset.cp15 with v := true } } with
      | .next t => some (t.pc, t.gpr[physIndex modeFiq 14#4], psrToWord t.spsrFiq, psrToWord t.cpsr)
      | .fault _ => none
      | .refused _ => none) = some (0xFFFF001C#32, 0x8008#32, 0x10#32, 0xD1#32) := by
  decide +kernel

/-- V68: the big-endian forms of V50 and V58. -/
theorem test_big_endian_loads :
    after 32 0xE5910000
        (withData { start 0x13#32 0x8000#32 [(1#4, 0x9000#32)] with cp15 := { State.reset.cp15 with b := true } }) [0#4] [] =
      some ([0x11223344#32], [], 0x13#32, 0x8004#32) ∧
    after 32 0xE1D100B6
        (withData { start 0x13#32 0x8000#32 [(1#4, 0x9000#32)] with cp15 := { State.reset.cp15 with b := true } }) [0#4] [] =
      some ([0x7788#32], [], 0x13#32, 0x8004#32) := by
  constructor <;> decide +kernel

/-- V79: STM of the User registers in FIQ mode. -/
theorem test_stm_user :
    after 32 0xE8CD6000
        { start 0xD1#32 0x8000#32 [(13#4, 0x9000#32), (14#4, 0xF14#32)] with
          gpr := ((start 0xD1#32 0x8000#32 [(13#4, 0x9000#32), (14#4, 0xF14#32)]).gpr.set (physIndex modeUsr 13#4)
            0x1111#32).set (physIndex modeUsr 14#4) 0x2222#32 } [13#4] [0x9000#32, 0x9004#32] =
      some ([0x9000#32], [0x1111#32, 0x2222#32], 0xD1#32, 0x8004#32) := by
  decide +kernel

/-- V80: LDM of the User registers in FIQ mode. -/
theorem test_ldm_user :
    (match step (State.withFetchWord (withData (start 0xD1#32 0x8000#32 [(13#4, 0x9000#32), (14#4, 5#32)])) 32 0xE8DD6000) with
      | .next t =>
        some (t.gpr[physIndex modeUsr 13#4], t.gpr[physIndex modeUsr 14#4], t.gpr[physIndex modeFiq 13#4],
          t.gpr[physIndex modeFiq 14#4])
      | .fault _ => none
      | .refused _ => none) = some (0x44332211#32, 0x88776655#32, 0x9000#32, 5#32) := by
  decide +kernel

/-- V81: LDM that restores the CPSR. -/
theorem test_ldm_restore :
    (match step (State.withFetchWord
        { putWord (putWord (start 0xD2#32 0x8000#32 [(13#4, 0x9000#32)]) 0x9000#32 0x12#32) 0x9004#32 0x8123#32 with
          spsrIrq := psrOfWord 0x20000010#32 } 32 0xE8FD8001) with
      | .next t => some (t.gpr[(0 : Fin 30)], t.pc, psrToWord t.cpsr, t.gpr[physIndex modeIrq 13#4])
      | .fault _ => none
      | .refused _ => none) = some (0x12#32, 0x8120#32, 0x20000010#32, 0x9008#32) := by
  decide +kernel

/-- V92, V93, V96: control, translation table base and PID writes. -/
theorem test_cp15_writes :
    (match step (State.withFetchWord (start 0x13#32 0x8000#32 [(0#4, 0x12345678#32)]) 32 0xEE020F10) with
      | .next t => some (t.cp15.ttb ++ 0#14)
      | .fault _ => none
      | .refused _ => none) = some 0x12344000#32 ∧
    (match step (State.withFetchWord (start 0x13#32 0x8000#32 [(0#4, 0x06000000#32)]) 32 0xEE0D0F10) with
      | .next t => some t.cp15.pid
      | .fault _ => none
      | .refused _ => none) = some 3#7 ∧
    (match step (State.withFetchWord (start 0x13#32 0x8000#32 [(0#4, 0x0000238F#32)]) 32 0xEE010F10) with
      | .next t => some (controlWord t.cp15)
      | .fault _ => none
      | .refused _ => none) = some 0x23FF#32 := by
  refine ⟨?_, ?_, ?_⟩ <;> decide +kernel

/-- V101, V102: the DCC data registers. -/
theorem test_dcc :
    (match step (State.withFetchWord (start 0x13#32 0x8000#32 [(0#4, 0xCAFE0001#32)]) 32 0xEE010E10) with
      | .next t => some (t.dcc.writeData, t.dcc.w)
      | .fault _ => none
      | .refused _ => none) = some (0xCAFE0001#32, true) ∧
    (match step (State.withFetchWord
        { start 0x13#32 0x8000#32 [] with dcc := { State.reset.dcc with readData := 0xBEEF#32, r := true } } 32
        0xEE110E10) with
      | .next t => some (t.gpr[(0 : Fin 30)], t.dcc.r)
      | .fault _ => none
      | .refused _ => none) = some (0xBEEF#32, false) := by
  constructor <;> decide +kernel

/-- V163: a section. -/
theorem test_section :
    (match (translate (putWord { start 0x13#32 0x8000#32 [] with
        cp15 := { State.reset.cp15 with m := true, dacr := 0xC#32 } } 0x4#32 0x00200C32#32) 0x001ABCDE#32 true false).1 with
      | .mapped m => some (m.pa, m.c, m.b)
      | .fault _ _ => none
      | .tinyInCoarse => none) = some (0x002ABCDE#32, false, false) := by
  decide +kernel

/-- R672: the domain fault of a section, FS b1001. -/
theorem test_domain_fault :
    (match (translate (putWord { start 0x13#32 0x8000#32 [] with
        cp15 := { State.reset.cp15 with m := true } } 0x4#32 0x00100C72#32) 0x00100004#32 true false).1 with
      | .mapped _ => none
      | .fault fs d => some (fs, d)
      | .tinyInCoarse => none) = some (0b1001#4, 3#4) := by
  decide +kernel

/-- V164: a small page through a coarse table. -/
theorem test_small_page :
    (match (translate (putWord (putWord { start 0x13#32 0x8000#32 [] with
        cp15 := { State.reset.cp15 with m := true, dacr := 0x4#32 } } 0x4#32 0x00300031#32) 0x00300114#32 0x00ABC55E#32)
        0x00145678#32 true false).1 with
      | .mapped m => some (m.pa, m.c, m.b)
      | .fault _ _ => none
      | .tinyInCoarse => none) = some (0x00ABC678#32, true, true) := by
  decide +kernel

/-! Ill-formed terms, one for each check. -/

theorem test_wellFormed_refuses_data_processing :
    ([.andRegShift .al false 0#4 1#4 15#4 .lsl 2#4, .movRegShift .al false 15#4 1#4 .lsl 2#4,
      .tstRegShift .al 0#4 15#4 .lsl 2#4] : List Instr).all (fun i => !i.wellFormed) = true := by
  decide

theorem test_wellFormed_refuses_multiplies :
    ([.mul .al false 15#4 1#4 2#4, .mul .al false 3#4 15#4 2#4, .mul .al false 3#4 1#4 15#4, .mul .al false 3#4 1#4 3#4,
      .mla .al false 3#4 15#4 1#4 2#4, .umull .al false 15#4 1#4 2#4 3#4, .umlal .al false 1#4 15#4 2#4 3#4,
      .smull .al false 1#4 2#4 15#4 3#4, .smlal .al false 1#4 2#4 3#4 15#4, .umull .al false 1#4 1#4 2#4 3#4,
      .umull .al false 1#4 2#4 3#4 1#4, .umull .al false 1#4 2#4 3#4 2#4, .mrs .al false 15#4] : List Instr).all
        (fun i => !i.wellFormed) = true := by
  decide

theorem test_wellFormed_refuses_transfers :
    ([.ldrImmPre .al true true 15#4 1#4 0#12, .ldrImmPost .al true 1#4 1#4 0#12, .ldrtImm .al true 1#4 15#4 0#12,
      .ldrbImmPre .al true false 1#4 15#4 0#12, .strRegPre .al true false 1#4 2#4 0#5 .lsl 15#4,
      .strbtReg .al true 1#4 15#4 0#5 .lsl 3#4, .ldrhImm .al false true true 1#4 2#4 0#4 0#4,
      .ldrhReg .al true true false 1#4 2#4 15#4, .strhImm .al true true false 1#4 15#4 0#4 0#4,
      .ldrsbImm .al false true false 15#4 1#4 0#4 0#4, .ldrshReg .al true true true 1#4 1#4 2#4] : List Instr).all
        (fun i => !i.wellFormed) = true := by
  decide

theorem test_wellFormed_refuses_blocks_and_swaps :
    ([.ldm .al true true true 15#4 1#16, .ldm .al true true true 0#4 0#16, .stm .al true true true 0#4 0#16,
      .ldmUser .al true true true 0#4 2#15, .ldmRestore .al true true false 15#4 2#15, .stmUser .al true true true 0#4 2#16,
      .swp .al 15#4 1#4 2#4, .swp .al 1#4 15#4 2#4, .swp .al 1#4 2#4 15#4, .swp .al 1#4 1#4 2#4, .swpb .al 1#4 2#4 1#4] :
        List Instr).all (fun i => !i.wellFormed) = true := by
  decide

theorem test_wellFormed_refuses_coprocessor_and_thumb :
    ([.mcr .al 0#3 1#4 0#4 15#4 0#3 0#4, .mrc .al 0#3 0#4 0#4 14#4 0#3 0#4, .ldc .al false true false false 15#4 0#4 4#4 0#8,
      .stc .al true true false true 15#4 0#4 4#4 0#8, .tAddHi false false 0#3 0#3, .tPush false 0#8, .tPop false 0#8,
      .tStmia 0#3 0#8, .tLdmia 0#3 0#8, .tBxH1 0#7] : List Instr).all (fun i => !i.wellFormed) = true := by
  decide

/-! Witnesses: states and operands that meet the hypotheses of each statement. -/

/-- Supervisor mode in ARM state, r1 at Data. -/
def svc : State := withData (start 0x13#32 0x8000#32 [(1#4, 0x9000#32), (2#4, 4#32)])

/-- User mode in ARM state, r1 at Data. -/
def usr : State := withData (start 0x10#32 0x8000#32 [(1#4, 0x9000#32), (2#4, 4#32)])

/-- Supervisor mode in Thumb state, r1 at Data. -/
def thumb : State := withData (start 0x33#32 0x8000#32 [(1#4, 0x9000#32), (2#4, 4#32), (13#4, 0x9000#32)])

theorem svc_quiet : Quiet svc := ⟨rfl, rfl, rfl, rfl, rfl, rfl, rfl⟩

theorem svc_direct : Direct svc := ⟨rfl, rfl, rfl, rfl⟩

theorem thumb_quiet : Quiet thumb := ⟨rfl, rfl, rfl, rfl, rfl, rfl, rfl⟩

/-- Without a memory map every address is RAM; with control bit A clear alignment is not checked. -/
theorem ready_of_plain (s : State) (a : Word) (size : Size) (hr : s.params.memMap = []) (ha : s.cp15.a = false)
    (h : size = .half → a.getLsbD 0 = false) : Ready s a size := by
  refine ⟨by simp [State.misaligned, ha], fun hs => ?_, by simp [State.regionOf, hr]⟩
  have h0 := h hs
  unfold State.relocate
  split
  · rw [BitVec.getLsbD_append]
    simpa [BitVec.getLsbD_extractLsb'] using h0
  · exact h0

theorem svc_blockReady (a : Word) (n : Nat) : BlockReady svc a n :=
  fun _ _ => ready_of_plain _ _ _ rfl rfl (by simp)

theorem thumb_blockReady (a : Word) (n : Nat) : BlockReady thumb a n :=
  fun _ _ => ready_of_plain _ _ _ rfl rfl (by simp)

theorem witness_DecodeInvertsEncode : Instr.wellFormed (.ldrImmPost .al true 1#4 0#4 0xFFF#12) = true ∧
    Instr.wellFormed (.tBlLow 0x7FF#11) = true := by
  decide

/-- MOV r0, #1 at the PC. -/
def moveOne : State := svc.withFetchWord 32 0xE3A00001

/-- MOV r0, #1 in the first slot. -/
theorem witness_StepRunsTheDecodedInstruction :
    CoreRuns moveOne ∧
      (prefetched moveOne).queue = ⟨0x8000#32, 0xE3A00001#32, 0xE3A00001#32, .ok, false, true⟩ ::
        [⟨0x8004#32, 0#32, 0#32, .ok, false, true⟩, ⟨0x8008#32, 0#32, 0#32, .ok, false, true⟩] ∧
      (prefetched moveOne).requestDue = false ∧ (prefetched moveOne).pendingInterrupt = none ∧
      (prefetched moveOne).decodeBits 0xE3A00001#32 = .ok (.movImm .al false 0#4 0#4 1#8) ∧
      (match exec (.movImm .al false 0#4 0#4 1#8) (prefetched moveOne) with
        | .next t => some t.dbg.watchHit
        | .fault _ => none
        | .refused _ => none) = some false :=
  ⟨⟨rfl, rfl, rfl, rfl⟩, by decide +kernel, by decide +kernel, by decide +kernel, rfl, by decide +kernel⟩

theorem witness_FetchTakesTheBytesAtThePc :
    (Quiet svc ∧ svc.queue = [] ∧ svc.regionOf (svc.relocate (wordAlign svc.pc)) = .ram ∧ svc.cpsr.t = false) ∧
      (Quiet thumb ∧ thumb.queue = [] ∧ thumb.regionOf (thumb.relocate (wordAlign thumb.pc)) = .ram ∧
        thumb.cpsr.t = true) :=
  ⟨⟨svc_quiet, rfl, rfl, rfl⟩, thumb_quiet, rfl, rfl, rfl⟩

theorem witness_RegisterBanking :
    svc.cpsr.m ∈ modes ∧ svc.bankHazard = false ∧ modeFiq ∈ modes ∧ modeSys ∈ modes ∧ (14#4 : RegNum) ≠ 15#4 ∧
      bank modeFiq 14#4 ≠ bank svc.cpsr.m 14#4 ∧ bank modeSys 12#4 = bank svc.cpsr.m 12#4 := by
  refine ⟨by decide, rfl, by decide, by decide, by decide, by decide, by decide⟩

theorem witness_FailedConditionOnlyAdvances :
    encode (.swi .eq 0x11#24) = .arm 0x0F000011#32 ∧
      condPassed (Cond.ofBits ((0x0F000011#32 : Word).extractLsb' 28 4)) svc.cpsr = false := by
  constructor <;> decide +kernel

/-- The three forms, the last with the shift register next to the forbidden r15. -/
theorem witness_LogicalOperationsWriteRd :
    condPassed .al svc.cpsr = true ∧ (DpForm.imm 4#4 0xFF#8).ok ∧ (DpForm.shift 31#5 .ror 15#4).ok ∧
      (DpForm.regShift 14#4 .lsr 15#4).ok ∧ (14#4 : RegNum) ≠ 15#4 :=
  ⟨rfl, trivial, trivial, (by decide : (14#4 : RegNum) ≠ 15#4), by decide⟩

theorem witness_ArithmeticOperationsWriteRd :
    condPassed .ne svc.cpsr = true ∧ (DpForm.imm 4#4 0xFF#8).ok ∧ (DpForm.shift 31#5 .ror 15#4).ok ∧
      (DpForm.regShift 14#4 .lsr 15#4).ok ∧ (14#4 : RegNum) ≠ 15#4 :=
  ⟨rfl, trivial, trivial, (by decide : (14#4 : RegNum) ≠ 15#4), by decide⟩

theorem witness_ComparisonsWriteFlagsOnly :
    condPassed .ge svc.cpsr = true ∧ (DpForm.imm 0#4 1#8).ok ∧ (DpForm.shift 0#5 .lsl 15#4).ok ∧
      (DpForm.regShift 14#4 .asr 15#4).ok :=
  ⟨rfl, trivial, trivial, (by decide : (14#4 : RegNum) ≠ 15#4)⟩

/-- Without S in any mode; with S in a mode with an SPSR and in User mode, which has none. -/
theorem witness_DataProcessingOfR15 :
    condPassed .al svc.cpsr = true ∧ (DpForm.shift 0#5 .lsl 14#4).plain ∧
      (∃ op : LogicOp, (fun sets => Instr.movShift .al sets 15#4 0#5 .lsl 14#4) =
          (fun sets => op.instr .al sets 0#4 15#4 (.shift 0#5 .lsl 14#4)) ∧
        op.value (svc.reg 0#4) ((DpForm.shift 0#5 .lsl 14#4).operand svc).value =
          ((DpForm.shift 0#5 .lsl 14#4).operand svc).value) ∧
      svc.spsrOf svc.cpsr.m = some svc.spsrSvc ∧ condPassed .al usr.cpsr = true ∧ usr.spsrOf usr.cpsr.m = none :=
  ⟨rfl, trivial, ⟨.mov, rfl, rfl⟩, rfl, rfl, rfl⟩

theorem witness_ShifterResults :
    (1#8 : BitVec 8) ≠ 0#8 ∧ (32#8 : BitVec 8) ≠ 0#8 ∧ (33#8 : BitVec 8) ≠ 0#8 ∧ (255#8 : BitVec 8) ≠ 0#8 ∧
      (1#5 : BitVec 5) ≠ 0#5 ∧ (31#5 : BitVec 5) ≠ 0#5 := by
  decide

theorem witness_MultipliesWriteTheProduct :
    condPassed .al svc.cpsr = true ∧ (14#4 : RegNum) ≠ 15#4 ∧ (13#4 : RegNum) ≠ 15#4 ∧ (12#4 : RegNum) ≠ 15#4 ∧
      (14#4 : RegNum) ≠ 13#4 ∧ (14#4 : RegNum) ≠ 12#4 ∧ (13#4 : RegNum) ≠ 12#4 := by
  decide

/-- A multiply; each restriction of a single and of a halfword transfer; an odd address; the block forms in User mode. -/
theorem witness_ForbiddenOperandsAreRefused :
    (condPassed .al svc.cpsr = true ∧ ((15#4 : RegNum) = 15#4 ∨ (1#4 : RegNum) = 15#4) ∧ (14#4 : RegNum) ≠ 15#4 ∧
      ((14#4 : RegNum) = 13#4 ∨ (14#4 : RegNum) = 14#4)) ∧
    ((WordForm.regPre true false 1#4 0#5 .lsl 15#4).offset15 ∧ (WordForm.immUser true 1#4 0#12).user = true ∧
      (WordForm.immPost true 15#4 0#12).writes ∧ (WordForm.immPost true 15#4 0#12).base = 15#4 ∧
      ¬ (WordForm.regPost true 1#4 0#5 .lsl 14#4).offset15 ∧ (WordForm.regPost true 1#4 0#5 .lsl 14#4).base = 1#4) ∧
    ((HalfForm.imm false true true 1#4 0#4 0#4).undefined ∧ ¬ (HalfForm.reg true true false 1#4 15#4).undefined ∧
      (HalfForm.reg true true false 1#4 15#4).offset15 ∧ (HalfForm.imm false true false 15#4 0#4 0#4).writes ∧
      ¬ (HalfForm.imm false true false 15#4 0#4 0#4).undefined ∧ (HalfForm.imm false true false 1#4 0#4 0#4).base = 1#4) ∧
    ((HalfForm.imm true true false 1#4 0#4 1#4).ok 0#4 ∧ HalfLoad.ldrh.size = .half ∧ svc.debugSpeed = false ∧
      svc.cp15.a = false ∧ (svc.relocate ((HalfForm.imm true true false 1#4 0#4 1#4).addressing svc).addr).getLsbD 0 = true) ∧
    condPassed .al usr.cpsr = true ∧ usr.cpsr.m = modeUsr ∧ (0x4000#15 : BitVec 15) ≠ 0#15 ∧ (0x8000#16 : BitVec 16) ≠ 0#16 := by
  refine ⟨by decide, ⟨rfl, rfl, trivial, rfl, by simp [WordForm.offset15], rfl⟩, ⟨⟨rfl, rfl⟩, ?_, rfl, .inl rfl, ?_, rfl⟩,
    ⟨⟨.inl rfl, ?_⟩, rfl, rfl, rfl, by decide +kernel⟩, rfl, rfl, by decide, by decide⟩
  · simp [HalfForm.undefined]
  · simp [HalfForm.undefined]
  · simp

/-- Supervisor mode, with the T bit kept and with it changed; User mode; an SPSR and none. -/
theorem witness_StatusRegisterTransfers :
    (condPassed .al svc.cpsr = true ∧ svc.privileged = true ∧ (0x1F#32 : Word).getLsbD 5 = svc.cpsr.t) ∧
      ((9#4 : BitVec 4).getLsbD 0 = true ∧ (0x3F#32 : Word).getLsbD 5 ≠ svc.cpsr.t) ∧
      (MsrForm.imm 0#4 0x1F#8).operand svc = 0x1F#32 ∧ (MsrForm.imm 0#4 0x3F#8).operand svc = 0x3F#32 ∧
      (condPassed .al usr.cpsr = true ∧ usr.cpsr.m = modeUsr ∧ usr.dbg.halted = false ∧
        usr.spsrOf usr.cpsr.m = none) ∧
      svc.spsrOf svc.cpsr.m = some svc.spsrSvc ∧ (14#4 : RegNum) ≠ 15#4 := by
  refine ⟨⟨rfl, rfl, rfl⟩, ⟨rfl, by decide⟩, by decide, by decide, ⟨rfl, rfl, rfl, rfl⟩, rfl, by decide⟩

theorem witness_Branches :
    condPassed .al svc.cpsr = true ∧ thumb.cpsr.t = true ∧ (Instr.tBeq 0x80#8, Cond.eq) ∈ thumbBranches 0x80#8 ∧ (Instr.tBle 0x7F#8, Cond.le) ∈ thumbBranches 0x7F#8 ∧
      thumb.bankHazard = false ∧
      exec (.tBlHigh 0x7FF#11) thumb =
        .next (thumb.setReg 14#4 (thumb.pc + 4#32 + (0x7FF#11 : BitVec 11).signExtend 32 <<< 12)).advance := by
  refine ⟨rfl, rfl, by decide, by decide, rfl, rfl⟩

theorem witness_SwiAndUndefinedTrap :
    condPassed .al svc.cpsr = true ∧
      Instr.tUndefBC 0x1FF#9 ∈ ([.tUndefCond 0#8, .tUndef11101 0#11, .tUndefB1 0#8, .tUndefB2 0#9, .tUndefB6 0#9,
        .tUndefB8 0#10, .tUndefBC 0x1FF#9] : List Instr) := by
  constructor <;> decide

theorem witness_ExceptionReturn : svc.bankHazard = false ∧ thumb.bankHazard = false := ⟨rfl, rfl⟩

/-- FIQ; IRQ with FIQ absent and with FIQ masked; an aborted fetch with neither. -/
theorem witness_InterruptPriority :
    (∀ s : State, s ∈ [{ svc with pins := { svc.pins with fiq := true } }, { svc with pins := { svc.pins with irq := true } },
        { svc with pins := { svc.pins with fiq := true, irq := true }, cpsr := { svc.cpsr with f := true } }] →
      CoreRuns s ∧ (prefetched s).requestDue = false ∧ (prefetched s).ifen = true ∧
        ∃ rest : List FetchSlot, (prefetched s).queue = ⟨0x8000#32, 0#32, 0#32, .ok, false, true⟩ :: rest) ∧
      (CoreRuns { svc with params := { svc.params with memMap := [⟨0x8000#32, 0x8003#32, .error⟩] } } ∧
        ((prefetched { svc with params := { svc.params with memMap := [⟨0x8000#32, 0x8003#32, .error⟩] } }).queue.head?.map
          (fun q => (q.addr, q.mark, q.breakpoint))) = some (0x8000#32, .external, false) ∧
        (prefetched { svc with params := { svc.params with memMap := [⟨0x8000#32, 0x8003#32, .error⟩] } }).ifen = true ∧
        (prefetched { svc with params := { svc.params with memMap := [⟨0x8000#32, 0x8003#32, .error⟩] } }).requestDue =
          false) := by
  refine ⟨fun s h => ?_, ⟨rfl, rfl, rfl, rfl⟩, by decide +kernel, rfl, rfl⟩
  simp only [List.mem_cons, List.not_mem_nil, or_false] at h
  rcases h with rfl | rfl | rfl <;>
    exact ⟨⟨rfl, rfl, rfl, rfl⟩, rfl, rfl, ⟨[⟨0x8004#32, 0#32, 0#32, .ok, false, true⟩, ⟨0x8008#32, 0#32, 0#32, .ok, false, true⟩],
      by decide +kernel⟩⟩

/-- The last address that is relocated and the first that is not. -/
theorem witness_FcseRelocation :
    (0x01FFFFFF#32 : Word).toNat < 2 ^ 25 ∧ 2 ^ 25 ≤ (0x02000000#32 : Word).toNat ∧ svc.cp15.pid = 0#7 :=
  ⟨by decide, by decide, rfl⟩

/-- Loads and stores, with r15 as Rd where it is allowed and the register next to it elsewhere. -/
theorem witness_SingleTransfers :
    (condPassed .al svc.cpsr = true ∧ (WordForm.immPre true true 1#4 4#12).ok 15#4 ∧
      (WordForm.regUser true 1#4 2#5 .lsl 2#4).ok 14#4 ∧ (WordForm.immPre true false 15#4 4#12).ok 15#4 ∧
      (14#4 : RegNum) ≠ 15#4 ∧ Quiet svc ∧
      Ready svc ((WordForm.immPre true true 1#4 3#12).addressing svc).addr .word ∧
      Ready svc ((WordForm.regUser true 1#4 2#5 .lsl 2#4).addressing svc).addr .byte) ∧
    ((WordForm.immPost true 1#4 4#12).ok 15#4 ∧ (WordForm.regPre true true 1#4 2#5 .lsl 2#4).ok 14#4 ∧
      Ready svc ((WordForm.immPost true 1#4 4#12).addressing svc).addr .word ∧
      Ready svc ((WordForm.regPre true true 1#4 2#5 .lsl 2#4).addressing svc).addr .byte) :=
  ⟨⟨rfl, fun _ => by decide, (by decide : (2#4 : RegNum) ≠ 15#4 ∧ (1#4 : RegNum) ≠ 15#4 ∧ (1#4 : RegNum) ≠ 14#4),
    fun h => by simp at h, by decide, svc_quiet, ready_of_plain _ _ _ rfl rfl (by simp),
    ready_of_plain _ _ _ rfl rfl (by simp)⟩,
    (by decide : (1#4 : RegNum) ≠ 15#4 ∧ (1#4 : RegNum) ≠ 15#4), ⟨by decide, fun _ => by decide⟩,
    ready_of_plain _ _ _ rfl rfl (by simp), ready_of_plain _ _ _ rfl rfl (by simp)⟩

theorem witness_HalfwordAndSignedTransfers :
    condPassed .al svc.cpsr = true ∧ (HalfForm.imm true true true 1#4 0xF#4 0xE#4).ok 14#4 ∧ (HalfForm.reg false true false 1#4 2#4).ok 0#4 ∧
      (14#4 : RegNum) ≠ 15#4 ∧ Quiet svc ∧
      Ready svc ((HalfForm.imm true true true 1#4 0xF#4 0xE#4).addressing svc).addr .half ∧
      Ready svc ((HalfForm.reg false true false 1#4 2#4).addressing svc).addr .byte :=
  ⟨rfl, ⟨by decide, fun _ => by decide⟩, ⟨by decide, by decide, fun _ => by decide⟩, by decide, svc_quiet,
    ready_of_plain _ _ _ rfl rfl (fun _ => by decide +kernel), ready_of_plain _ _ _ rfl rfl (by simp)⟩

theorem witness_ReadsGiveTheBytesOfMemory : svc.masters = [] := rfl

theorem witness_WritesStoreTheBytes :
    cellsWf svc.mem = true ∧ svc.masters = [] ∧ svc.regionOf (svc.relocate 0xFFFFFFFF#32) = .ram :=
  ⟨by decide +kernel, rfl, rfl⟩

/-- Supervisor mode with nothing in memory. -/
def bare : State := start 0x13#32 0x8000#32 [(1#4, 0x9000#32), (2#4, 4#32)]

/-- The MMU on, the TLB empty, and a first level descriptor at MVA 0; domain 1 is a manager, domain 2 a client, domain 3 without
access. -/
def mapped (d : Word) : State := putWord { bare with cp15 := { bare.cp15 with m := true, dacr := 0x1C#32 } } 0#32 d

/-- A section that privileged modes may read and nobody may write. -/
def readOnly : State :=
  putWord { bare with cp15 := { bare.cp15 with m := true, dacr := 0x1C#32, s := true } } 0#32 0x00100052#32

/-- The bus answers with ERROR at Data + 4. -/
def failing : State := { svc with params := { svc.params with memMap := [⟨0x9004#32, 0x9007#32, .error⟩] } }

/-- An access is aborted. -/
def aborts (a : Access) : Bool :=
  match a with
  | .abort _ => true
  | .done _ _ => false
  | .refused _ => false

/-- A read completes and the write after it is aborted. -/
def swapAborts (a : Access) (w : State → Access) : Bool :=
  match a with
  | .abort _ => false
  | .done _ t => aborts (w t)
  | .refused _ => false

theorem exists_abort {a : Access} (h : aborts a = true) : ∃ t : State, a = .abort t := by
  cases a with
  | abort t => exact ⟨t, rfl⟩
  | done v t => simp [aborts] at h
  | refused r => simp [aborts] at h

theorem exists_swapAbort {a : Access} {w : State → Access} (h : swapAborts a w = true) :
    ∃ (v : Word) (t u : State), a = .done v t ∧ w t = .abort u := by
  cases a with
  | abort t => simp [swapAborts] at h
  | done v t => exact ⟨v, t, (exists_abort h).imp fun _ h => ⟨rfl, h⟩⟩
  | refused r => simp [swapAborts] at h

/-- The same with control bit A set. -/
def checked : State := { svc with cp15 := { svc.cp15 with a := true } }

theorem translate_off {s : State} (h : s.cp15.m = false) (a : Word) (p w : Bool) :
    (Machine.translate s a p w).1 = .mapped (s.flatMapping a) := by
  simp [Machine.translate, h]

/-- Misaligned words and a halfword; a domain fault; an ERROR without the MMU; r1 at Data with the offsets 1, 2 and 3. -/
theorem witness_DataAccessesAbort :
    (checked.debugSpeed = false ∧ checked.cp15.a = true ∧
      (0x9001#32 : Word).extractLsb' 0 2 ≠ 0#2 ∧ (0x9003#32 : Word).extractLsb' 0 2 ≠ 0#2 ∧
      (0x9001#32 : Word).getLsbD 0 = true) ∧
    (((mapped 0x00100C72#32).relocate 0x9000#32 = 0x9000#32 ∧
      (Machine.translate (mapped 0x00100C72#32) 0x9000#32 true false).1 = .fault 0b1001#4 3#4 ∧
      (Machine.translate (mapped 0x00100C72#32) 0x9000#32 true true).1 = .fault 0b1001#4 3#4) ∧ Aligned (mapped 0x00100C72#32) 0x9000#32 .word) ∧
    (∀ w : Bool, Aligned failing 0x9004#32 .word ∧
      (Machine.translate failing (failing.relocate 0x9004#32) true w).1 = .mapped (failing.flatMapping 0x9004#32) ∧
      failing.regionOf (failing.flatMapping 0x9004#32).pa = .error ∧ (failing.flatMapping 0x9004#32).c = false ∧
      failing.cacheOn = false ∧ failing.cp15.m = false) ∧
    (condPassed .al checked.cpsr = true ∧ checked.dbg.halted = false ∧
      (∀ k ∈ ([1#12, 2#12, 3#12] : List (BitVec 12)), (WordForm.immPre true true 1#4 k).ok 0#4 ∧
        (WordForm.immPre true true 1#4 k).user = false ∧
        ((WordForm.immPre true true 1#4 k).addressing checked).addr.extractLsb' 0 2 ≠ 0#2) ∧
      (Instr.ldrImmPre .al true true 1#4 0#4 1#12 = loadInstr .al 0#4 false (.immPre true true 1#4 1#12) ∨
        Instr.ldrImmPre .al true true 1#4 0#4 1#12 = storeInstr .al 0#4 false (.immPre true true 1#4 1#12))) := by
  refine ⟨⟨rfl, rfl, by decide, by decide, by decide⟩, ⟨⟨by decide +kernel, by decide +kernel, by decide +kernel⟩, by decide +kernel, by decide +kernel, by simp⟩,
    fun w => ⟨⟨rfl, rfl, by simp⟩, translate_off rfl _ _ _, by decide +kernel, rfl, rfl, rfl⟩, rfl, rfl, fun k hk => ⟨fun _ => by decide, rfl, ?_⟩,
    .inl rfl⟩
  revert k
  decide +kernel

/-- Reads and writes that abort; a locked read that completes before a locked write that aborts; a coprocessor that accepts. -/
theorem witness_AbortedTransfersTakeTheDataAbort :
    condPassed .al failing.cpsr = true ∧ (WordForm.immPre true true 1#4 4#12).ok 0#4 ∧
      (HalfForm.imm true true true 1#4 0#4 4#4).ok 0#4 ∧
      ((WordForm.immPre true true 1#4 4#12).addressing failing).addr = 0x9004#32 ∧
      ((HalfForm.imm true true true 1#4 0#4 4#4).addressing failing).addr = 0x9004#32 ∧
      (∀ size ∈ ([.byte, .half, .word] : List Size), ∀ lock ∈ [true, false],
        (∃ t : State, dataRead failing 0x9004#32 size true lock = .abort t) ∧
        ∃ t : State, dataWrite failing 0x9004#32 size 7#32 true lock = .abort t) ∧
      (Instr.tLdrReg 2#3 1#3 0#3, 0x9004#32, Size.word) ∈ thumbLoads 2#3 1#3 0#3 0#5 0#8 failing ∧
      (Instr.tStrReg 2#3 1#3 0#3, 0x9004#32, Size.word) ∈ thumbStores 2#3 1#3 0#3 0#5 0#8 failing ∧
      (∃ (v : Word) (t u : State), dataRead readOnly (readOnly.reg 1#4) .word true true = .done v t ∧
        dataWrite t (readOnly.reg 1#4) .word (readOnly.reg 2#4) true true = .abort u) ∧
      copResponse [⟨5#4, [⟨.accept 1#32 [2#32], false⟩], []⟩] 5#4 true = .accept 1#32 [2#32] ∧
      (copAddressing true true true 1#4 1#8 failing).addr = 0x9004#32 := by
  refine ⟨rfl, fun _ => by decide, ⟨by decide, fun _ => by decide⟩, by decide +kernel, by decide +kernel,
    fun size hs lock hl => ⟨exists_abort ?_, exists_abort ?_⟩, by decide +kernel, by decide +kernel, exists_swapAbort ?_, rfl,
    by decide +kernel⟩
  · revert size lock; decide +kernel
  · revert size lock; decide +kernel
  · decide +kernel

/-- The first transfer of a block load aborts. -/
theorem exists_loadsNone {user priv : Bool} {s : State} {start : Word} {regs : List RegNum} (hn : 0 < regs.length)
    (h : aborts (dataRead s start .word priv false) = true) :
    ∃ (at_ : Nat → State) (value : Nat → Word) (t : State), at_ 0 = s ∧ LoadsUntilAbort user priv regs start 0 at_ value t := by
  obtain ⟨t, ht⟩ := exists_abort h
  exact ⟨fun _ => s, fun _ => 0, t, rfl, hn, fun k r hk => absurd hk (Nat.not_lt_zero k), by simpa using ht⟩

/-- The second one does. -/
theorem exists_loadsOne {user priv : Bool} {s u : State} {start v : Word} {r0 r1 : RegNum} {regs : List RegNum}
    (h0 : dataRead s start .word priv false = .done v u)
    (h1 : aborts (dataRead (blockLoadReg user u r0 v) (start + 4#32) .word priv false) = true) :
    ∃ (at_ : Nat → State) (value : Nat → Word) (t : State),
      at_ 0 = s ∧ LoadsUntilAbort user priv (r0 :: r1 :: regs) start 1 at_ value t := by
  obtain ⟨t, ht⟩ := exists_abort h1
  refine ⟨fun k => if k = 0 then s else blockLoadReg user u r0 v, fun _ => v, t, rfl, by simp, fun k r hk hr => ?_, by simpa using ht⟩
  obtain rfl : k = 0 := by omega
  obtain rfl : r0 = r := by simpa using hr
  exact ⟨u, by simpa using h0, rfl⟩

/-- The first transfer of a block store aborts. -/
theorem exists_storesNone {user priv w : Bool} {s : State} {start after : Word} {rn r0 : RegNum} {regs : List RegNum}
    (h : aborts (dataWrite s start .word (blockStoreValue user s r0) priv false) = true) :
    ∃ (at_ : Nat → State) (t : State),
      at_ 0 = s ∧ StoresUntilAbort user priv w rn after (r0 :: regs) start 0 at_ t := by
  obtain ⟨t, ht⟩ := exists_abort h
  refine ⟨fun _ => s, t, rfl, by simp, fun k r hk => absurd hk (Nat.not_lt_zero k), fun r hr => ?_⟩
  obtain rfl : r0 = r := by simpa using hr
  simpa using ht

/-- The state and the value of an access that completes. -/
def doneOf (a : Access) (s : State) : Word × State :=
  match a with
  | .done v u => (v, u)
  | .abort _ => (0, s)
  | .refused _ => (0, s)

/-- An access completes. -/
def completes (a : Access) : Bool :=
  match a with
  | .done _ _ => true
  | .abort _ => false
  | .refused _ => false

theorem done_of_completes {a : Access} (s : State) (h : completes a = true) : a = .done (doneOf a s).1 (doneOf a s).2 := by
  cases a with
  | done v u => rfl
  | abort t => simp [completes] at h
  | refused r => simp [completes] at h

/-- Three registers from Data on, of which the second is aborted; with the alignment check, a block that is aborted at its first
word, by `LDM`, `LDM ^` and `STM`. -/
theorem witness_AbortedBlockTransfers :
    ((∃ (at_ : Nat → State) (value : Nat → Word) (t : State),
        at_ 0 = failing ∧ LoadsUntilAbort false true (0#4 :: 2#4 :: [15#4]) 0x9000#32 1 at_ value t) ∧
      regList 0x8005#16 = 0#4 :: 2#4 :: [15#4]) ∧
    ((∀ user : Bool, ∃ (at_ : Nat → State) (value : Nat → Word) (t : State),
        at_ 0 = checked ∧ LoadsUntilAbort user true (regList 0x0005#16) 0x9001#32 0 at_ value t) ∧
      (∀ user : Bool, ∃ (at_ : Nat → State) (t : State),
        at_ 0 = checked ∧ StoresUntilAbort user true true 1#4 0x9009#32 (0#4 :: [2#4]) 0x9001#32 0 at_ t) ∧
      checked.cpsr.m ≠ modeUsr ∧ checked.cpsr.m ≠ modeSys ∧ checked.spsrOf checked.cpsr.m ≠ none) ∧
    condPassed .al failing.cpsr = true ∧ (1#4 : RegNum) ≠ 15#4 ∧ Quiet failing ∧ cellsWf failing.mem = true ∧
      failing.bankHazard = false ∧ blockStart false true (failing.reg 1#4) (regList 0x8005#16).length = 0x9000#32 ∧
      FirstFailure failing 0x9000#32 (regList 0x8005#16).length 1 := by
  refine ⟨⟨exists_loadsOne (done_of_completes failing (by decide +kernel)) (by decide +kernel), by decide⟩,
    ⟨fun user => exists_loadsNone (by decide) (by decide +kernel), fun user => exists_storesNone (by cases user <;> decide +kernel), by decide,
      by decide, by decide⟩,
    rfl, by decide, ⟨rfl, rfl, rfl, rfl, rfl, rfl, rfl⟩, by decide +kernel, rfl, by decide +kernel, by decide,
    fun k h => ?_, ⟨rfl, by decide +kernel⟩, fun k h h3 => .inl ?_⟩
  · obtain rfl : k = 0 := by omega
    exact ⟨rfl, by simp, by decide +kernel⟩
  · obtain rfl : k = 2 := by
      have : (regList 0x8005#16).length = 3 := by decide
      omega
    exact ⟨rfl, by simp, by decide +kernel⟩

theorem witness_LoadMultiple :
    (condPassed .al svc.cpsr = true ∧ (1#4 : RegNum) ≠ 15#4 ∧ regList 0x8003#16 ≠ [] ∧ Quiet svc ∧
      BlockReady svc (blockStart false true (svc.reg 1#4) (regList 0x8003#16).length) (regList 0x8003#16).length ∧
      15#4 ∉ regList 0x0003#16 ∧ (regList 0x8003#16)[2]? = some 15#4) ∧
    ((13#4 : RegNum) ≠ 15#4 ∧ popList true 0#8 ≠ [] ∧ regList (0#8 ++ 0x80#8) ≠ [] ∧ Quiet thumb ∧
      BlockReady thumb (blockStart false true (thumb.reg 13#4) (popList true 0#8).length) (popList true 0#8).length ∧
      BlockReady thumb (blockStart false true (thumb.reg 1#4) (regList (0#8 ++ 0x80#8)).length)
        (regList (0#8 ++ 0x80#8)).length) ∧
    ((0x6000#15 : BitVec 15) ≠ 0#15 ∧ svc.cpsr.m ≠ modeUsr ∧ svc.cpsr.m ≠ modeSys ∧
      svc.spsrOf svc.cpsr.m = some svc.spsrSvc ∧
      BlockReady svc (blockStart false true (svc.reg 1#4) (regList (0#1 ++ 0x6000#15)).length)
        (regList (0#1 ++ 0x6000#15)).length ∧
      BlockReady svc (blockStart true false (svc.reg 1#4) (regList (1#1 ++ 0#15)).length) (regList (1#1 ++ 0#15)).length) :=
  ⟨⟨rfl, by decide, by decide, svc_quiet, svc_blockReady _ _, by decide, by decide⟩, ⟨by decide, by decide, by decide,
    thumb_quiet, thumb_blockReady _ _, thumb_blockReady _ _⟩, by decide, by decide, by decide, rfl, svc_blockReady _ _,
    svc_blockReady _ _⟩

theorem witness_StoreMultiple :
    (condPassed .al svc.cpsr = true ∧ (1#4 : RegNum) ≠ 15#4 ∧ regList 0xFFFF#16 ≠ [] ∧ svc.bankHazard = false ∧
      cellsWf svc.mem = true ∧ Quiet svc ∧ svc.cpsr.m ≠ modeUsr ∧ svc.cpsr.m ≠ modeSys ∧
      BlockReady svc (blockStart true false (svc.reg 1#4) (regList 0xFFFF#16).length) (regList 0xFFFF#16).length) ∧
    (pushList true 0#8 ≠ [] ∧ regList (0#8 ++ 1#8) ≠ [] ∧ thumb.bankHazard = false ∧ cellsWf thumb.mem = true ∧ Quiet thumb ∧
      BlockReady thumb (blockStart true false (thumb.reg 13#4) (pushList true 0#8).length) (pushList true 0#8).length ∧
      BlockReady thumb (blockStart false true (thumb.reg 1#4) (regList (0#8 ++ 1#8)).length) (regList (0#8 ++ 1#8)).length) :=
  ⟨⟨rfl, by decide, by decide, rfl, by decide +kernel, svc_quiet, by decide, by decide, svc_blockReady _ _⟩, by decide,
    by decide, rfl, by decide +kernel, thumb_quiet, thumb_blockReady _ _, thumb_blockReady _ _⟩

theorem witness_SwapReadsThenWrites :
    condPassed .al svc.cpsr = true ∧ (1#4 : RegNum) ≠ 15#4 ∧ (0#4 : RegNum) ≠ 15#4 ∧ (2#4 : RegNum) ≠ 15#4 ∧
      (1#4 : RegNum) ≠ 0#4 ∧ (1#4 : RegNum) ≠ 2#4 ∧ Quiet svc ∧ Ready svc (svc.reg 1#4) .word ∧ Ready svc (svc.reg 1#4) .byte :=
  ⟨rfl, by decide, by decide, by decide, by decide, by decide, svc_quiet, ready_of_plain _ _ _ rfl rfl (by simp),
    ready_of_plain _ _ _ rfl rfl (by simp)⟩

/-- Coprocessor 4 accepts an instruction with one word, coprocessor 7 is busy, coprocessor 5 accepts with two, and coprocessor 6
accepts in privileged modes only. -/
def attached : State :=
  { svc with copros := [⟨4#4, [⟨.accept 0x80000000#32 [], false⟩], []⟩, ⟨7#4, [⟨.busy, false⟩], []⟩,
      ⟨5#4, [⟨.accept 1#32 [2#32], false⟩], []⟩, ⟨6#4, [⟨.accept 1#32 [], true⟩], []⟩] }

theorem witness_CoprocessorHandshake :
    (condPassed .al svc.cpsr = true ∧ svc.copros = [] ∧ (13#4 : BitVec 4) ≠ 14#4 ∧ (13#4 : BitVec 4) ≠ 15#4) ∧
      condPassed .al attached.cpsr = true ∧ copResponse attached.copros 4#4 attached.sampledTrans = .accept 0x80000000#32 [] ∧
      copResponse attached.copros 7#4 attached.sampledTrans = .busy ∧
      copResponse attached.copros 6#4 false = .absent ∧
      ({ usr with queue := [⟨0x8000#32, 0#32, 0#32, .ok, false, true⟩] } : State).queue =
        [⟨0x8000#32, 0#32, 0#32, .ok, false, true⟩] ∧
      Instr.stc .al true true true true 15#4 0#4 7#4 0#8 ∈
        ([.cdp .al 0#4 0#4 0#4 7#4 0#3 0#4, .mcr .al 0#3 0#4 15#4 7#4 0#3 0#4, .mrc .al 0#3 0#4 15#4 7#4 0#3 0#4,
          .ldc .al true true true true 15#4 0#4 7#4 0#8, .stc .al true true true true 15#4 0#4 7#4 0#8] : List Instr) :=
  ⟨⟨rfl, rfl, by decide, by decide⟩, rfl, rfl, rfl, rfl, rfl, by decide⟩

theorem witness_CoprocessorTransfers :
    condPassed .al attached.cpsr = true ∧
      copResponse attached.copros 5#4 attached.sampledTrans = .accept 1#32 [2#32] ∧
      ([1#32, 2#32] : List Word) = 1#32 :: ([2#32] : List Word).take 15 ∧
      ((15#4 : RegNum) = 15#4 → true = true ∧ false = false) ∧
      cellsWf attached.mem = true ∧ Quiet attached ∧
      BlockReady attached (copAddressing true true false 15#4 4#8 attached).addr ([1#32, 2#32] : List Word).length :=
  ⟨rfl, rfl, rfl, fun _ => ⟨rfl, rfl⟩, by decide +kernel, ⟨rfl, rfl, rfl, rfl, rfl, rfl, rfl⟩,
    fun _ _ => ready_of_plain _ _ _ rfl rfl (by simp)⟩

theorem witness_Cp15Reads : condPassed .al svc.cpsr = true ∧ svc.privileged = true := ⟨rfl, rfl⟩

theorem witness_Cp15Writes : condPassed .al svc.cpsr = true ∧ svc.privileged = true := ⟨rfl, rfl⟩

theorem witness_Invalidations :
    condPassed .al svc.cpsr = true ∧ svc.privileged = true ∧
      Instr.mcrInvTlbC7 .al 0#4 ∈ ([.mcrInvTlbC5 .al 0#4, .mcrInvTlbC6 .al 0#4, .mcrInvTlbC7 .al 0#4] : List Instr) ∧
      Instr.mcrInvTlbEntryC5 .al 0#4 ∈
        ([.mcrInvTlbEntryC5 .al 0#4, .mcrInvTlbEntryC6 .al 0#4, .mcrInvTlbEntryC7 .al 0#4] : List Instr) :=
  ⟨rfl, rfl, by decide, by decide⟩

theorem witness_CacheLockdown :
    condPassed .al svc.cpsr = true ∧ svc.privileged = true ∧
      (Instr.mcrCacheBase1 .al 1#4 = .mcrCacheBase0 .al 1#4 ∨ Instr.mcrCacheBase1 .al 1#4 = .mcrCacheBase1 .al 1#4) ∧
      (Instr.mcrCacheVictim0 .al 1#4 = .mcrCacheVictim0 .al 1#4 ∨
        Instr.mcrCacheVictim0 .al 1#4 = .mcrCacheVictim1 .al 1#4) :=
  ⟨rfl, rfl, .inr rfl, .inl rfl⟩

/-- The test state on; r1 names segment 3 and MVA 0x60. -/
def testing : State :=
  { start 0x13#32 0x8000#32 [(1#4, 0x60#32)] with cp15 := { State.reset.cp15 with testState := true } }

/-- The same with a line that holds MVA 0x60. -/
def testingLine : State := testing.setCacheLine 3 63 { testing.cacheLine 3 63 with valid := true }

/-- The same with a TLB entry that holds MVA 0x60. -/
def testingEntry : State := testing.setTlbEntry 63 { testing.tlbEntry 63 with valid := true, sizeC := 0b1111#4, ram1 := 0x48#22 }

theorem witness_CacheTestOperations :
    (∀ s ∈ [testing, testingLine], condPassed .al s.cpsr = true ∧ s.privileged = true ∧ s.cp15.testState = true ∧
      s.reg 1#4 = 0x60#32) ∧
      (3 : Fin 4).val = ((0x60#32 : Word).extractLsb' 5 2).toNat ∧ testing.cacheHits 0x60#32 = [] ∧
      testingLine.cacheHits 0x60#32 = [63] := by
  refine ⟨fun s h => ?_, by decide, by decide +kernel, by decide +kernel⟩
  simp only [List.mem_cons, List.not_mem_nil, or_false] at h
  rcases h with rfl | rfl <;> exact ⟨rfl, rfl, rfl, by decide +kernel⟩

theorem witness_TlbTestOperations :
    (∀ s ∈ [testing, testingEntry], condPassed .al s.cpsr = true ∧ s.privileged = true ∧ s.cp15.testState = true ∧
      s.reg 1#4 = 0x60#32) ∧
      (∀ k : Nat, testing.tlbEntry k = TlbEntry.zero ∧ tlbMatches TlbEntry.zero 0x60#32 = false) ∧
      (List.range 64).filter (fun k => tlbMatches (testingEntry.tlbEntry k) 0x60#32) = [63] ∧
      (testingEntry.tlbEntry 63).ram1 =
        ((1#16) <<< (0#4 : BitVec 4).toNat) ++ BitVec.ofBool (!true) ++ BitVec.ofBool (!true) ++ ((1#4) <<< (3#2 : BitVec 2).toNat) := by
  refine ⟨fun s h => ?_, fun k => ⟨Vector.getElem_replicate .., by decide⟩, by decide +kernel, by decide +kernel⟩
  simp only [List.mem_cons, List.not_mem_nil, or_false] at h
  rcases h with rfl | rfl <;> exact ⟨rfl, rfl, rfl, by decide +kernel⟩

theorem witness_Cp15InUserModeTraps :
    condPassed .al usr.cpsr = true ∧ usr.cpsr.m = modeUsr ∧ Instr.mrcId .al 0#4 ∈ cp15Reads .al 0#4 ∧
      Instr.mcrC15C .al 0#4 ∈ cp15Writes .al 0#4 :=
  ⟨rfl, rfl, by decide, by decide⟩

theorem witness_ReservedCp15Registers :
    condPassed .al svc.cpsr = true ∧ svc.privileged = true ∧ ((0#4 : BitVec 4) = 0#4 ∨ (0#4 : BitVec 4) = 14#4) ∧
      ((9#4 : BitVec 4) = 9#4 ∨ (9#4 : BitVec 4) = 14#4) ∧
      Instr.mcrTlbCamMatch .al 0#4 ∈ testOperations .al 0#4 ∧ svc.cp15.testState = false :=
  ⟨rfl, rfl, .inl rfl, .inl rfl, by decide, rfl⟩

theorem witness_Cp14Transfers : condPassed .al usr.cpsr = true ∧ condPassed .al svc.cpsr = true := ⟨rfl, rfl⟩

theorem witness_ThumbDataProcessing :
    (7#4 : RegNum) = (7#3 : LowReg).setWidth 4 ∧ thumb.lowReg 1#3 = 0x9000#32 ∧ thumb.lowReg 2#3 = 4#32 := by
  refine ⟨by decide, by decide +kernel, by decide +kernel⟩

theorem witness_ThumbHighRegisters :
    thumb.cpsr.t = true ∧ (15#4 : RegNum) = BitVec.ofBool true ++ (7#3 : LowReg) ∧
      (7#4 : RegNum) = BitVec.ofBool false ++ (7#3 : LowReg) := by
  refine ⟨rfl, by decide, by decide⟩

theorem witness_ThumbSingleTransfers :
    Quiet thumb ∧ Ready thumb (thumb.lowReg 1#3 + thumb.lowReg 2#3) .word ∧
      Ready thumb (thumb.lowReg 1#3 + thumb.lowReg 2#3) .byte ∧ Ready thumb (thumb.lowReg 1#3 + thumb.lowReg 2#3) .half :=
  ⟨thumb_quiet, ready_of_plain _ _ _ rfl rfl (by simp), ready_of_plain _ _ _ rfl rfl (by simp),
    ready_of_plain _ _ _ rfl rfl (fun _ => by decide +kernel)⟩

/-- A core in debug state, or at system speed, and the next event. -/
def haltedAt (systemSpeed : Bool) (e : EnvEvent) : State :=
  { svc with dbg := { svc.dbg with halted := true, systemSpeed := systemSpeed }, env := [e] }

/-- HRESETn on a running core and on one at system speed; in debug state it, a reset within a step and a change of ETMBIGEND. -/
theorem witness_HardReset :
    (({ svc with env := [.hreset] } : State).env = .hreset :: [] ∧ ({ svc with env := [.hreset] } : State).debugSpeed = false) ∧
      ((haltedAt true .hreset).env = .hreset :: [] ∧ (haltedAt true .hreset).debugSpeed = false) ∧
      ((haltedAt false .hreset).env = .hreset :: [] ∧ (haltedAt false .hreset).debugSpeed = true) ∧
      ((haltedAt false (.hresetDuring 1 1)).env = .hresetDuring 1 1 :: [] ∧
        (haltedAt false (.hresetDuring 1 1)).debugSpeed = true) ∧
      ∃ p : Pins, (haltedAt false (.setPins p)).env = .setPins p :: [] ∧ (haltedAt false (.setPins p)).debugSpeed = true ∧
        p.testenable = false ∧ p.scanenable = false ∧ p.dbgrq = false ∧ p.dbgbreak = false ∧ p.etmbigend ≠ svc.pins.etmbigend :=
  ⟨⟨rfl, rfl⟩, ⟨rfl, rfl⟩, ⟨rfl, rfl⟩, ⟨rfl, rfl⟩,
    { svc.pins with etmbigend := true }, rfl, rfl, rfl, rfl, rfl, rfl, by decide +kernel⟩

/-- The address of the first level descriptor of MVA 0. -/
def firstLevel : Word := (mapped 0#32).cp15.ttb ++ (0#32 : Word).extractLsb' 20 12 ++ 0#2

/-- A coarse table at 0x400 or a fine table at 0x1000, with its first descriptor. -/
def paged (d1 table d2 : Word) : State := putWord (mapped d1) table d2

/-- At level one a fault, a section of a manager's domain, of a client's with access and without, and of a domain without access;
at level two each type of descriptor in a coarse and in a fine table. -/
theorem witness_TableWalks :
    (∀ d : Word, (mapped d).cp15.m = true ∧ (mapped d).masters = [] ∧ (mapped d).regionOf firstLevel = .ram ∧
      ∀ k : Nat, (mapped d).tlbEntry k = TlbEntry.zero ∧ tlbMatches TlbEntry.zero 0#32 = false) ∧
      (∀ d ∈ ([0#32, 0x00100C32#32, 0x00100C52#32, 0x00100052#32, 0x00100C72#32, 0x451#32, 0x1053#32] : List Word),
        tableWord (mapped d) firstLevel = d) ∧
      ((mapped 0#32).cp15.dacr.extractLsb' 2 6 = 0b000111#6) ∧
      (allowed ((0x00100C52#32 : Word).extractLsb' 10 2) false false true false = true ∧
        allowed ((0x00100052#32 : Word).extractLsb' 10 2) false false true false = false) ∧
      (∀ d2 ∈ ([0#32, 0x001000F5#32, 0x00100FF6#32, 0x00100033#32] : List Word),
        tableWord (paged 0x451#32 0x400#32 d2) firstLevel = 0x451#32 ∧ tableWord (paged 0x451#32 0x400#32 d2) 0x400#32 = d2 ∧
        tableWord (paged 0x1053#32 0x1000#32 d2) firstLevel = 0x1053#32 ∧
        tableWord (paged 0x1053#32 0x1000#32 d2) 0x1000#32 = d2) ∧
      ((0x451#32 : Word).extractLsb' 0 2 = 0b01#2 ∧
        (0x451#32 : Word).extractLsb' 10 22 ++ (0#32 : Word).extractLsb' 12 8 ++ 0#2 = 0x400#32) ∧
      ((0x1053#32 : Word).extractLsb' 0 2 = 0b11#2 ∧
        (0x1053#32 : Word).extractLsb' 12 20 ++ (0#32 : Word).extractLsb' 10 10 ++ 0#2 = 0x1000#32) := by
  refine ⟨fun d => ⟨rfl, rfl, rfl, fun k => ⟨Vector.getElem_replicate .., by decide⟩⟩, fun d h => ?_, by decide +kernel,
    by decide +kernel, fun d h => ?_, by decide +kernel, by decide +kernel⟩
  · simp only [List.mem_cons, List.not_mem_nil, or_false] at h
    rcases h with rfl | rfl | rfl | rfl | rfl | rfl | rfl <;> decide +kernel
  · simp only [List.mem_cons, List.not_mem_nil, or_false] at h
    rcases h with rfl | rfl | rfl | rfl <;> exact ⟨by decide +kernel, by decide +kernel, by decide +kernel, by decide +kernel⟩

/-- An entry of each size that maps MVA 0x9000 to the same place 1MB further up, in domain 1. -/
def hitEntry (z : Nat × BitVec 4 × BitVec 4) : TlbEntry :=
  { tag := 0x24#22, sizeC := z.2.1, valid := true, preserve := false
    ram1 := ((1#16) <<< 1) ++ BitVec.ofBool (!true) ++ BitVec.ofBool (!false) ++ ((1#4) <<< 3)
    ram2 := 0, paTag := 0x424#22, sizeR2 := z.2.2 }

theorem witness_TlbHits :
    ∀ z ∈ entrySizes, ((mapped 0#32).setTlbEntry 63 (hitEntry z)).cp15.m = true ∧
      (List.range 64).filter
        (fun j => tlbMatches (((mapped 0#32).setTlbEntry 63 (hitEntry z)).tlbEntry j) 0x9000#32) = [63] ∧
      hitEntry z = ((mapped 0#32).setTlbEntry 63 (hitEntry z)).tlbEntry 63 ∧
      (hitEntry z).sizeC = z.2.1 ∧ (hitEntry z).sizeR2 = z.2.2 ∧
      (0x109000#32 : Word).toNat =
        ((hitEntry z).paTag.toNat * 2 ^ 10) / 2 ^ z.1 * 2 ^ z.1 + (0x9000#32 : Word).toNat % 2 ^ z.1 := by
  decide +kernel

/-- A segment whose victim pointer is forced. -/
def forcedVictim : State :=
  { svc with cache := { svc.cache with victim := svc.cache.victim.set 0 9#6, forced := svc.cache.forced.set 0 true } }

/-- A miss, a hit, a victim pointer that is forced and one that is not. -/
theorem witness_CachedReadsAndWrites :
    (0 : Fin 4).val = ((0x9004#32 : Word).extractLsb' 5 2).toNat ∧ svc.masters = [] ∧ svc.cacheHits 0x9004#32 = [] ∧
      (∀ k : Nat, k < 8 → svc.regionOf (lineAlign 0x9004#32 + BitVec.ofNat 32 (4 * k)) = .ram) ∧
      svc.cache.forced[(0 : Fin 4)] = false ∧ forcedVictim.cacheHits 0x9004#32 = [] ∧
      forcedVictim.cache.forced[(0 : Fin 4)] = true ∧
      (svc.setCacheLine 0 0 { svc.cacheLine 0 0 with valid := true, tag := 0x120#25 }).cacheHits 0x9004#32 = [0] ∧
      cellsWf svc.mem = true ∧ svc.regionOf (svc.flatMapping 0x9004#32).pa = .ram :=
  ⟨by decide, rfl, by decide +kernel, fun _ _ => rfl, by decide +kernel, by decide +kernel, by decide +kernel,
    by decide +kernel, by decide +kernel, rfl⟩

theorem witness_WriteBufferOrder :
    svc.writeBuffer.length ≤ 8 ∧ svc.masters = [] ∧
      ({ svc with writeBuffer := List.replicate 8 ⟨0#32, .word, 0#32, false, 0#4⟩ } : State).writeBuffer.length ≤ 8 := by
  refine ⟨by decide, rfl, by decide⟩

/-- Watchpoint unit 0 programmed to match any fetch (`ctrl` 0x100) or any data access (0x108), with a debug control register. -/
def watching (ctrl : BitVec 9) (control : BitVec 6) : State :=
  { svc with ice := { svc.ice with
      ctrl := control
      unit0 :=
        { addrValue := 0, addrMask := 0xFFFFFFFF#32, dataValue := 0, dataMask := 0xFFFFFFFF#32, ctrlValue := ctrl
          ctrlMask := 0xF7#8 } } }

/-- A breakpoint in halt mode. -/
def broken : State := watching 0x100#9 0#6

/-- LDR r0, [r1] with a watchpoint in halt mode. -/
def watched : State := (watching 0x108#9 0#6).withFetchWord 32 0xE5910000

/-- The address, mark and breakpoint of the slot about to execute. -/
def head (s : State) : Option (Word × FetchMark × Bool) :=
  (prefetched s).queue.head?.map (fun q => (q.addr, q.mark, q.breakpoint))

/-- What the end of a watchpointed instruction shows: the watchpoint, an abort, the pending interrupt, a legal mode. -/
def watchEnd (r : Result) : Option (Bool × Bool × Option Exception × Bool) :=
  match r with
  | .next u => some (u.dbg.watchHit, u.dbg.dataAborted, u.pendingInterrupt, legalMode u.cpsr.m)
  | .fault _ => none
  | .refused _ => none

/-- LDMIA r1, {r0, r15}^ with a watchpoint: the SPSR it restores has IRQ unmasked, and IRQ is asserted. -/
def watchedReturn : State :=
  { (watching 0x108#9 0#6).withFetchWord 32 0xE8D18001 with
    pins := { svc.pins with irq := true }, cpsr := { svc.cpsr with i := true }, spsrSvc := { svc.cpsr with i := false } }

/-- A breakpoint with its fetch aborted by the MMU or the bus. -/
def brokenFetch (mark : FetchMark) : State :=
  { broken with queue := List.replicate 3 ⟨0x8000#32, 0#32, 0#32, mark, true, true⟩ }

/-- A breakpoint; a request; a breakpoint with an interrupt pending; a watchpointed load; a watchpointed return with an interrupt
then pending; a breakpoint on an aborted fetch. -/
theorem witness_HaltModeEntersDebugState :
    (∀ p ∈ [({ svc.pins with dbgrq := true } : Pins), { svc.pins with dbgbreak := true }],
      (haltedAt false (.setPins p)).env = .setPins p :: [] ∧ (haltedAt false (.setPins p)).debugSpeed = true ∧
        p.testenable = false ∧ p.scanenable = false ∧ (p.dbgrq = true ∨ p.dbgbreak = true)) ∧
    (CoreRuns broken ∧ head broken = some (0x8000#32, .ok, true) ∧ broken.pins.dbgen = true ∧
      broken.ice.ctrl.getLsbD 4 = false ∧ (prefetched broken).pendingInterrupt = none) ∧
    (CoreRuns { svc with pins := { svc.pins with dbgrq := true } } ∧
      head { svc with pins := { svc.pins with dbgrq := true } } = some (0x8000#32, .ok, false)) ∧
    (CoreRuns { broken with pins := { broken.pins with irq := true } } ∧
      head { broken with pins := { broken.pins with irq := true } } = some (0x8000#32, .ok, true) ∧
      (prefetched { broken with pins := { broken.pins with irq := true } }).pendingInterrupt = some .irq) ∧
    (CoreRuns watched ∧ head watched = some (0x8000#32, .ok, false) ∧ (prefetched watched).requestDue = false ∧
      (prefetched watched).decodeBits 0xE5910000#32 = .ok (.ldrImmPre .al true false 1#4 0#4 0#12) ∧
      watchEnd (exec (.ldrImmPre .al true false 1#4 0#4 0#12) (prefetched watched)) = some (true, false, none, true)) ∧
    (CoreRuns watchedReturn ∧ head watchedReturn = some (0x8000#32, .ok, false) ∧
      (prefetched watchedReturn).requestDue = false ∧ (prefetched watchedReturn).pendingInterrupt = none ∧
      (prefetched watchedReturn).decodeBits 0xE8D18001#32 = .ok (.ldmRestore .al false true false 1#4 1#15) ∧
      watchEnd (exec (.ldmRestore .al false true false 1#4 1#15) (prefetched watchedReturn)) =
        some (true, false, some .irq, true)) ∧
    (∀ mark ∈ [FetchMark.aborted, .external], CoreRuns (brokenFetch mark) ∧ head (brokenFetch mark) = some (0x8000#32, mark, true) ∧
      (prefetched (brokenFetch mark)).requestDue = false ∧ (prefetched (brokenFetch mark)).pendingInterrupt = none) :=
  ⟨by decide +kernel, ⟨⟨rfl, rfl, rfl, rfl⟩, by decide +kernel, rfl, rfl, by decide +kernel⟩, ⟨⟨rfl, rfl, rfl, rfl⟩, by decide +kernel⟩,
    ⟨⟨rfl, rfl, rfl, rfl⟩, by decide +kernel, by decide +kernel⟩, ⟨⟨rfl, rfl, rfl, rfl⟩, by decide +kernel,
    by decide +kernel, rfl, by decide +kernel⟩, ⟨⟨rfl, rfl, rfl, rfl⟩, by decide +kernel, by decide +kernel,
    by decide +kernel, rfl, by decide +kernel⟩, fun mark _ => ⟨⟨rfl, rfl, rfl, rfl⟩, by revert mark; decide +kernel,
    by revert mark; decide +kernel, by revert mark; decide +kernel⟩⟩

theorem witness_WatchpointsMatch :
    (broken.dbg.halted = false ∧ broken.testMode = false ∧ broken.pins.dbgen = true ∧ broken.ice.ctrl.getLsbD 5 = false) ∧
      Direct (watching 0x108#9 0#6) ∧ Ready (watching 0x108#9 0#6) 0x9000#32 .word ∧
      (watching 0x108#9 0#6).ice.ctrl.getLsbD 4 = false ∧
      (watching 0x108#9 0#6).triggers
        (dataObserved 0x9000#32 (readWord (watching 0x108#9 0#6) 0x9000#32) .word false true) = true ∧
      (watching 0x108#9 0#6).triggers (dataObserved 0x9000#32 (replicateLanes .word 7#32) .word true true) = true :=
  ⟨⟨rfl, rfl, rfl, rfl⟩, ⟨rfl, rfl, rfl, rfl⟩, ready_of_plain _ _ _ rfl rfl (by simp), rfl, by decide +kernel,
    by decide +kernel⟩

/-- A breakpoint on a fetch that completes, that the MMU aborts and that the bus aborts; a watchpointed read and write. -/
theorem witness_MonitorModeTakesAborts :
    (CoreRuns (watching 0x100#9 0x10#6) ∧ head (watching 0x100#9 0x10#6) = some (0x8000#32, .ok, true) ∧
      (watching 0x100#9 0x10#6).pins.dbgen = true ∧ (watching 0x100#9 0x10#6).ice.ctrl.getLsbD 4 = true ∧
      (prefetched (watching 0x100#9 0x10#6)).pendingInterrupt = none ∧
      head { watching 0x100#9 0x10#6 with queue := List.replicate 3 ⟨0x8000#32, 0#32, 0#32, .aborted, true, true⟩ } =
        some (0x8000#32, .aborted, true) ∧
      head { watching 0x100#9 0x10#6 with queue := List.replicate 3 ⟨0x8000#32, 0#32, 0#32, .external, true, true⟩ } =
        some (0x8000#32, .external, true)) ∧
    (Direct (watching 0x108#9 0x10#6) ∧ Ready (watching 0x108#9 0x10#6) 0x9000#32 .word ∧
      (watching 0x108#9 0x10#6).ice.ctrl.getLsbD 4 = true ∧
      (watching 0x108#9 0x10#6).triggers
        (dataObserved 0x9000#32 (readWord (watching 0x108#9 0x10#6) 0x9000#32) .word false true) = true ∧
      (watching 0x108#9 0x10#6).triggers (dataObserved 0x9000#32 (replicateLanes .word 7#32) .word true true) = true) :=
  ⟨⟨⟨rfl, rfl, rfl, rfl⟩, by decide +kernel, rfl, rfl, by decide +kernel, by decide +kernel, by decide +kernel⟩,
    ⟨rfl, rfl, rfl, rfl⟩, ready_of_plain _ _ _ rfl rfl (by simp), rfl, by decide +kernel, by decide +kernel⟩

theorem witness_DebuggerRegisters :
    ({ svc with dbg := { svc.dbg with halted := true } } : State).dbg.halted = true ∧
      ({ svc with env := [.iceRead 0b01000#5] } : State).env = .iceRead 0b01000#5 :: [] ∧
      ({ svc with env := [.iceWrite 0b01000#5 1#32] } : State).env = .iceWrite 0b01000#5 1#32 :: [] ∧
      (∀ rw : BitVec 1, ({ svc with tap := { svc.tap with chain2 := rw ++ 0b01000#5 ++ 1#32 } } : State).tap.chain2 =
        rw ++ 0b01000#5 ++ 1#32) ∧
      (∀ rw : BitVec 1, ({ svc with tap := { svc.tap with chain15 := rw ++ 0b1111#4 ++ 1#32 } } : State).tap.chain15 =
        rw ++ 0b1111#4 ++ 1#32) ∧ 11 ≤ (0b1011#4 : BitVec 4).toNat ∧ svc.pins.dbgen = true :=
  ⟨rfl, rfl, rfl, fun _ => rfl, fun _ => rfl, by decide, rfl⟩

/-- INTEST with scan chain 1, on a running core. -/
def inTest : State := { svc with tap := { svc.tap with ir := 0b1100#4, scanSel := 1#4, parallel1 := 0x1CAFE0001#33 } }

theorem witness_TapController :
    ({ svc with env := [.ntrst] } : State).env = .ntrst :: [] ∧
      ({ svc with tap := { svc.tap with state := .captureIr } } : State).tap.state = .captureIr ∧
      svc.pins.dbgtcken = true ∧ svc.tap.ir = 0b1110#4 ∧
      ({ svc with pins := { svc.pins with dbgtcken := false } } : State).pins.dbgtcken = false ∧
      inTest.dbg.halted = false ∧ inTest.tap.ir = 0b1100#4 ∧ inTest.tap.scanSel = 1#4 :=
  ⟨rfl, rfl, rfl, rfl, rfl, rfl, rfl, rfl⟩

/-- Supervisor mode in debug state, with bit 33 scanned in, a word that waits for RESTART, and the next event. -/
def inDebug (bit33 : Bool) (pending : Option Word) (e : EnvEvent) : State :=
  { svc with dbg := { svc.dbg with halted := true, prevBit33 := bit33, pending := pending, dataIn := [7#32] }, env := [e] }

/-- The state with HCLKEN Low. -/
def unclocked (s : State) : State := { s with pins := { s.pins with hclken := false } }

/-- Whether an instruction completes and has made a transfer on the bus. -/
def usesBus (r : Result) : Bool :=
  match r with
  | .next t => !t.bus.isEmpty
  | .fault _ => false
  | .refused _ => false

/-- MOV r0, r1 inserted, with and without bit 33 before it; LDR r0, [r1] that waits, with HCLKEN High and Low; a branch; a core that is
not in debug state, and SWI. -/
theorem witness_InsertionAndRestart :
    (Debugging (inDebug false none (.insert false 0xE1A00001#32 [])) (.insert false 0xE1A00001#32 []) [] ∧
      Debugging (inDebug true none (.insert false 0xE1A00001#32 [])) (.insert false 0xE1A00001#32 []) [] ∧
      (inDebug false none .tick).dbg.skip = 0 ∧
      (inDebug false none .tick).insertedInstr 0xE1A00001#32 = some (.movShift .al false 0#4 0#5 .lsl 1#4) ∧
      goesOn (exec (.movShift .al false 0#4 0#5 .lsl 1#4)
        (((atEvent (inDebug false none .tick) []).showScanned 0xE1A00001#32).insertState false 0xE1A00001#32 [])) = true) ∧
    ((inDebug false none .tick).debugSpeed = true ∧ (inDebug false none .tick).dbg.dataIn = 7#32 :: []) ∧
    (Debugging (inDebug false (some 0xE5910000#32) .restart) .restart [] ∧
      Debugging (unclocked (inDebug false (some 0xE5910000#32) .restart)) .restart [] ∧
      (inDebug false (some 0xE5910000#32) .restart).insertedInstr 0xE5910000#32 =
        some (.ldrImmPre .al true false 1#4 0#4 0#12) ∧
      (∀ s ∈ [inDebug false (some 0xE5910000#32) .restart, unclocked (inDebug false (some 0xE5910000#32) .restart)],
        usesBus (exec (.ldrImmPre .al true false 1#4 0#4 0#12)
          { (atEvent s []).restartTap.beginInserted 0xE5910000#32 with
            dbg := { ((atEvent s []).restartTap.beginInserted 0xE5910000#32).dbg with systemSpeed := true } }) = true)) ∧
    (Debugging (inDebug false (some 0xEAFFFFFE#32) .restart) .restart [] ∧
      (inDebug false (some 0xEAFFFFFE#32) .restart).insertedInstr 0xEAFFFFFE#32 = some (.b .al 0xFFFFFE#24)) ∧
    (({ svc with env := [.insert false 0#32 []] } : State).dbg.halted = false ∧
      (inDebug false none .tick).insertedInstr 0xEF000000#32 = none ∧
      (inDebug false none .tick).decodeBits (instrBits false false 0x8000#32 0xEF000000#32) = .ok (.swi .al 0#24)) :=
  ⟨⟨⟨rfl, rfl, rfl, rfl, rfl⟩, ⟨rfl, rfl, rfl, rfl, rfl⟩, rfl, rfl, by decide +kernel⟩, ⟨rfl, rfl⟩,
    ⟨⟨rfl, rfl, rfl, rfl, rfl⟩, ⟨rfl, rfl, rfl, rfl, rfl⟩, rfl, by decide +kernel⟩, ⟨⟨rfl, rfl, rfl, rfl, rfl⟩, rfl⟩,
    rfl, by decide +kernel, rfl⟩

theorem witness_StepKeepsTheInvariant : State.Inv moveOne ∧ goesOn (step moveOne) = true :=
  ⟨⟨by decide +kernel, by decide +kernel, by decide +kernel, rfl⟩, by decide +kernel⟩

theorem witness_UserModeIsConfined :
    CoreRuns (usr.withFetchWord 32 0xEF000011) ∧ (usr.withFetchWord 32 0xEF000011).cpsr.m = modeUsr ∧
      goesOn (step (usr.withFetchWord 32 0xEF000011)) = true :=
  ⟨⟨rfl, rfl, rfl, rfl⟩, rfl, by decide +kernel⟩

/-! More single steps. -/

/-- R713: in INTEST the core takes its data from the parallel register of scan chain 1. -/
theorem test_intest_load :
    (match exec (.ldrImmPre .al true false 1#4 0#4 0#12) inTest with
      | .next t => some t.gpr[(0 : Fin 30)]
      | .fault _ => none
      | .refused _ => none) = some 0xCAFE0001#32 := by
  decide +kernel

/-- R709: CAPTURE-DR in INTEST takes what the system applies to an input cell, not what the core reads from it. -/
theorem test_intest_capture :
    (match exec (.ldrImmPre .al true false 1#4 0#4 0#12) inTest with
      | .next t => some ((captureDr t).tap.chain1.extractLsb' 0 32)
      | .fault _ => none
      | .refused _ => none) = some 0x44332211#32 := by
  decide +kernel

/-- R449: a coprocessor that restricts an instruction judges it by the mode of its fetch. -/
theorem test_sampled_privilege :
    let at6 := fun (fetched : Bool) => { attached with
      cpsr := usr.cpsr, queue := [⟨0x8000#32, 0#32, 0#32, .ok, false, fetched⟩] }
    let mode := fun (r : Result) => match r with
      | .next t => some t.cpsr.m
      | .fault _ => none
      | .refused _ => none
    (mode (exec (.cdp .al 0#4 0#4 0#4 6#4 0#3 0#4) (at6 true)), mode (exec (.cdp .al 0#4 0#4 0#4 6#4 0#3 0#4) (at6 false))) =
      (some modeUsr, some modeUnd) := by
  decide +kernel

/-- R718: with HCLKEN Low a restarted load waits with DBGACK Low; the step after HCLKEN has risen does it. -/
theorem test_restart_waits_for_hclken :
    (match step (unclocked (inDebug false (some 0xE5910000#32) .restart)) with
      | .next t =>
        match coreStep { t with pins := svc.pins } with
        | .next u => some (t.dbgack, t.gpr[(0 : Fin 30)], u.dbgack, u.gpr[(0 : Fin 30)])
        | .fault _ => none
        | .refused _ => none
      | .fault _ => none
      | .refused _ => none) = some (false, 0#32, true, 0x44332211#32) := by
  decide +kernel

/-- R697, R718: while a restarted load waits at system speed for HCLKEN, DBGACK is Low and IFEN High. -/
theorem test_ifen_at_system_speed :
    (match step (unclocked (inDebug false (some 0xE5910000#32) .restart)) with
      | .next t => some (t.dbgack, t.ifen)
      | .fault _ => none
      | .refused _ => none) = some (false, true) := by
  decide +kernel

/-- R718, R727: an inserted word shows on the ETM outputs as an instruction fetch without a memory request. -/
theorem test_inserted_word_on_etm :
    (match step (inDebug false none (.insert false 0xE1A00001#32 [])) with
      | .next t => t.trace.accesses.map (fun a => (a.request, a.nOpc, a.nRw, a.data))
      | .fault _ => []
      | .refused _ => []) = [(false, false, false, 0xE1A00001#32)] := by
  decide +kernel

/-- R664, D8: a watchpointed return to an illegal mode leaves the core stuck, not in debug state. -/
theorem test_illegal_mode_after_watchpoint :
    (match step { watchedReturn with spsrSvc := { svc.cpsr with m := 0#5 } } with
      | .next t =>
        match step t with
        | .fault .illegalMode => some t.dbg.halted
        | _ => none
      | .fault _ => none
      | .refused _ => none) = some false := by
  decide +kernel

/-- R716: with scan chain 0 selected DBGTDO is DBGSDOUT. -/
theorem test_scan_chain_0 :
    (match tapClock { svc with
        tap := { svc.tap with state := .shiftDr, ir := 0b1100#4 }, pins := { svc.pins with dbgsdout := true } } false true with
      | .next t => some (t.tap.tdo, t.dbgShift, t.dbgSdIn, t.dbgIntest, t.dbgCapture, t.dbgNTdoEn)
      | .fault _ => none
      | .refused _ => none) = some (true, true, true, true, false, false) := by
  decide +kernel

/-- R768: another master writes between the two transfers of an LDM, so that only the second sees it. -/
theorem test_master_writes_between_transfers :
    (match exec (.ldm .al false true false 1#4 0x000C#16)
        { svc with masters := [[], [⟨0x9000#32, 0xEE#8⟩, ⟨0x9004#32, 0xFF#8⟩]] } with
      | .next t => some (t.gpr[(2 : Fin 30)], t.gpr[(3 : Fin 30)], t.byteAt 0x9000#32)
      | .fault _ => none
      | .refused _ => none) = some (0x44332211#32, 0x887766FF#32, 0xEE#8) := by
  decide +kernel

/-- R742: an STM abandoned after one transfer has stored one word. -/
theorem test_abandoned_store_multiple :
    (match runEvent (.hresetDuring 4 4) (State.withFetchWord svc 32 0xE8810006) with
      | .next t => some (t.memoryWord 0x9000#32, t.memoryWord 0x9004#32, t.cpsr.m)
      | .fault _ => none
      | .refused _ => none) = some (0x9000#32, 0x88776655#32, modeSvc) := by
  decide +kernel

/-- R727, R742: the accesses of the abandoned step that the ETM saw stay on its outputs. -/
theorem test_abandoned_step_on_etm :
    (match runEvent (.hresetDuring 4 5) (State.withFetchWord svc 32 0xE8810006) with
      | .next t => (t.trace.accesses.filter (fun a => a.nRw)).map (fun a => (a.nOpc, a.addr, a.data))
      | .fault _ => []
      | .refused _ => []) = [(true, 0x9000#32, 0x9000#32), (true, 0x9004#32, 4#32)] := by
  decide +kernel

/-- R742: HRESETn on a core that waits at system speed resets it, and it is in debug state no more. -/
theorem test_reset_at_system_speed :
    (match step (haltedAt true .hreset) with
      | .next t => some (t.pc, t.cpsr.m, t.dbg.halted, t.dbg.systemSpeed)
      | .fault _ => none
      | .refused _ => none) = some (0#32, modeSvc, false, false) := by
  decide +kernel

/-- R447: with A clear an LDC from an unaligned base reads at the aligned address. -/
theorem test_ldc_address_is_aligned :
    (match exec (.ldc .al true true false false 1#4 0#4 4#4 0#8)
        { svc with gpr := svc.gpr.set (1 : Fin 30) 0x9002#32, copros := [⟨4#4, [⟨.accept 0 [], false⟩], []⟩] } with
      | .next t => t.trace.accesses.map (fun a => a.addr)
      | .fault _ => []
      | .refused _ => []) = [0x9000#32] := by
  decide +kernel

/-- R111, R411: a misaligned word read with A clear is a transfer of the aligned word, and HADDR keeps its low bits. -/
theorem test_transfer_address_is_aligned :
    (match exec (.ldrImmPre .al true false 1#4 2#4 2#12) svc with
      | .next t => t.bus.map (fun x => (x.addr, x.haddr))
      | .fault _ => []
      | .refused _ => []) = [(0x9000#32, 0x9002#32)] := by
  decide +kernel

/-- R454, R727: the word of an MCR stands on the data bus in a write cycle. -/
theorem test_mcr_word_on_etm :
    (match step (State.withFetchWord (start 0x13#32 0x8000#32 [(0#4, 0x06000000#32)]) 32 0xEE0D0F10) with
      | .next t => (t.trace.accesses.filter (fun a => a.nOpc)).map (fun a => (a.request, a.nRw, a.data))
      | .fault _ => []
      | .refused _ => []) = [(false, true, 0x06000000#32)] := by
  decide +kernel

/-- R454, R727: the word of an MRC stands on the data bus in a read cycle: coprocessor 4 sends 0x80000000. -/
theorem test_mrc_word_on_etm :
    (match step (State.withFetchWord { svc with copros := [⟨4#4, [⟨.accept 0x80000000#32 [], false⟩], []⟩] } 32 0xEE100410) with
      | .next t => (t.trace.accesses.filter (fun a => a.nOpc)).map (fun a => (a.request, a.nRw, a.data))
      | .fault _ => []
      | .refused _ => []) = [(false, false, 0x80000000#32)] := by
  decide +kernel

/-- R725: the ETM outputs follow the core with ETMEN High and are held with it Low. -/
theorem test_etm_gate :
    ((({ svc with pins := { svc.pins with etmen := true }, procIdWr := true } : State).driveEtm).trace.etm.procIdWr,
      (({ svc with procIdWr := true } : State).driveEtm).trace.etm.procIdWr) = (true, false) := by
  decide +kernel

/-- R717: the two words after an inserted instruction that wrote the PC are discarded. -/
theorem test_inserted_nops_after_branch :
    (match insertInstr { thumb with dbg := { thumb.dbg with halted := true } } false 0x47784778#32 [] with
      | .next t => some (t.cpsr.t, t.dbg.skip)
      | .fault _ => none
      | .refused _ => none) = some (false, 2) ∧
    (match insertInstr { svc with dbg := { svc.dbg with halted := true, skip := 2 } } false 0x46C046C0#32 [] with
      | .next t => some (t.gpr == svc.gpr, t.dbg.skip)
      | .fault _ => none
      | .refused _ => none) = some (true, 1) := by
  constructor <;> decide +kernel
end Sys2Proof.Tests
end

section
/-! SUPPORT. What the execution of an instruction can do, said once for all of them. -/

namespace Sys2Proof.Machine

/-- What the execution of an instruction can do. -/
inductive Executed (s : State) : State → Prop where
  /-- A step of memory, then registers, flags, and the next instruction. -/
  | next {u : State} (hu : MemoryStep s u) (g : Vector Word 30) {p : Psr} (hp : p.sameControl s.cpsr) (d : Dcc)
      (cs : List Copro) (b : Bool) (n : Nat) :
      Executed s (State.advance { u with gpr := g, cpsr := p, dcc := d, copros := cs, bankHazardNext := b, draws := n })
  /-- A branch, which may select the state. -/
  | branch {u : State} (hu : MemoryStep s u) (g : Vector Word 30) (t : Bool) (a : Word) :
      Executed s (State.branchTo { u with gpr := g, cpsr := { u.cpsr with t := t } } a)
  /-- A branch that restores the CPSR from the SPSR of the mode. -/
  | restore {u : State} (hu : MemoryStep s u) (g : Vector Word 30) {q : Psr} (hq : u.spsrOf u.cpsr.m = some q) (a : Word) :
      Executed s { u with gpr := g, cpsr := q, pc := alignPc q.t a, queue := [] }
  /-- An exception is taken. -/
  | exception {u : State} (hu : MemoryStep s u) (g : Vector Word 30) (cs : List Copro) (e : Exception) :
      Executed s (State.takeException { u with gpr := g, copros := cs } e)
  /-- MSR of the SPSR. -/
  | spsr (p : Psr) : Executed s (s.setSpsrOf s.cpsr.m p).advance
  /-- MSR of the CPSR. -/
  | cpsr {p : Psr} {mask : BitVec 4} {v : Word} (ht : p.t = s.cpsr.t)
      (hp : p = mergePsr s.cpsr
        (if s.privileged || s.dbg.halted then fieldBytes mask else fieldBytes mask &&& 0xFF000000#32) v) :
      Executed s (s.setCpsr p).advance
  /-- An operation on CP15, in a privileged mode. -/
  | cp15 {u t : State} (hs : s.privileged = true) (hu : RegisterStep s u) (ht : Wrote u t) : Executed s t
  /-- A wait for a busy coprocessor. -/
  | wait (cs : List Copro) : Executed s { s with copros := cs }

namespace Executed

theorem of_wrote {s t : State} (h : Wrote s t) : Executed s t := by
  obtain ⟨g, p, n, hp, rfl⟩ := h
  exact .next (.refl s) g hp s.dcc s.copros s.bankHazardNext n

theorem advance (s : State) : Executed s s.advance := of_wrote (wrote_advance s)

theorem branchTo (s : State) (a : Word) : Executed s (s.branchTo a) := .branch (.refl s) s.gpr s.cpsr.t a

theorem takeException (s : State) (e : Exception) : Executed s (s.takeException e) :=
  .exception (.refl s) s.gpr s.copros e

end Executed

theorem MemoryStep.sameControl {s u : State} (h : MemoryStep s u) : u.cpsr.sameControl s.cpsr := by
  rw [h.cpsr]; exact ⟨rfl, rfl, rfl, rfl⟩

theorem executed_memory {s u : State} (h : MemoryStep s u) (g : Vector Word 30) (cs : List Copro) :
    Executed s (State.advance { u with gpr := g, copros := cs }) :=
  .next h g h.sameControl u.dcc cs u.bankHazardNext u.draws

/-! The shared operations. -/

theorem executed_dpLogical (sets : Bool) (rd : RegNum) (r : Word) (o : Shifted) (s : State) :
    Ends (Executed s) (dpLogical sets rd r o s) :=
  ends_dpLogical (fun _ a h => .restore (.refl s) s.gpr h a) (Executed.branchTo s) (fun _ => Executed.of_wrote)

theorem executed_dpArith (sets : Bool) (rd : RegNum) (x : Sum) (s : State) :
    Ends (Executed s) (dpArith sets rd x s) :=
  ends_dpArith (fun _ a h => .restore (.refl s) s.gpr h a) (Executed.branchTo s) (fun _ => Executed.of_wrote)

theorem executed_testLogical (r : Word) (c : Bool) (s : State) :
    Ends (Executed s) (dpTest (psrLogical s.cpsr r c) s) := ends_testLogical fun _ => Executed.of_wrote

theorem executed_testArith (x : Sum) (s : State) : Ends (Executed s) (dpTest (psrArith s.cpsr x) s) :=
  ends_testArith fun _ => Executed.of_wrote

theorem executed_mulWrite (sets : Bool) (rd : RegNum) (r : Word) (s : State) :
    Ends (Executed s) (mulWrite sets rd r s) := ends_mulWrite fun _ => Executed.of_wrote

theorem executed_mulLongWrite (sets : Bool) (rdHi rdLo : RegNum) (r : BitVec 64) (s : State) :
    Ends (Executed s) (mulLongWrite sets rdHi rdLo r s) := ends_mulLongWrite fun _ => Executed.of_wrote

theorem executed_writeStatus (r : Bool) (mask : BitVec 4) (v : Word) (s : State) :
    Ends (Executed s) (writeStatus r mask v s) :=
  ends_writeStatus Executed.spsr (fun _ => Executed.cpsr)

theorem executed_mrs (c : Cond) (r : Bool) (rd : RegNum) (s : State) : Ends (Executed s) (execMrs c r rd s) := by
  refine ends_conditionally (.advance s) (ends_guardPc ?_)
  split
  · exact ends_refused
  · exact ends_next (.of_wrote (wrote_setReg s _ _))

theorem executed_branchExchange (v : Word) (s : State) : Ends (Executed s) (branchExchange v s) :=
  ends_next (.branch (.refl s) s.gpr (v.getLsbD 0) v)

theorem executed_loadSingle (size : Size) (signed priv : Bool) (m : Addressing) (rn rd : RegNum) (s : State) :
    Ends (Executed s) (loadSingle size signed priv m rn rd s) :=
  ends_loadSingle (fun u g h => executed_memory h g u.copros) (fun u g a h => .branch h g u.cpsr.t a)
    (fun u g h => .exception h g u.copros .dataAbort)

theorem executed_storeSingle (size : Size) (priv : Bool) (m : Addressing) (rn : RegNum) (v : Word) (s : State) :
    Ends (Executed s) (storeSingle size priv m rn v s) :=
  ends_storeSingle (fun u g h => executed_memory h g u.copros) (fun u g h => .exception h g u.copros .dataAbort)

theorem executed_checkedLoad (size : Size) (signed priv : Bool) (m : Addressing) (rn rd : RegNum) (s : State) :
    Ends (Executed s) (checkedLoad size signed priv m rn rd s) := ends_guardBase (executed_loadSingle _ _ _ _ _ _ _)

theorem executed_checkedStore (size : Size) (priv : Bool) (m : Addressing) (rn rd : RegNum) (s : State) :
    Ends (Executed s) (checkedStore size priv m rn rd s) := ends_guardBase (executed_storeSingle _ _ _ _ _ _)

theorem executed_swapWith (size : Size) (rn rd rm : RegNum) (s : State) :
    Ends (Executed s) (swapWith size rn rd rm s) :=
  ends_swapWith (fun u g h => executed_memory h g u.copros) (fun u g h => .exception h g u.copros .dataAbort)

theorem executed_loadBlock (user restore p u w : Bool) (rn : RegNum) (regs : List RegNum) (s : State) :
    Ends (Executed s) (loadBlock user restore p u w rn regs s) := by
  refine ends_loadBlock (fun t g h => ?_) (fun t g a h => .branch h g t.cpsr.t a)
    (fun _ t g q a h hq => .restore h g hq a) (fun t g h => .exception h g t.copros .dataAbort)
  cases user
  · exact executed_memory h g t.copros
  · exact .next h g h.sameControl t.dcc t.copros true t.draws

theorem executed_storeBlock (user p u w : Bool) (rn : RegNum) (regs : List RegNum) (s : State) :
    Ends (Executed s) (storeBlock user p u w rn regs s) :=
  ends_storeBlock (fun t g h => executed_memory h g t.copros) (fun t g h => .exception h g t.copros .dataAbort)

theorem executed_toCp15 (c : Cond) (rd : RegNum) {op : CoproWrite} (hop : WriteKeeps op) (s : State) :
    Ends (Executed s) (transferToCp15 c rd op s) :=
  ends_transferToCp15 (.advance s) (fun v hs => .cp15 hs (hop v s) (wrote_advance _)) (.takeException s .undefined)

theorem executed_fromCp15 (c : Cond) (rd : RegNum) {op : CoproRead} (hop : ReadKeeps op) (s : State) :
    Ends (Executed s) (transferFromCp15 c rd op s) :=
  ends_transferFromCp15 (.advance s) (fun hs _ ht => .cp15 hs (hop s) ht) (.takeException s .undefined)

/-- A register write that leaves all but the communications channel and DbgAbt. -/
def WritesDcc (op : CoproWrite) : Prop := ∀ v s, ∃ d, op v s = { s with dcc := d }

/-- A register read likewise, which may draw a free value. -/
def ReadsDcc (op : CoproRead) : Prop := ∀ s, ∃ d n, (op s).2 = { s with dcc := d, draws := n }

theorem cp14Write_writesDcc (crn : BitVec 4) : WritesDcc (cp14Write crn) := by
  unfold cp14Write
  split <;> exact fun _ _ => ⟨_, rfl⟩

theorem cp14Read_readsDcc (crn : BitVec 4) : ReadsDcc (cp14Read crn) := by
  unfold cp14Read
  split <;> exact fun _ => ⟨_, _, rfl⟩

theorem executed_toCp14 (c : Cond) (rd : RegNum) {op : CoproWrite} (hop : WritesDcc op) (s : State) :
    Ends (Executed s) (transferToCp14 c rd op s) := by
  refine ends_transferToCp14 (.advance s) fun v => ?_
  obtain ⟨d, e⟩ := hop v s
  rw [e]
  exact .next (.refl s) s.gpr ⟨rfl, rfl, rfl, rfl⟩ d s.copros s.bankHazardNext s.draws

theorem executed_fromCp14 (c : Cond) (rd : RegNum) {op : CoproRead} (hop : ReadsDcc op) (s : State) :
    Ends (Executed s) (transferFromCp14 c rd op s) := by
  refine ends_transferFromCp14 (.advance s) fun t ht => ?_
  obtain ⟨d, n, e⟩ := hop s
  rw [e] at ht
  obtain ⟨g, p, k, hp, rfl⟩ := ht
  exact .next (.refl s) g hp d s.copros s.bankHazardNext k

theorem executed_withCoprocessor {cp : BitVec 4} {s : State} {body : Word → List Word → State → Result}
    (h : ∀ v ws cs, Ends (Executed s) (body v ws { s with copros := cs })) :
    Ends (Executed s) (withCoprocessor cp s body) :=
  ends_withCoprocessor (fun cs => .exception (.refl s) s.gpr cs .undefined) Executed.wait h

/-- What follows a coprocessor's answer is a step of memory with the coprocessors changed. -/
theorem executed_copFinish {m : Addressing} {rn : RegNum} {r : CopTransfer} {s : State} {cs : List Copro}
    (h : CopTransfer.From { s with copros := cs } r) : Ends (Executed s) (copFinish m rn r) := by
  have back : ∀ t, MemoryStep { s with copros := cs } t → MemoryStep s { t with copros := s.copros } :=
    fun _ => MemoryStep.onCopros cs
  exact ends_copFinish h (fun t g ds ht => executed_memory (back t ht) g ds)
    (fun t g ds ht => .exception (back t ht) g ds .dataAbort)

theorem executed_thumbWrite (rd : RegNum) (v : Word) (s : State) : Ends (Executed s) (thumbWrite rd v s) :=
  ends_next (.of_wrote (wrote_setReg s rd v))

theorem executed_thumbCondBranch (c : Cond) (off8 : BitVec 8) (s : State) :
    Ends (Executed s) (thumbCondBranch c off8 s) :=
  ends_ite (fun _ => ends_next (.branchTo s _)) (fun _ => ends_next (.advance s))

theorem executed_thumbLoad (size : Size) (signed : Bool) (a : Word) (rd : LowReg) (s : State) :
    Ends (Executed s) (thumbLoad size signed a rd s) := executed_loadSingle _ _ _ _ _ _ _

theorem executed_thumbStore (size : Size) (a : Word) (rd : LowReg) (s : State) :
    Ends (Executed s) (thumbStore size a rd s) := executed_storeSingle _ _ _ _ _ _

/-! Every instruction. -/

/-- Each instruction ends as an operation that it shares with others does. Where a CP15 or CP14 operation is named by its arm alone, `by
exact` lets the arm fix it before its frame is checked. -/
theorem exec_executed (i : Instr) (s : State) : Ends (Executed s) (exec i s) := by
  have pass {c : Cond} {body : Result} (h : Ends (Executed s) body) : Ends (Executed s) (conditionally c s body) :=
    ends_conditionally (.advance s) h
  cases i with
  | andImm | andShift | eorImm | eorShift | orrImm | orrShift | movImm | movShift | bicImm | bicShift | mvnImm | mvnShift =>
    exact pass (executed_dpLogical _ _ _ _ _)
  | andRegShift | eorRegShift | orrRegShift | movRegShift | bicRegShift | mvnRegShift =>
    exact pass (ends_guardPc (executed_dpLogical _ _ _ _ _))
  | subImm | subShift | rsbImm | rsbShift | addImm | addShift | adcImm | adcShift | sbcImm | sbcShift | rscImm | rscShift =>
    exact pass (executed_dpArith _ _ _ _)
  | subRegShift | rsbRegShift | addRegShift | adcRegShift | sbcRegShift | rscRegShift =>
    exact pass (ends_guardPc (executed_dpArith _ _ _ _))
  | tstImm | tstShift | teqImm | teqShift => exact pass (executed_testLogical _ _ _)
  | tstRegShift | teqRegShift => exact pass (ends_guardPc (executed_testLogical _ _ _))
  | cmpImm | cmpShift | cmnImm | cmnShift => exact pass (executed_testArith _ _)
  | cmpRegShift | cmnRegShift => exact pass (ends_guardPc (executed_testArith _ _))
  | mul | mla => exact pass (ends_guardPc (ends_guardClash (executed_mulWrite _ _ _ _)))
  | umull | umlal | smull | smlal => exact pass (ends_guardLong (executed_mulLongWrite _ _ _ _ _))
  | mrs => exact executed_mrs _ _ _ s
  | msrImm | msrReg => exact pass (executed_writeStatus _ _ _ _)
  | bx => exact pass (executed_branchExchange _ _)
  | ldrImmPre | ldrImmPost => exact pass (executed_checkedLoad _ _ _ _ _ _ _)
  | ldrtImm | ldrRegPre | ldrRegPost | ldrtReg | ldrbImmPre | ldrbImmPost | ldrbtImm | ldrbRegPre | ldrbRegPost | ldrbtReg =>
    exact pass (ends_guardPc (executed_checkedLoad _ _ _ _ _ _ _))
  | strImmPre | strImmPost | strtImm => exact pass (executed_checkedStore _ _ _ _ _ _)
  | strRegPre | strRegPost | strtReg | strbImmPre | strbImmPost | strbtImm | strbRegPre | strbRegPost | strbtReg =>
    exact pass (ends_guardPc (executed_checkedStore _ _ _ _ _ _))
  | ldrhImm | ldrhReg | ldrsbImm | ldrsbReg | ldrshImm | ldrshReg =>
    exact pass (ends_guardHalfForm (ends_guardPc (executed_checkedLoad _ _ _ _ _ _ _)))
  | strhImm | strhReg => exact pass (ends_guardHalfForm (ends_guardPc (executed_checkedStore _ _ _ _ _ _)))
  | ldm => exact pass (ends_guardBlock (executed_loadBlock _ _ _ _ _ _ _ _))
  | stm => exact pass (ends_guardBlock (executed_storeBlock _ _ _ _ _ _ _))
  | ldmUser => exact pass (ends_guardBlock (ends_guardClash (ends_guardUserBank (executed_loadBlock _ _ _ _ _ _ _ _))))
  | ldmRestore => exact pass (ends_guardBlock (ends_guardSpsr fun _ => executed_loadBlock _ _ _ _ _ _ _ _))
  | stmUser => exact pass (ends_guardBlock (ends_guardClash (ends_guardUserBank (executed_storeBlock _ _ _ _ _ _ _))))
  | swp | swpb => exact pass (ends_guardSwap (executed_swapWith _ _ _ _ _))
  | b => exact pass (ends_next (.branchTo s _))
  | bl off24 => exact pass (ends_next (.branch (.refl s) (s.setReg 14#4 (s.pc + 4#32)).gpr s.cpsr.t _))
  | swi | undefined => exact pass (ends_next (.takeException s _))
  | cdp =>
    exact pass (executed_withCoprocessor fun _ _ cs => ends_next (executed_memory (.refl s) s.gpr cs))
  | mcr cond op1 crn rd cp op2 crm =>
    refine ends_ite (fun _ => executed_toCp15 _ _ (cp15Write_keeps _ _ _ _) s) fun _ => ?_
    refine ends_ite (fun _ => executed_toCp14 _ _ (cp14Write_writesDcc _) s) fun _ => ?_
    exact pass (executed_withCoprocessor fun _ _ cs =>
      ends_next (executed_memory (.refl s) s.gpr (copReceives cs cp (s.regLate rd))))
  | mrc cond op1 crn rd cp op2 crm =>
    refine ends_ite (fun _ => executed_fromCp15 _ _ (cp15Read_keeps _ _ _ _) s) fun _ => ?_
    refine ends_ite (fun _ => executed_fromCp14 _ _ (cp14Read_readsDcc _) s) fun _ => ?_
    refine pass (executed_withCoprocessor fun v _ cs => ends_mrcWrite ?_)
    rintro t ⟨g, p, n, hp, rfl⟩
    exact .next (.refl s) g hp s.dcc cs s.bankHazardNext n
  | ldc =>
    exact pass (executed_withCoprocessor fun _ _ cs =>
      ends_guardPc (executed_copFinish (copLoads_from _ _ _ (.refl { s with copros := cs }))))
  | stc =>
    exact pass (executed_withCoprocessor fun _ _ cs =>
      ends_guardPc (executed_copFinish (copStores_from _ _ _ (.refl { s with copros := cs }))))
  | mrcId | mrcTtb | mrcDacr | mrcFar | mrcTlbLockdown | mrcProcId | mrcC15C | mrcC15M | mrcC15MAlt =>
    exact executed_fromCp15 _ _ (by exact fun s => RegisterStep.refl s) s
  | mrcControl | mrcFsr | mrcPid | mrcTestState =>
    exact executed_fromCp15 _ _ (by exact fun s => freeBits_keeps _ _ s) s
  | mcrControl | mcrTtb | mcrDacr | mcrFsr | mcrFar | mcrPid | mcrTestState | mcrC15C =>
    exact executed_toCp15 _ _ (by exact fun _ s => setCp15_regs s _) s
  | mcrInvCache | mcrCacheBase0 | mcrCacheVictim0 | mcrCacheBase1 | mcrCacheVictim1 =>
    exact executed_toCp15 _ _ (by exact fun _ s => cacheWritten_regs s _) s
  | mcrInvTlbC5 | mcrInvTlbEntryC5 | mcrInvTlbC6 | mcrInvTlbEntryC6 | mcrInvTlbC7 | mcrInvTlbEntryC7 | mcrTlbLockdown =>
    exact executed_toCp15 _ _ (by exact fun _ s => tlbWritten_regs s _) s
  | mcrProcId => exact executed_toCp15 _ _ writeProcId_regs s
  | mcrCacheCamRead => exact executed_toCp15 _ _ cacheCamRead_regs s
  | mcrCacheCamWrite => exact executed_toCp15 _ _ cacheCamWrite_regs s
  | mcrCacheRamRead => exact executed_toCp15 _ _ cacheRamRead_regs s
  | mcrCacheRamWrite => exact executed_toCp15 _ _ cacheRamWrite_regs s
  | mcrCacheCamMatch => exact executed_toCp15 _ _ cacheCamMatch_regs s
  | mcrTlbCamRead => exact executed_toCp15 _ _ tlbCamRead_regs s
  | mcrTlbCamWrite => exact executed_toCp15 _ _ tlbCamWrite_regs s
  | mcrTlbRam1Read => exact executed_toCp15 _ _ tlbRam1Read_regs s
  | mcrTlbRam1Write => exact executed_toCp15 _ _ tlbRam1Write_regs s
  | mcrTlbRam2Read => exact executed_toCp15 _ _ tlbRam2Read_regs s
  | mcrTlbRam2Write => exact executed_toCp15 _ _ tlbRam2Write_regs s
  | mcrTlbCamMatch => exact executed_toCp15 _ _ tlbCamMatch_regs s
  | mrcDccControl | mrcDccData | mrcAbortStatus => exact executed_fromCp14 _ _ (by exact fun _ => ⟨_, _, rfl⟩) s
  | mcrDccData | mcrAbortStatus => exact executed_toCp14 _ _ (by exact fun _ _ => ⟨_, rfl⟩) s
  | tLslImm | tLsrImm | tAsrImm | tMovImm | tAnd | tEor | tLslReg | tLsrReg | tAsrReg | tRorReg | tOrr | tBic | tMvn =>
    exact executed_dpLogical _ _ _ _ _
  | tAddReg | tSubReg | tAddImm3 | tSubImm3 | tAddImm8 | tSubImm8 | tAdc | tSbc | tNeg => exact executed_dpArith _ _ _ _
  | tTst => exact executed_testLogical _ _ _
  | tCmpImm | tCmp | tCmn => exact executed_testArith _ _
  | tMul rs rd =>
    show Ends (Executed s) (execTMul rs rd s)
    exact executed_mulWrite _ _ _ _
  | tAddHi => exact ends_guardHi (executed_dpArith _ _ _ _)
  | tCmpHi => exact ends_guardHi (executed_testArith _ _)
  | tMovHi => exact ends_guardHi (executed_dpLogical _ _ _ _ _)
  | tBx => exact executed_branchExchange _ _
  | tLdrPc | tLdrReg | tLdrbReg | tLdrhReg | tLdrsbReg | tLdrshReg | tLdrImm | tLdrbImm | tLdrhImm | tLdrSp =>
    exact executed_thumbLoad _ _ _ _ _
  | tStrReg | tStrbReg | tStrhReg | tStrImm | tStrbImm | tStrhImm | tStrSp => exact executed_thumbStore _ _ _ _
  | tAddPc | tAddSp | tAddSpImm | tSubSpImm => exact executed_thumbWrite _ _ _
  | tPush r regs =>
    show Ends (Executed s) (execTPush r regs s)
    exact ends_guardBlock (executed_storeBlock _ _ _ _ _ _ _)
  | tStmia => exact ends_guardBlock (executed_storeBlock _ _ _ _ _ _ _)
  | tPop r regs =>
    show Ends (Executed s) (execTPop r regs s)
    exact ends_guardBlock (executed_loadBlock _ _ _ _ _ _ _ _)
  | tLdmia => exact ends_guardBlock (executed_loadBlock _ _ _ _ _ _ _ _)
  | tBeq | tBne | tBcs | tBcc | tBmi | tBpl | tBvs | tBvc | tBhi | tBls | tBge | tBlt | tBgt | tBle =>
    exact executed_thumbCondBranch _ _ _
  | tB => exact ends_next (.branchTo s _)
  | tBlHigh => exact ends_next (.of_wrote (wrote_setReg s _ _))
  | tBlLow off11 => exact ends_next (.branch (.refl s) (s.setReg 14#4 ((s.pc + 2#32) ||| 1#32)).gpr s.cpsr.t _)
  | tUndefCond | tSwi | tUndef11101 | tUndefB1 | tUndefB2 | tUndefB6 | tUndefB8 | tUndefBC =>
    exact ends_next (.takeException s _)
  | tBxH1 => exact ends_refused

end Sys2Proof.Machine
end

section
/-! SUPPORT. What keeps the invariant of the machine: the operations over the PC, memory and registers, and every instruction. -/

namespace Sys2Proof.Machine

/-! Alignment. -/

/-- The low `k` bits of a value cleared. -/
theorem toNat_and_high {w : Nat} (x : BitVec w) (k : Nat) :
    (x &&& BitVec.allOnes w <<< k).toNat = x.toNat / 2 ^ k * 2 ^ k := by
  have shifts : x &&& BitVec.allOnes w <<< k = (x >>> k) <<< k := by
    ext i hi
    by_cases h : i < k
    · simp [h]
    · simp [h, show k + (i - k) = i by omega, BitVec.getLsbD_eq_getElem hi]
  rw [shifts, BitVec.toNat_shiftLeft, BitVec.toNat_ushiftRight, Nat.shiftRight_eq_div_pow, Nat.shiftLeft_eq]
  exact Nat.mod_eq_of_lt (Nat.lt_of_le_of_lt (Nat.div_mul_le_self _ _) x.isLt)

theorem toNat_alignPc_thumb (a : Word) : (alignPc true a).toNat = a.toNat / 2 * 2 := toNat_and_high a 1

theorem toNat_alignPc_arm (a : Word) : (alignPc false a).toNat = a.toNat / 4 * 4 := toNat_and_high a 2

/-- The bits of the PC that the state ignores are 0 exactly if the PC is a multiple of the instruction length (10 R26, R27). -/
theorem pcAligned_iff (s : State) : s.pcAligned = true ↔ s.pc.toNat % s.instrBytes.toNat = 0 := by
  rw [State.pcAligned, beq_iff_eq, ← BitVec.toNat_inj, State.instrBytes]
  cases s.cpsr.t
  · rw [toNat_alignPc_arm]
    show _ ↔ s.pc.toNat % 4 = 0
    omega
  · rw [toNat_alignPc_thumb]
    show _ ↔ s.pc.toNat % 2 = 0
    omega

theorem pcAligned_alignPc (s : State) (a : Word) (h : s.pc = alignPc s.cpsr.t a) : s.pcAligned = true := by
  rw [pcAligned_iff, h, State.instrBytes]
  cases s.cpsr.t
  · rw [toNat_alignPc_arm]
    exact Nat.mul_mod_left _ _
  · rw [toNat_alignPc_thumb]
    exact Nat.mul_mod_left _ _

/-- An aligned PC moved by whole instructions is aligned. -/
theorem aligned_add_instrs {s : State} (h : s.pcAligned = true) (n : Word) :
    (s.pc + s.instrBytes * n).toNat % s.instrBytes.toNat = 0 := by
  rw [pcAligned_iff] at h
  revert h
  rw [State.instrBytes, BitVec.toNat_add, BitVec.toNat_mul]
  cases s.cpsr.t
  · show s.pc.toNat % 4 = 0 → (s.pc.toNat + 4 * n.toNat % 2 ^ 32) % 2 ^ 32 % 4 = 0
    omega
  · show s.pc.toNat % 2 = 0 → (s.pc.toNat + 2 * n.toNat % 2 ^ 32) % 2 ^ 32 % 2 = 0
    omega

/-! What keeps the invariant. -/

namespace State.Inv

/-- The invariant speaks of five parts of the state. -/
theorem of_eq {s t : State} (h : s.Inv) (hm : t.mem = s.mem) (hp : t.pc = s.pc) (ht : t.cpsr.t = s.cpsr.t)
    (hb : t.writeBuffer = s.writeBuffer) (hi : t.ice.ctrl = s.ice.ctrl) : t.Inv := by
  refine ⟨hm ▸ h.memory, ?_, hb ▸ h.buffer, hi ▸ h.control⟩
  rw [State.pcAligned, ht, hp]
  exact h.pc

/-- A PC of its own, aligned for the state that goes with it. -/
theorem jump {s t : State} (h : s.Inv) (hm : t.mem = s.mem) (hp : t.pcAligned = true)
    (hb : t.writeBuffer = s.writeBuffer) (hi : t.ice.ctrl = s.ice.ctrl) : t.Inv :=
  ⟨hm ▸ h.memory, hp, hb ▸ h.buffer, hi ▸ h.control⟩

/-- The PC moves on by whole instructions. -/
theorem skip {s t : State} (h : s.Inv) (n : Word) (hm : t.mem = s.mem) (hp : t.pc = s.pc + s.instrBytes * n)
    (ht : t.cpsr.t = s.cpsr.t) (hb : t.writeBuffer = s.writeBuffer) (hi : t.ice.ctrl = s.ice.ctrl) : t.Inv := by
  refine h.jump hm ?_ hb hi
  rw [pcAligned_iff, hp, show t.instrBytes = s.instrBytes by rw [State.instrBytes, State.instrBytes, ht]]
  exact aligned_add_instrs h.pc n

theorem memoryStep {s t : State} (h : s.Inv) (k : MemoryStep s t) : t.Inv := by
  refine ⟨k.memory h.memory, ?_, k.buffer h.buffer, by rw [k.iceCtrl]; exact h.control⟩
  rw [State.pcAligned, k.cpsr, k.pc]
  exact h.pc

theorem registerStep {s t : State} (h : s.Inv) (k : RegisterStep s t) : t.Inv := by
  obtain ⟨⟨-, hpc, hcpsr, -⟩, -, ⟨hmem, hbuf⟩, ⟨hice, -⟩, -⟩ := k
  exact h.of_eq hmem hpc (by rw [hcpsr]) hbuf (by rw [hice])

theorem advance {s : State} (h : s.Inv) : s.advance.Inv :=
  h.skip 1#32 rfl (by rw [BitVec.mul_one, State.advance_pc]) rfl rfl rfl

theorem branchTo {s : State} (h : s.Inv) (a : Word) : (s.branchTo a).Inv :=
  h.jump rfl (pcAligned_alignPc _ a rfl) rfl rfl

theorem wrote {s t : State} (h : s.Inv) (k : Wrote s t) : t.Inv := by
  obtain ⟨g, p, n, hp, rfl⟩ := k
  obtain ⟨-, ht, -⟩ := hp
  exact State.Inv.advance (h.of_eq rfl rfl ht rfl rfl)

end State.Inv

/-- Writing an SPSR changes SPSRs only. -/
theorem setSpsrOf_eq (s : State) (m : BitVec 5) (p : Psr) : ∃ fiq svc abt irq und, s.setSpsrOf m p =
    { s with spsrFiq := fiq, spsrSvc := svc, spsrAbt := abt, spsrIrq := irq, spsrUnd := und } := by
  unfold State.setSpsrOf
  split_ifs <;> exact ⟨_, _, _, _, _, rfl⟩

theorem State.Inv.setSpsrOf {s : State} (h : s.Inv) (m : BitVec 5) (p : Psr) : (s.setSpsrOf m p).Inv := by
  obtain ⟨_, _, _, _, _, e⟩ := setSpsrOf_eq s m p
  rw [e]
  exact h.of_eq rfl rfl rfl rfl rfl

/-- The vectors are word addresses. -/
theorem vector_aligned (s : State) (e : Exception) : (s.vectorBase + exceptionOffset e).toNat % 4 = 0 := by
  unfold State.vectorBase
  cases s.cp15.v <;> cases e <;> rfl

theorem State.Inv.takeException {s : State} (h : s.Inv) (e : Exception) : (s.takeException e).Inv := by
  unfold State.takeException
  dsimp only
  obtain ⟨_, _, _, _, _, hs⟩ := setSpsrOf_eq (State.setReg { s with cpsr :=
    { s.cpsr with m := exceptionMode e, t := false, i := true, f := s.cpsr.f || (e == .fiq) } } 14#4
    (exceptionLink e s.cpsr.t s.pc)) (exceptionMode e) s.cpsr
  rw [hs]
  exact h.jump rfl ((pcAligned_iff _).mpr (vector_aligned s e)) rfl rfl

/-- An instruction keeps the invariant. -/
theorem Executed.inv {s t : State} (k : Executed s t) (h : s.Inv) : t.Inv := by
  cases k with
  | next hu g hp d cs b n =>
    obtain ⟨-, ht, -⟩ := hp
    exact State.Inv.advance ((h.memoryStep hu).of_eq rfl rfl (by rw [hu.cpsr, ht]) rfl rfl)
  | branch hu g t a => exact (h.memoryStep hu).jump rfl (pcAligned_alignPc _ a rfl) rfl rfl
  | restore hu g hq a => exact (h.memoryStep hu).jump rfl (pcAligned_alignPc _ a rfl) rfl rfl
  | exception hu g cs e =>
    refine State.Inv.takeException ?_ e
    exact (h.memoryStep hu).of_eq rfl rfl rfl rfl rfl
  | spsr p => exact (h.setSpsrOf _ p).advance
  | cpsr ht hp => exact State.Inv.advance (h.of_eq rfl rfl ht rfl rfl)
  | cp15 hs hu ht => exact (h.registerStep hu).wrote ht
  | wait cs => exact h.of_eq rfl rfl rfl rfl rfl

theorem exec_inv {s : State} (h : s.Inv) (i : Instr) : Ends State.Inv (exec i s) :=
  (exec_executed i s).imp fun _ k => k.inv h

end Sys2Proof.Machine
end

section
/-! PROOFS. The invariant along a step of the machine, in the order of the model: the core, the debugger, the TAP controller, the
resets, the events. -/

namespace Sys2Proof.Machine

theorem ends_onNext {P Q : State → Prop} {r : Result} {f : State → State} (h : Ends P r) (hf : ∀ t, P t → Q (f t)) :
    Ends Q (onNext r f) := by
  cases r with
  | next s => exact ends_next (hf s (h s rfl))
  | fault e => exact ends_fault
  | refused e => exact ends_refused

/-! The core. -/

namespace State.Inv

variable {s : State}

theorem fillQueue (h : s.Inv) (n : Nat) : (s.fillQueue n).Inv := by
  induction n generalizing s with
  | zero => exact h
  | succ n ih =>
    unfold State.fillQueue
    split
    · exact ih ((h.memoryStep (nextSlot_step s _)).of_eq rfl rfl rfl rfl rfl)
    · exact h

theorem refill (h : s.Inv) : s.refill.Inv := by
  unfold State.refill
  split
  · exact h
  · exact h.fillQueue 3

theorem takePending (h : s.Inv) : s.takePending.Inv := by
  unfold State.takePending
  split
  · exact h.takeException _
  · exact h

theorem enterDebug (h : s.Inv) (k : Nat) (moe bit33 : Bool) : (s.enterDebug k moe bit33).Inv :=
  h.skip _ rfl rfl rfl rfl rfl

theorem enterByRequest (h : s.Inv) : s.enterByRequest.Inv :=
  (h.enterDebug 3 true (s.drawn.getLsbD 0)).of_eq rfl rfl rfl rfl rfl

theorem afterInstr (h : s.Inv) : s.afterInstr.Inv := by
  unfold State.afterInstr
  split
  · split
    · exact h.enterDebug _ _ _
    · split
      · exact h.takePending.enterDebug _ _ _
      · exact h.enterDebug _ _ _
  · exact h

theorem debugPrefetchAbort (h : s.Inv) : s.debugPrefetchAbort.Inv := by
  refine State.Inv.takeException ?_ _
  exact h.of_eq rfl rfl rfl rfl rfl

theorem showSlot (h : s.Inv) (q : FetchSlot) : (s.showSlot q).Inv := by
  unfold State.showSlot State.showWord
  split <;> exact h.of_eq rfl rfl rfl rfl rfl

theorem runBits (h : s.Inv) (bits : Word) : Ends State.Inv (runBits s bits) := by
  unfold Machine.runBits
  split
  · exact exec_inv h _
  · exact ends_ite (fun _ => ends_next h.advance) (fun _ => ends_refused)

theorem executeSlot (h : s.Inv) (q : FetchSlot) : Ends State.Inv (executeSlot s q) := by
  unfold Machine.executeSlot
  split
  · exact ends_next (h.takeException _)
  · refine ends_next ?_
    split
    · exact h.debugPrefetchAbort
    · exact h.takeException _
  · exact ends_refused
  · exact ends_ite (fun _ => ends_next h.debugPrefetchAbort)
      (fun _ => ends_onNext (h.runBits _) fun _ ht => ht.afterInstr)

theorem boundary (h : s.Inv) (q : FetchSlot) : Ends State.Inv (boundary s q) := by
  refine ends_ite (fun _ => ends_next (h.takePending.enterDebug _ _ _)) fun _ => ?_
  refine ends_ite (fun _ => ends_next h.takePending.enterByRequest) fun _ => ?_
  split
  · exact ends_next (h.takeException _)
  · exact h.executeSlot q

theorem runFilled (h : s.Inv) : Ends State.Inv (runFilled s) := by
  unfold Machine.runFilled
  split
  · exact (h.showSlot _).boundary _
  · exact ends_next h

theorem beginInstr (h : s.Inv) : s.beginInstr.Inv := h.of_eq rfl rfl rfl rfl rfl

theorem awaitBus (h : s.Inv) {r : Result} (hr : Ends State.Inv r) : Ends State.Inv (s.awaitBus r) := by
  cases r with
  | next t => exact ends_ite (fun _ => hr) (fun _ => ends_next h)
  | fault e => exact ends_fault
  | refused e => exact ends_refused

/-! The debugger in debug state. -/

theorem setDbg (h : s.Inv) (d : Debug) : (s.setDbg d).Inv := h.of_eq rfl rfl rfl rfl rfl

theorem showScanned (h : s.Inv) (w : Word) : (s.showScanned w).Inv := h.of_eq rfl rfl rfl rfl rfl

theorem insertNow (h : s.Inv) (bit33 : Bool) (w : Word) (i : Instr) (words : List Word) :
    Ends State.Inv (insertNow s bit33 w i words) := by
  have hi : (s.insertState bit33 w words).Inv := h.of_eq rfl rfl rfl rfl rfl
  exact ends_onNext (exec_inv hi i) fun _ ht => ht.of_eq rfl rfl rfl rfl rfl

theorem insertInstr (h : s.Inv) (bit33 : Bool) (w : Word) (words : List Word) :
    Ends State.Inv (insertInstr s bit33 w words) := by
  refine ends_ite (fun _ => ends_refused) fun _ => ?_
  refine ends_ite (fun _ => ends_next (h.setDbg _)) fun _ => ?_
  split
  · exact ends_refused
  · refine ends_ite (fun _ => ?_) (fun _ => ends_fault)
    exact ends_ite (fun _ => ends_next (h.setDbg _)) (fun _ => h.insertNow _ _ _ _)

theorem scanIn (h : s.Inv) (bit33 : Bool) (w : Word) : Ends State.Inv (scanIn s bit33 w) := by
  refine ends_ite (fun _ => ends_next (h.setDbg _)) fun _ => ?_
  split
  · exact ends_ite (fun _ => (h.setDbg _).insertInstr _ _ _) (fun _ => ends_next (h.setDbg _))
  · exact ends_ite (fun _ => (h.showScanned w).insertInstr _ _ _) (fun _ => ends_next ((h.showScanned w).setDbg _))

theorem afterSystemSpeed (h : s.Inv) (before : State) : (afterSystemSpeed before s).Inv := by
  cases hb : s.dbg.dataAborted || s.pc == before.pc + before.instrBytes with
  | true => exact h.skip 2#32 rfl (if_pos hb) rfl rfl rfl
  | false => exact h.of_eq rfl (if_neg (by rw [hb]; exact Bool.false_ne_true)) rfl rfl rfl

theorem restartWith (h : s.Inv) (w : Word) (i : Instr) : Ends State.Inv (restartWith s w i) := by
  have hb : (s.beginInserted w).Inv := h.of_eq rfl rfl rfl rfl rfl
  unfold Machine.restartWith
  dsimp only
  split
  · refine ends_onNext (exec_inv ?_ i) fun _ ht => ht.afterSystemSpeed _
    exact hb.of_eq rfl rfl rfl rfl rfl
  · refine ends_onNext (exec_inv ?_ i) fun _ ht => State.Inv.refill (ht.of_eq rfl rfl rfl rfl rfl)
    exact hb.setDbg _

theorem restartNow (h : s.Inv) : Ends State.Inv (restartNow s) := by
  refine ends_ite (fun _ => ?_) (fun _ => ends_fault)
  split
  · exact ends_next (State.Inv.refill (h.of_eq rfl rfl rfl rfl rfl))
  · split
    · exact ends_refused
    · exact h.restartWith _ _

theorem resume (h : s.Inv) : Ends State.Inv (resume s) := by
  unfold Machine.resume
  have hr := h.restartNow
  split
  · rename_i t e
    exact ends_ite (fun _ => ends_next (hr t e)) (fun _ => ends_next (h.setDbg _))
  · exact ends_fault
  · exact ends_refused

theorem restart (h : s.Inv) : Ends State.Inv (restart s) := ends_ite (fun _ => h.resume) (fun _ => ends_next h)

theorem coreStep (h : s.Inv) : Ends State.Inv (coreStep s) := by
  refine ends_ite (fun _ => ?_) (fun _ => ends_fault)
  refine ends_ite (fun _ => ends_ite (fun _ => h.resume) (fun _ => ends_next h)) fun _ => ?_
  exact h.awaitBus (ends_onNext (h.beginInstr.fillQueue 3).runFilled fun _ ht => ht.refill)

/-! The debugger's registers. -/

theorem keepRead {r : Word × State} (h : r.2.Inv) : (State.keepRead r).Inv := h.of_eq rfl rfl rfl rfl rfl

theorem iceReadReg (h : s.Inv) (a : BitVec 5) : (iceReadReg s a).2.Inv := by
  unfold Machine.iceReadReg
  split
  · exact h.of_eq rfl rfl rfl rfl rfl
  · exact h.of_eq rfl rfl rfl rfl rfl
  · split
    · exact h
    · exact h.of_eq rfl rfl rfl rfl rfl
    · exact h
    · exact h.of_eq rfl rfl rfl rfl rfl
    · exact h.of_eq rfl rfl rfl rfl rfl
  · exact h.of_eq rfl rfl rfl rfl rfl

/-- Bit 3 of the debug control register is written as 0 (61 R696). -/
theorem writeDebugControl (h : s.Inv) (v : Word) : (s.writeDebugControl v).Inv := by
  refine ⟨h.memory, h.pc, h.buffer, ?_⟩
  show (v.extractLsb' 4 2 ++ 0#1 ++ v.extractLsb' 0 3).getLsbD 3 = false
  rw [append_bit_high _ _ 3 (by omega), append_bit_low _ _ 0 (by omega)]
  rfl

theorem iceWriteReg (h : s.Inv) (a : BitVec 5) (v : Word) : (iceWriteReg s a v).Inv := by
  unfold Machine.iceWriteReg
  split
  · exact h.of_eq rfl rfl rfl rfl rfl
  · exact h.of_eq rfl rfl rfl rfl rfl
  · split
    · exact h.writeDebugControl v
    · exact h.of_eq rfl rfl rfl rfl rfl
    · exact h.of_eq rfl rfl rfl rfl rfl
    · exact h
  · exact h

end State.Inv

theorem scan15Read_keeps (op : BitVec 4) : ReadKeeps (scan15Read op) := by
  unfold scan15Read
  split
  · exact RegisterStep.refl
  · exact fun s => freeBits_keeps _ _ s
  · exact RegisterStep.refl
  · exact RegisterStep.refl
  · exact fun s => freeBits_keeps _ _ s
  · exact RegisterStep.refl
  · exact fun s => freeBits_keeps _ _ s
  · exact RegisterStep.refl
  · exact readAny_keeps

theorem scan15Write_keeps (op : BitVec 4) : WriteKeeps (scan15Write op) := by
  unfold scan15Write
  split
  · exact fun _ s => setCp15_regs s _
  · exact fun _ s => setCp15_regs s _
  · exact fun _ s => setCp15_regs s _
  · exact fun _ s => setCp15_regs s _
  · exact fun _ s => setCp15_regs s _
  · exact fun _ s => setCp15_regs s _
  · exact writeProcId_regs
  · exact fun _ s => cacheWritten_regs s _
  · exact fun _ s => tlbWritten_regs s _
  · exact fun _ s => tlbWritten_regs s _
  · exact writeNothing_keeps

namespace State.Inv

variable {s : State}

theorem scan15Read (h : s.Inv) (op : BitVec 4) : (State.keepRead (scan15Read op s)).Inv :=
  keepRead (h.registerStep (scan15Read_keeps op s))

theorem scan15Write (h : s.Inv) (op : BitVec 4) (v : Word) : (scan15Write op v s).Inv :=
  h.registerStep (scan15Write_keeps op v s)

/-! The TAP controller. -/

theorem setTap (h : s.Inv) (t : Tap) : (s.setTap t).Inv := h.of_eq rfl rfl rfl rfl rfl

theorem captureChain1 (h : s.Inv) : (captureChain1 s).Inv := by
  unfold Machine.captureChain1
  split
  · split <;> exact h.of_eq rfl rfl rfl rfl rfl
  · exact h.setTap _

theorem captureDr (h : s.Inv) : (captureDr s).Inv := by
  unfold Machine.captureDr
  split
  case h_5 => exact h.captureChain1
  all_goals exact h.of_eq rfl rfl rfl rfl rfl

theorem shiftDr (h : s.Inv) (tdi : Bool) : (shiftDr s tdi).Inv := by
  unfold Machine.shiftDr
  dsimp only
  split <;> exact h.of_eq rfl rfl rfl rfl rfl

theorem tapAction (h : s.Inv) (tdi : Bool) : (tapAction s tdi).Inv := by
  unfold Machine.tapAction
  split
  · exact h.captureDr
  · exact h.shiftDr tdi
  all_goals exact h.of_eq rfl rfl rfl rfl rfl

theorem updateChain1 (h : s.Inv) : Ends State.Inv (updateChain1 s) :=
  ends_ite (fun _ => (h.setTap _).scanIn _ _) (fun _ => ends_next (h.setTap _))

theorem updateChain2 (h : s.Inv) : (updateChain2 s).Inv := by
  unfold Machine.updateChain2
  dsimp only
  split
  · exact h.iceWriteReg _ _
  · exact (keepRead (h.iceReadReg _)).setTap _

theorem updateChain15 (h : s.Inv) : (updateChain15 s).Inv := by
  unfold Machine.updateChain15
  dsimp only
  split
  · exact h.scan15Write _ _
  · exact h.scan15Read _

theorem updateDr (h : s.Inv) : Ends State.Inv (updateDr s) := by
  unfold Machine.updateDr
  split
  · exact ends_next (h.setTap _)
  · exact ends_next h
  · exact h.updateChain1
  · exact ends_next h.updateChain2
  · exact ends_next h.updateChain15
  all_goals exact ends_next h

theorem tapEnter (h : s.Inv) (before : TapState) : Ends State.Inv (tapEnter s before) := by
  unfold Machine.tapEnter
  split
  · exact h.updateDr
  · exact ends_next (h.setTap _)
  · exact ends_next (h.setTap _)
  · exact ends_ite (fun _ => (h.setTap _).restart) (fun _ => ends_next (h.setTap _))
  all_goals exact ends_next h

theorem tapClock (h : s.Inv) (tms tdi : Bool) : Ends State.Inv (tapClock s tms tdi) :=
  ends_ite (fun _ => (((h.setTap _).tapAction tdi).setTap _).tapEnter _) (fun _ => ends_next h)

/-! Resets. -/

theorem hardReset (h : s.Inv) : s.hardReset.Inv := by
  refine ⟨h.memory, ?_, Nat.zero_le 8, h.control⟩
  rw [pcAligned_iff]
  show (if s.pins.vinithi then 0xFFFF0000#32 else 0#32).toNat % 4 = 0
  cases s.pins.vinithi <;> rfl

theorem resetNow (h : s.Inv) : s.resetNow.Inv := by
  have hr : (if s.dbg.halted then s.leaveDebug else s).hardReset.Inv := by
    split
    · exact (h.setDbg _).hardReset
    · exact h.hardReset
  unfold State.resetNow
  dsimp only
  split
  · exact hr.refill
  · exact hr

theorem replay (h : s.Inv) (ts : List BusTransfer) (n : Nat) : (s.replay ts n).Inv := by
  induction ts generalizing s n with
  | nil => exact h
  | cons t rest ih =>
    cases n with
    | zero => exact h
    | succ n =>
      have ht := h.memoryStep (onBus_step s t)
      unfold State.replay
      split
      · exact ih (ht.memoryStep (storeLanes_step _ _ _ _ _)) n
      · exact ih ht n

theorem hardResetDuring (h : s.Inv) (done seen : Nat) : (hardResetDuring s done seen).Inv := by
  unfold Machine.hardResetDuring
  split
  · refine State.Inv.of_eq (State.Inv.resetNow ?_) rfl rfl rfl rfl rfl
    exact (h.replay _ done).of_eq rfl rfl rfl rfl rfl
  · exact h.resetNow
  · exact h.resetNow

theorem debugReset (h : s.Inv) : s.debugReset.Inv := ⟨h.memory, h.pc, h.buffer, BitVec.getLsbD_zero⟩

/-! Events. -/

theorem changePins (h : s.Inv) (p : Pins) : Ends State.Inv (changePins s p) := by
  refine ends_ite (fun _ => ends_refused) fun _ => ?_
  refine ends_ite (fun _ => ends_refused) fun _ => ?_
  refine ends_ite (fun _ => ends_refused) fun _ => ends_next ?_
  exact h.of_eq rfl rfl rfl rfl rfl

theorem whenTapClocked (h : s.Inv) {r : Result} (hr : Ends State.Inv r) : Ends State.Inv (s.whenTapClocked r) :=
  ends_ite (fun _ => hr) (fun _ => ends_next h)

theorem othersFinish (h : s.Inv) : s.othersFinish.Inv :=
  ⟨masterWrites_wf _ h.memory, h.pc, h.buffer, h.control⟩

theorem runEvent (e : EnvEvent) (h : s.Inv) : Ends State.Inv (runEvent e s) := by
  induction e generalizing s with
  | tick => exact h.coreStep
  | others writes inner ih =>
    exact ends_onNext (ih (h.of_eq rfl rfl rfl rfl rfl)) fun _ ht => ht.othersFinish
  | setPins p => exact h.changePins p
  | hreset => exact ends_ite (fun _ => ends_refused) (fun _ => ends_next h.resetNow)
  | hresetDuring done seen => exact ends_ite (fun _ => ends_refused) (fun _ => ends_next (h.hardResetDuring done seen))
  | ntrst => exact ends_next h.debugReset
  | drain =>
    refine ends_next ?_
    split
    · exact h.memoryStep (drainOne_step s)
    · exact h
  | busWrite a b => exact ends_next (h.memoryStep (setByte_step s a b))
  | iceRead a => exact h.whenTapClocked (ends_next (keepRead (h.iceReadReg a)))
  | iceWrite a v => exact h.whenTapClocked (ends_next ((h.iceWriteReg a v).setTap _))
  | scan15 write op v =>
    refine h.whenTapClocked (ends_next ?_)
    split
    · exact h.scan15Write op v
    · exact h.scan15Read op
  | insert bit33 w words => exact h.whenTapClocked ((h.showScanned w).insertInstr bit33 w words)
  | restart => exact h.whenTapClocked (h.setTap _).restart
  | tck tms tdi => exact h.tapClock tms tdi

theorem driveEtm (h : s.Inv) : s.driveEtm.Inv := by
  unfold State.driveEtm
  split
  · exact h.of_eq rfl rfl rfl rfl rfl
  · exact h

theorem clearOutputs (h : s.Inv) : s.clearOutputs.Inv := h.of_eq rfl rfl rfl rfl rfl

/-- The step of the machine keeps the invariant. -/
theorem step (h : s.Inv) : Ends State.Inv (step s) := by
  unfold Machine.step machineStep
  split
  · exact ends_onNext (runEvent _ (h.clearOutputs.of_eq rfl rfl rfl rfl rfl)) fun _ ht => ht.driveEtm
  · exact ends_onNext h.clearOutputs.coreStep fun _ ht => ht.driveEtm

end State.Inv

end Sys2Proof.Machine

namespace Sys2Proof.Claims

open Sys2Proof.Machine

/-- Settles O58: what each instruction can do (`exec_executed`) keeps the invariant, and so does everything around it. -/
theorem stepKeepsTheInvariant : Obligations.StepKeepsTheInvariant :=
  fun _ t h e => h.step t e

/-- Settles O59. -/
theorem resetHasTheInvariant : Obligations.ResetHasTheInvariant :=
  ⟨reset_mem_wf, (pcAligned_iff _).mpr rfl, Nat.zero_le 8, BitVec.getLsbD_zero⟩

end Sys2Proof.Claims
end

section
/-! PROOFS. Registers: which physical register a number names (10 R23), and CP15 for User mode (10 R46). -/

namespace Sys2Proof.Machine

theorem reg_pc (s : State) : s.reg 15#4 = s.pcRead := by rw [State.reg, State.regOr, if_pos rfl]

/-- Outside the slot of log 37 a register reads as its physical register. -/
theorem reg_gpr {s : State} {r : RegNum} (hr : r ≠ 15#4) (h : s.bankHazard = false) :
    s.reg r = s.gpr[physIndex s.cpsr.m r] := by
  rw [State.reg, State.regOr, if_neg hr, State.readPhys, if_neg (by simp [h])]

theorem setReg_gpr_same {s : State} {r : RegNum} {k : Fin 30} (v : Word) (h : physIndex s.cpsr.m r = k) :
    (s.setReg r v).gpr[k] = v := by
  subst h
  exact Vector.getElem_set_self _

theorem setReg_gpr_other {s : State} {r : RegNum} {k : Fin 30} (v : Word) (h : physIndex s.cpsr.m r ≠ k) :
    (s.setReg r v).gpr[k] = s.gpr[k] :=
  Vector.getElem_set_ne (physIndex s.cpsr.m r).isLt k.isLt (fun e => h (Fin.ext e))

end Sys2Proof.Machine

namespace Sys2Proof.Claims

open Sys2Proof.Machine

/-! Banking. -/

/-- The physical register of a number in a bank. -/
def bankedIndex (b : Nat) (r : RegNum) : Nat :=
  match b with
  | 0 => r.toNat
  | 1 => r.toNat + 7
  | 2 => r.toNat + 13
  | 3 => r.toNat + 9
  | 4 => r.toNat + 11
  | _ => r.toNat + 15

/-- The banks there are: FIQ's from r8 on, those of the other four exception modes from r13 on. -/
abbrev IsBank (b : Nat) (r : RegNum) : Prop := b = 0 ∨ (b = 1 ∧ 8 ≤ r.toNat) ∨ (2 ≤ b ∧ b ≤ 5 ∧ 13 ≤ r.toNat)

/-- The bank that a physical register belongs to. -/
def bankAt (k : Nat) : Nat :=
  if k < 15 then 0 else if k < 22 then 1 else if k < 24 then 3 else if k < 26 then 4 else if k < 28 then 2 else 5

theorem toNat_lt_15 {r : RegNum} (h : r ≠ 15#4) : r.toNat < 15 := by
  have := r.isLt
  have : r.toNat ≠ 15 := fun e => h (BitVec.eq_of_toNat_eq e)
  omega

theorem bankAt_bankedIndex {b : Nat} {r : RegNum} (h : IsBank b r) (hr : r ≠ 15#4) : bankAt (bankedIndex b r) = b := by
  have := toNat_lt_15 hr
  unfold bankAt
  rcases h with rfl | ⟨rfl, h8⟩ | ⟨h2, h5, h13⟩
  · exact if_pos this
  · simp only [bankedIndex]
    split_ifs <;> omega
  · interval_cases b <;> simp only [bankedIndex] <;> split_ifs <;> omega

/-- No two copies overlap. -/
theorem bankedIndex_inj {b1 b2 : Nat} {r1 r2 : RegNum} (h1 : IsBank b1 r1) (h2 : IsBank b2 r2) (hr1 : r1 ≠ 15#4)
    (hr2 : r2 ≠ 15#4) : bankedIndex b1 r1 = bankedIndex b2 r2 ↔ r1 = r2 ∧ b1 = b2 := by
  refine ⟨fun h => ?_, fun ⟨hr, hb⟩ => by rw [hr, hb]⟩
  have hb : b1 = b2 := by rw [← bankAt_bankedIndex h1 hr1, h, bankAt_bankedIndex h2 hr2]
  subst hb
  refine ⟨BitVec.eq_of_toNat_eq ?_, rfl⟩
  unfold bankedIndex at h
  split at h <;> omega

/-- The table of R23: in each mode a number names a bank's copy of it. -/
theorem physIndex_bank : ∀ m ∈ modes, ∀ r : RegNum, r ≠ 15#4 →
    IsBank (bank m r) r ∧ (physIndex m r).val = bankedIndex (bank m r) r := by
  decide

theorem physIndex_eq_iff {m1 m2 : BitVec 5} {r1 r2 : RegNum} (hm1 : m1 ∈ modes) (hm2 : m2 ∈ modes) (hr1 : r1 ≠ 15#4)
    (hr2 : r2 ≠ 15#4) : physIndex m1 r1 = physIndex m2 r2 ↔ r1 = r2 ∧ bank m1 r1 = bank m2 r2 := by
  obtain ⟨hb1, e1⟩ := physIndex_bank m1 hm1 r1 hr1
  obtain ⟨hb2, e2⟩ := physIndex_bank m2 hm2 r2 hr2
  rw [← bankedIndex_inj hb1 hb2 hr1 hr2, ← e1, ← e2, Fin.ext_iff]

theorem userIndex_eq (r : RegNum) : userIndex r = physIndex modeUsr r := by
  simp [physIndex, userIndex, modeUsr, modeFiq, modeSvc, modeAbt, modeIrq, modeUnd]

/-- Settles O7: a number names its bank's copy, and the copies do not overlap. -/
theorem registerBanking : Obligations.RegisterBanking := by
  refine ⟨fun _ _ _ _ => physIndex_eq_iff, fun r _ => userIndex_eq r, fun s r v hr hm hs => ⟨?_, ?_, ?_⟩, reg_pc⟩
  · rw [reg_gpr hr (by exact hs)]
    exact setReg_gpr_same v rfl
  · intro m r' hm' hr' hne
    refine setReg_gpr_other v fun e => ?_
    obtain ⟨rfl, hb⟩ := (physIndex_eq_iff hm hm' hr hr').mp e
    exact hne.elim (fun h => h rfl) (fun h => h hb.symm)
  · intro m hm' hb
    rw [reg_gpr hr (by exact hs)]
    exact setReg_gpr_same v ((physIndex_eq_iff hm hm' hr hr).mpr ⟨rfl, hb.symm⟩)

/-! CP15 in User mode. -/

theorem transferToCp15_user {c : Cond} {s : State} (rd : RegNum) (op : CoproWrite) (h : condPassed c s.cpsr = true)
    (hu : s.cpsr.m = modeUsr) : transferToCp15 c rd op s = .next (s.takeException .undefined) := by
  rw [transferToCp15, conditionally_pass h, if_neg (by simp [State.privileged, hu])]

theorem transferFromCp15_user {c : Cond} {s : State} (rd : RegNum) (op : CoproRead) (h : condPassed c s.cpsr = true)
    (hu : s.cpsr.m = modeUsr) : transferFromCp15 c rd op s = .next (s.takeException .undefined) := by
  rw [transferFromCp15, conditionally_pass h, if_neg (by simp [State.privileged, hu])]

/-- Every row of the table that reads CP15 is an MRC to CP15. -/
theorem exec_cp15Reads {c : Cond} {rd : RegNum} {i : Instr} (h : i ∈ cp15Reads c rd) (s : State) :
    ∃ op, exec i s = transferFromCp15 c rd op s := by
  simp only [cp15Reads, List.mem_cons, List.not_mem_nil, or_false] at h
  rcases h with rfl | rfl | rfl | rfl | rfl | rfl | rfl | rfl | rfl | rfl | rfl | rfl | rfl <;> exact ⟨_, rfl⟩

theorem exec_cp15Writes {c : Cond} {rd : RegNum} {i : Instr} (h : i ∈ cp15Writes c rd) (s : State) :
    ∃ op, exec i s = transferToCp15 c rd op s := by
  simp only [cp15Writes, List.mem_cons, List.not_mem_nil, or_false] at h
  rcases h with rfl | rfl | rfl | rfl | rfl | rfl | rfl | rfl | rfl | rfl | rfl | rfl | rfl | rfl | rfl | rfl | rfl | rfl |
    rfl | rfl | rfl <;> exact ⟨_, rfl⟩

theorem exec_testOperations {c : Cond} {rd : RegNum} {i : Instr} (h : i ∈ testOperations c rd) (s : State) :
    ∃ op, exec i s = transferToCp15 c rd op s := by
  simp only [testOperations, List.mem_cons, List.not_mem_nil, or_false] at h
  rcases h with rfl | rfl | rfl | rfl | rfl | rfl | rfl | rfl | rfl | rfl | rfl | rfl <;> exact ⟨_, rfl⟩

/-- No external coprocessor has the number of CP15 (43 R440). -/
theorem withCoprocessor_15 (s : State) (body : Word → List Word → State → Result) :
    withCoprocessor 15#4 s body = .next (s.takeException .undefined) := if_neg (by decide)

/-- Settles O40. -/
theorem cp15InUserModeTraps : Obligations.Cp15InUserModeTraps := by
  refine ⟨fun c rd s i h hu hi => ?_, fun c s h => ⟨fun op1 crn crd op2 crm => ?_, fun p u n w rn crd off8 => ⟨?_, ?_⟩⟩⟩
  · rcases hi with hi | hi | hi | ⟨op1, crn, op2, crm, rfl | rfl⟩
    · obtain ⟨op, e⟩ := exec_cp15Reads hi s
      rw [e, transferFromCp15_user rd op h hu]
    · obtain ⟨op, e⟩ := exec_cp15Writes hi s
      rw [e, transferToCp15_user rd op h hu]
    · obtain ⟨op, e⟩ := exec_testOperations hi s
      rw [e, transferToCp15_user rd op h hu]
    · exact transferToCp15_user rd (cp15Write op1 crn crm op2) h hu
    · exact transferFromCp15_user rd (cp15Read op1 crn crm op2) h hu
  · exact (conditionally_pass h).trans (withCoprocessor_15 s _)
  · exact (conditionally_pass h).trans (withCoprocessor_15 s _)
  · exact (conditionally_pass h).trans (withCoprocessor_15 s _)

end Sys2Proof.Claims
end

section
/-! PROOFS. TLB entries: which addresses they match and what they decide (10 R74, 21 R169, R191, R196, R197). -/

namespace Sys2Proof.Machine

/-! Masks of high bits. -/

/-- Two values agree on their high bits exactly if their difference has none. -/
theorem xor_and_high_eq_zero {w : Nat} (x y : BitVec w) (k : Nat) :
    (x ^^^ y) &&& BitVec.allOnes w <<< k = 0#w ↔ x.toNat / 2 ^ k = y.toNat / 2 ^ k := by
  rw [← BitVec.toNat_inj, toNat_and_high, BitVec.toNat_xor, BitVec.toNat_ofNat, Nat.zero_mod, Nat.mul_eq_zero,
    or_iff_left (Nat.two_pow_pos k).ne', ← Nat.shiftRight_eq_div_pow, Nat.shiftRight_xor_distrib, Nat.xor_eq_zero_iff,
    Nat.shiftRight_eq_div_pow, Nat.shiftRight_eq_div_pow]

/-- The high bits of one value with the low bits of another. -/
theorem toNat_high_or_low {w : Nat} (x y : BitVec w) (k : Nat) :
    (x &&& BitVec.allOnes w <<< k ||| y &&& ~~~(BitVec.allOnes w <<< k)).toNat =
      x.toNat / 2 ^ k * 2 ^ k + y.toNat % 2 ^ k := by
  refine Nat.eq_of_testBit_eq fun j => ?_
  rw [Nat.mul_comm, Nat.testBit_two_pow_mul_add _ (Nat.mod_lt _ (Nat.two_pow_pos k)), BitVec.testBit_toNat]
  by_cases hk : j < k <;> by_cases hj : j < w
  · simp [hj, hk, BitVec.testBit_toNat]
  · simp [hk, BitVec.testBit_toNat, BitVec.getLsbD_of_ge _ j (Nat.le_of_not_lt hj)]
  · simp [hj, hk, Nat.testBit_div_two_pow, show j - k + k = j by omega, BitVec.testBit_toNat]
  · simp [hk, Nat.testBit_div_two_pow, show j - k + k = j by omega, BitVec.testBit_toNat,
      BitVec.getLsbD_of_ge _ j (Nat.le_of_not_lt hj)]

/-- A concatenation as a number. -/
theorem toNat_append_eq_add {m n : Nat} (x : BitVec m) (y : BitVec n) : (x ++ y).toNat = x.toNat * 2 ^ n + y.toNat := by
  rw [BitVec.toNat_append, ← Nat.shiftLeft_add_eq_or_of_lt y.isLt, Nat.shiftLeft_eq]

end Sys2Proof.Machine

namespace Sys2Proof.Claims

open Sys2Proof.Machine

/-- The masks of an entry size keep the bits of the 1KB page number above the size. -/
theorem entrySizes_masks {z : Nat × BitVec 4 × BitVec 4} (hz : z ∈ entrySizes) :
    10 ≤ z.1 ∧ sizeCMask z.2.1 = BitVec.allOnes 22 <<< (z.1 - 10) ∧ sizeR2Mask z.2.2 = BitVec.allOnes 22 <<< (z.1 - 10) := by
  revert z
  decide

/-- The 1MB entries are the sections. -/
theorem entrySection_eq {e : TlbEntry} {z : Nat × BitVec 4 × BitVec 4} (hz : z ∈ entrySizes) (he : e.sizeC = z.2.1) :
    entrySection e = decide (z.1 = 20) := by
  simp only [entrySizes, List.mem_cons, List.not_mem_nil, or_false] at hz
  unfold entrySection
  rcases hz with rfl | rfl | rfl | rfl | rfl <;> rw [he] <;> rfl

theorem toNat_field_high (a : Word) : (a.extractLsb' 10 22).toNat = a.toNat / 2 ^ 10 := by
  rw [BitVec.extractLsb'_toNat, Nat.shiftRight_eq_div_pow]
  have := a.isLt
  omega

theorem toNat_field_low (a : Word) : (a.extractLsb' 0 10).toNat = a.toNat % 2 ^ 10 := by
  rw [BitVec.extractLsb'_toNat, Nat.shiftRight_zero]

/-- An entry matches the addresses that agree with its tag above its size. -/
theorem tlbMatches_iff {e : TlbEntry} {z : Nat × BitVec 4 × BitVec 4} (mva : Word) (hz : z ∈ entrySizes)
    (he : e.sizeC = z.2.1) :
    tlbMatches e mva = true ↔ e.valid = true ∧ e.tag.toNat * 2 ^ 10 / 2 ^ z.1 = mva.toNat / 2 ^ z.1 := by
  obtain ⟨h10, hc, -⟩ := entrySizes_masks hz
  have hsize : 2 ^ z.1 = 2 ^ 10 * 2 ^ (z.1 - 10) := by rw [← pow_add]; congr 1; omega
  rw [tlbMatches, Bool.and_eq_true, beq_iff_eq, he, hc, xor_and_high_eq_zero, toNat_field_high, Nat.div_div_eq_div_mul,
    hsize, ← Nat.div_div_eq_div_mul (_ * _), Nat.mul_div_cancel _ (Nat.two_pow_pos 10)]

/-- The address an entry gives: its own bits above its size, those of the access below. -/
theorem toNat_entryAddress {e : TlbEntry} {z : Nat × BitVec 4 × BitVec 4} (mva : Word) (hz : z ∈ entrySizes)
    (he : e.sizeR2 = z.2.2) :
    (entryAddress e mva).toNat = e.paTag.toNat * 2 ^ 10 / 2 ^ z.1 * 2 ^ z.1 + mva.toNat % 2 ^ z.1 := by
  obtain ⟨h10, -, hr⟩ := entrySizes_masks hz
  have hsize : 2 ^ z.1 = 2 ^ 10 * 2 ^ (z.1 - 10) := by rw [← pow_add]; congr 1; omega
  have low : mva.toNat % 2 ^ z.1 = mva.toNat / 2 ^ 10 % 2 ^ (z.1 - 10) * 2 ^ 10 + mva.toNat % 2 ^ 10 := by
    rw [hsize, Nat.mod_mul]
    omega
  unfold entryAddress
  dsimp only
  rw [he, hr, low, toNat_append_eq_add, toNat_high_or_low, toNat_field_high, toNat_field_low, hsize,
    ← Nat.div_div_eq_div_mul, Nat.mul_div_cancel _ (Nat.two_pow_pos 10)]
  ring

theorem permitted_eq_allowed : ∀ (ap : BitVec 2) (s r priv write : Bool),
    permitted ap s r priv write = allowed ap s r priv write := by
  decide

theorem oneHot16_shift : ∀ d : BitVec 4, oneHot16 (1#16 <<< d.toNat) = some d := by
  decide

section Ram1
variable {e : TlbEntry} {domain : BitVec 4} {ap : BitVec 2} {c b : Bool}

theorem entryDomain_ram1 (h : e.ram1 = ram1Of domain ap c b) : entryDomain e = domain := by
  have hf : e.ram1.extractLsb' 6 16 = 1#16 <<< domain.toNat := by
    rw [h, ram1Of, append_field_high _ _ _ _ (by omega), append_field_high _ _ _ _ (by omega),
      append_field_high _ _ _ _ (by omega), field_all]
  rw [entryDomain, hf, oneHot16_shift, Option.getD_some]

theorem entryAp_ram1 (h : e.ram1 = ram1Of domain ap c b) : entryAp e = ap := by
  have hf : e.ram1.extractLsb' 0 4 = 1#4 <<< ap.toNat := by
    rw [h, ram1Of, append_field_low _ _ _ _ (by omega), field_all]
  unfold entryAp
  rw [hf]
  rcases pair_cases ap with rfl | rfl | rfl | rfl <;> rfl

theorem entryCacheable_ram1 (h : e.ram1 = ram1Of domain ap c b) : entryCacheable e = c := by
  rw [entryCacheable, h, ram1Of, append_bit_high _ _ 5 (by omega), append_bit_high _ _ 1 (by omega),
    append_bit_low _ _ 0 (by omega), ofBool_bit, Bool.not_not]

theorem entryBufferable_ram1 (h : e.ram1 = ram1Of domain ap c b) : entryBufferable e = b := by
  rw [entryBufferable, h, ram1Of, append_bit_high _ _ 4 (by omega), append_bit_low _ _ 0 (by omega), ofBool_bit, Bool.not_not]

end Ram1

/-- A field of one bit. -/
theorem field_bit {n : Nat} (x : BitVec n) (k : Nat) : x.extractLsb' k 1 = BitVec.ofBool (x.getLsbD k) := by
  ext i hi
  obtain rfl : i = 0 := by omega
  simp

/-- The two bits of a domain's access field. -/
theorem domainAccess_eq (s : State) (d : BitVec 4) : s.domainAccess d =
    BitVec.ofBool (s.cp15.dacr.getLsbD (2 * d.toNat + 1)) ++ BitVec.ofBool (s.cp15.dacr.getLsbD (2 * d.toNat)) := by
  rw [State.domainAccess, field_split _ _ 1 1, field_bit, field_bit]

/-- An entry decides as its domain, permission and address say. -/
theorem checkEntry_decides {s : State} {e : TlbEntry} {sect : Bool} {domain : BitVec 4} {ap : BitVec 2} {pa mva : Word}
    {c b : Bool} (priv write : Bool) (hsect : entrySection e = sect) (hpa : entryAddress e mva = pa)
    (hram : e.ram1 = ram1Of domain ap c b) :
    Decides s sect domain ap pa c b priv write (checkEntry s e mva priv write) := by
  unfold checkEntry
  dsimp only
  rw [entryDomain_ram1 hram, entryAp_ram1 hram, entryCacheable_ram1 hram, entryBufferable_ram1 hram, hsect, hpa,
    permitted_eq_allowed, domainAccess_eq]
  unfold Decides
  cases s.cp15.dacr.getLsbD (2 * domain.toNat) with
  | false => cases s.cp15.dacr.getLsbD (2 * domain.toNat + 1) <;> rfl
  | true =>
    cases s.cp15.dacr.getLsbD (2 * domain.toNat + 1) with
    | false => cases allowed ap s.cp15.s s.cp15.r priv write <;> rfl
    | true => rfl

/-- The one entry that matches is what the lookup finds, and nothing changes. -/
theorem tlbLookup_unique {s : State} {mva : Word} {k : Nat}
    (h : (List.range 64).filter (fun j => tlbMatches (s.tlbEntry j) mva) = [k]) :
    s.tlbLookup mva = (some (s.tlbEntry k), s) := by
  rw [State.tlbLookup, h]
  rfl

theorem translate_hit {s : State} {mva : Word} {e : TlbEntry} (priv write : Bool) (hm : s.cp15.m = true)
    (h : s.tlbLookup mva = (some e, s)) : translate s mva priv write = (checkEntry s e mva priv write, s) := by
  unfold Machine.translate
  rw [if_pos hm, h]

/-- Settles O49: the masks of the sizes keep the address bits above them (`xor_and_high_eq_zero`, `toNat_high_or_low`). -/
theorem tlbHits : Obligations.TlbHits := by
  refine ⟨fun e mva z hz he => tlbMatches_iff mva hz he, ?_⟩
  intro s mva pa priv write k e z domain ap c b hm hk he hz hsizeC hsizeR2 hram hpa
  have hpa' : entryAddress e mva = pa := BitVec.eq_of_toNat_eq ((toNat_entryAddress mva hz hsizeR2).trans hpa.symm)
  rw [translate_hit priv write hm (he ▸ tlbLookup_unique hk)]
  exact ⟨checkEntry_decides priv write (entrySection_eq hz hsizeC) hpa' hram, rfl⟩

end Sys2Proof.Claims
end

section
/-! PROOFS. Bytes and lanes: which byte of memory is on which lane of the bus (20 R105, R106, R108, R111, R150). -/

namespace Sys2Proof.Machine

theorem toNat_wordAlign (a : Word) : (wordAlign a).toNat = a.toNat / 4 * 4 := toNat_and_high a 2

theorem wordAlign_wordAlign (a : Word) : wordAlign (wordAlign a) = wordAlign a := by
  refine BitVec.eq_of_toNat_eq ?_
  rw [toNat_wordAlign, toNat_wordAlign, Nat.mul_div_cancel _ (by decide)]

/-- Bit 1 of an address as a number. -/
theorem getLsbD_one (a : Word) : a.getLsbD 1 = decide (a.toNat / 2 % 2 = 1) := by
  rw [← BitVec.testBit_toNat, Nat.testBit_eq_decide_div_mod_eq]

/-- Four different bytes of a word have four different addresses. -/
theorem wordAlign_add_inj {a : Word} {j k : Nat} (hj : j < 4) (hk : k < 4)
    (h : wordAlign a + BitVec.ofNat 32 j = wordAlign a + BitVec.ofNat 32 k) : j = k := by
  have := congrArg BitVec.toNat (add_left_cancel h)
  simp only [BitVec.toNat_ofNat] at this
  omega

theorem sizeOffsets_lt {size : Size} {a : Word} {k : Nat} (h : k ∈ sizeOffsets size a) : k < 4 := by
  cases size with
  | byte =>
    obtain rfl := List.mem_singleton.mp h
    exact BitVec.isLt _
  | half =>
    revert h
    unfold sizeOffsets
    cases a.getLsbD 1 <;> simp <;> omega
  | word =>
    simp only [sizeOffsets, List.mem_cons, List.not_mem_nil, or_false] at h
    omega

/-- A word on the bus carries each byte on its lane. -/
theorem laneByte_busWordOf (big : Bool) (b0 b1 b2 b3 : Byte) :
    laneByte big (busWordOf big b0 b1 b2 b3) 0 = b0 ∧ laneByte big (busWordOf big b0 b1 b2 b3) 1 = b1 ∧
      laneByte big (busWordOf big b0 b1 b2 b3) 2 = b2 ∧ laneByte big (busWordOf big b0 b1 b2 b3) 3 = b3 := by
  unfold laneByte busWordOf laneShift
  cases big <;> and_intros <;>
    simp (disch := omega) only [append_field_low, append_field_high, field_all, if_true, if_false, Bool.false_eq_true,
      Nat.reduceSub, Nat.reduceMul, Nat.sub_self]

/-- The lane of an offset carries the byte of memory at that offset. -/
theorem laneByte_memoryWord (s : State) (a : Word) {k : Nat} (hk : k < 4) :
    laneByte s.cp15.b (s.memoryWord a) k = s.byteAt (wordAlign a + BitVec.ofNat 32 k) := by
  obtain ⟨h0, h1, h2, h3⟩ := laneByte_busWordOf s.cp15.b (s.byteAt (wordAlign a)) (s.byteAt (wordAlign a + 1))
    (s.byteAt (wordAlign a + 2)) (s.byteAt (wordAlign a + 3))
  match k, hk with
  | 0, _ => exact h0.trans (by rw [BitVec.add_zero])
  | 1, _ => exact h1
  | 2, _ => exact h2
  | 3, _ => exact h3

end Sys2Proof.Machine

namespace Sys2Proof.Claims

open Sys2Proof.Machine

/-- The offset of the byte of a byte transfer. -/
theorem offset_byte {a : Word} {j k : Nat} (h : (sizeOffsets .byte a)[j]? = some k) :
    j = 0 ∧ k = (a.extractLsb' 0 2).toNat := by
  match j, h with
  | 0, h => exact ⟨rfl, (Option.some.inj h).symm⟩

/-- The offsets of a halfword transfer: the upper half of the word if bit 1 of the address is set. -/
theorem offset_half {a : Word} {j k : Nat} (h : (sizeOffsets .half a)[j]? = some k) :
    j < 2 ∧ k = (if a.getLsbD 1 then 2 else 0) + j := by
  unfold sizeOffsets at h
  dsimp only at h
  cases hb : a.getLsbD 1 <;> rw [hb] at h <;>
    match j, h with
    | 0, h => exact ⟨by decide, (Option.some.inj h).symm⟩
    | 1, h => exact ⟨by decide, (Option.some.inj h).symm⟩

/-- The offsets of a word transfer. -/
theorem offset_word {a : Word} {j k : Nat} (h : (sizeOffsets .word a)[j]? = some k) : j < 4 ∧ k = j := by
  match j, h with
  | 0, h | 1, h | 2, h | 3, h => exact ⟨by decide, (Option.some.inj h).symm⟩

/-- Each byte of a transfer has its offset in the word. -/
theorem exists_offset (size : Size) (a : Word) {j : Nat} (hj : j < sizeBytes size) :
    ∃ k, (sizeOffsets size a)[j]? = some k := by
  refine ⟨_, List.getElem?_eq_getElem (l := sizeOffsets size a) ?_⟩
  cases size with
  | byte => exact hj
  | half =>
    show j < (if a.getLsbD 1 then [2, 3] else [0, 1]).length
    split <;> exact hj
  | word => exact hj

theorem offset_lt {size : Size} {a : Word} {j k : Nat} (h : (sizeOffsets size a)[j]? = some k) : j < sizeBytes size := by
  cases size with
  | byte =>
    obtain ⟨rfl, -⟩ := offset_byte h
    exact Nat.one_pos
  | half => exact (offset_half h).1
  | word => exact (offset_word h).1

/-- The bytes of a transfer begin at its first byte. -/
theorem firstByte_add {size : Size} {a : Word} {j k : Nat} (h : (sizeOffsets size a)[j]? = some k) :
    firstByte size a + BitVec.ofNat 32 j = wordAlign a + BitVec.ofNat 32 k := by
  have ha := a.isLt
  refine BitVec.eq_of_toNat_eq ?_
  rw [BitVec.toNat_add, BitVec.toNat_add, toNat_wordAlign, BitVec.toNat_ofNat, BitVec.toNat_ofNat]
  cases size with
  | byte =>
    obtain ⟨rfl, rfl⟩ := offset_byte h
    rw [BitVec.extractLsb'_toNat, Nat.shiftRight_zero, show firstByte .byte a = a from rfl]
    omega
  | half =>
    obtain ⟨hj, rfl⟩ := offset_half h
    rw [show (firstByte .half a).toNat = a.toNat / 2 * 2 from toNat_and_high a 1, getLsbD_one]
    split <;> rename_i hbit <;> rw [decide_eq_true_eq] at hbit <;> omega
  | word =>
    obtain ⟨hj, rfl⟩ := offset_word h
    rw [show (firstByte .word a).toNat = a.toNat / 4 * 4 from toNat_and_high a 2]

/-- A field of a zero extended value. -/
theorem field_setWidth {n : Nat} (x : BitVec n) {m k l : Nat} (hm : n ≤ m) (h : k + l ≤ n) :
    (x.setWidth m).extractLsb' k l = x.extractLsb' k l := by
  ext i hi
  simp
  omega

/-- A read takes its bytes from their lanes. -/
theorem byteOfValue_selectLanes {size : Size} {a : Word} {j k : Nat} (big : Bool) (w : Word)
    (h : (sizeOffsets size a)[j]? = some k) :
    byteOfValue big (sizeBytes size) j (selectLanes big size a w) = laneByte big w k := by
  cases size with
  | byte =>
    obtain ⟨rfl, rfl⟩ := offset_byte h
    refine (field_setWidth _ (by omega) (by cases big <;> decide)).trans ?_
    cases big <;> exact field_all _
  | half =>
    obtain ⟨hj, rfl⟩ := offset_half h
    unfold selectLanes byteOfValue laneByte laneShift
    cases a.getLsbD 1 <;> cases big <;>
      simp (disch := omega) only [field_setWidth, field_field, sizeBytes, beq_self_eq_true, reduceIte,
        Bool.false_eq_true, beq_iff_eq, reduceCtorEq] <;>
      congr 1 <;> omega
  | word =>
    obtain ⟨hj, rfl⟩ := offset_word h
    cases big <;> rfl

/-- A write drives its bytes on their lanes. -/
theorem laneByte_replicateLanes {size : Size} {a : Word} {j k : Nat} (big : Bool) (v : Word)
    (h : (sizeOffsets size a)[j]? = some k) :
    laneByte big (replicateLanes size v) k = byteOfValue big (sizeBytes size) j v := by
  cases size with
  | byte =>
    obtain ⟨rfl, -⟩ := offset_byte h
    have hk : k < 4 := sizeOffsets_lt (List.mem_of_getElem? h)
    have hv : byteOfValue big (sizeBytes .byte) 0 v = v.extractLsb' 0 8 := by cases big <;> rfl
    rw [hv]
    unfold replicateLanes laneByte laneShift
    match k, hk with
    | 0, _ | 1, _ | 2, _ | 3, _ =>
      cases big <;>
        simp (disch := omega) only [append_field_low, append_field_high, field_all, reduceIte, Bool.false_eq_true,
          Nat.reduceSub, Nat.reduceMul, Nat.sub_self]
  | half =>
    obtain ⟨hj, rfl⟩ := offset_half h
    unfold replicateLanes byteOfValue laneByte laneShift
    match j, hj with
    | 0, _ | 1, _ =>
      cases a.getLsbD 1 <;> cases big <;>
        simp (disch := omega) only [append_field_low, append_field_high, field_field, reduceIte, Bool.false_eq_true] <;> rfl
  | word =>
    obtain ⟨hj, rfl⟩ := offset_word h
    cases big <;> rfl

/-- A value read is zero extended. -/
theorem selectLanes_lt (big : Bool) (size : Size) (a w : Word) :
    (selectLanes big size a w).toNat < 2 ^ (8 * sizeBytes size) := by
  cases size with
  | byte => 
    rw [selectLanes, BitVec.toNat_setWidth_of_le (by decide)]
    exact BitVec.isLt _
  | half =>
    unfold selectLanes
    dsimp only
    split <;> rw [BitVec.toNat_setWidth_of_le (by decide)] <;> exact BitVec.isLt _
  | word => exact w.isLt

end Sys2Proof.Claims
end

section
/-! PROOFS. The bus and the write buffer: what a transfer changes, the order of buffered writes, and what they leave in memory
(20 R108, R140 to R143, R158). -/

namespace Sys2Proof.Machine

/-! What a write changes. -/

/-- Storing bytes changes memory only. -/
theorem storeLanes_changes (s : State) (a : Word) (big : Bool) (v : Word) (js : List Nat) :
    ∃ m, s.storeLanes a big v js = { s with mem := m } := by
  induction js generalizing s with
  | nil => exact ⟨s.mem, rfl⟩
  | cons j rest ih =>
    obtain ⟨m, e⟩ := ih (s.setByte (wordAlign a + BitVec.ofNat 32 j) (laneByte big v j))
    exact ⟨m, e⟩

/-- A write on the bus changes memory, the bus log and what other masters have still to write. -/
theorem busWrite_changes (s : State) (e : BufferedWrite) (lock : Bool) :
    ∃ m b x, (busWrite s e lock).1 = { s with mem := m, bus := b, masters := x } := by
  unfold busWrite
  dsimp only
  cases s.regionOf (sizeAlign e.size e.addr) with
  | ram =>
    obtain ⟨m, h⟩ := storeLanes_changes (s.onBus _) e.addr e.bigEndian e.data (sizeOffsets e.size e.addr)
    exact ⟨m, _, _, h⟩
  | device => exact ⟨_, _, _, rfl⟩
  | error => exact ⟨_, _, _, rfl⟩

theorem drainOne_changes (s : State) :
    ∃ w m b x, s.drainOne = { s with writeBuffer := w, mem := m, bus := b, masters := x } := by
  cases h : s.writeBuffer with
  | nil => exact ⟨s.writeBuffer, s.mem, s.bus, s.masters, drainOne_nil h⟩
  | cons e rest =>
    obtain ⟨m, b, x, k⟩ := busWrite_changes { s with writeBuffer := rest } e false
    exact ⟨rest, m, b, x, (drainOne_cons h).trans k⟩

theorem drainSome_changes (s : State) (n : Nat) :
    ∃ w m b x, s.drainSome n = { s with writeBuffer := w, mem := m, bus := b, masters := x } := by
  induction n generalizing s with
  | zero => exact ⟨s.writeBuffer, s.mem, s.bus, s.masters, rfl⟩
  | succ n ih =>
    obtain ⟨w, m, b, x, h⟩ := drainOne_changes s
    obtain ⟨w', m', b', x', k⟩ := ih s.drainOne
    exact ⟨w', m', b', x', k.trans (by rw [h])⟩

/-- Performing the buffered writes changes the write buffer, memory and the bus. -/
theorem drainAll_changes (s : State) :
    ∃ w m b x, s.drainAll = { s with writeBuffer := w, mem := m, bus := b, masters := x } := drainSome_changes s _

theorem drainAll_cache (s : State) : s.drainAll.cache = s.cache := by
  obtain ⟨w, m, b, x, h⟩ := drainAll_changes s
  rw [h]

theorem busWrite_cache (s : State) (e : BufferedWrite) (lock : Bool) : (busWrite s e lock).1.cache = s.cache := by
  obtain ⟨m, b, x, h⟩ := busWrite_changes s e lock
  rw [h]

theorem busWrite_writeBuffer (s : State) (e : BufferedWrite) (lock : Bool) :
    (busWrite s e lock).1.writeBuffer = s.writeBuffer := by
  obtain ⟨m, b, x, h⟩ := busWrite_changes s e lock
  rw [h]

theorem bufferWrite_cache (s : State) (e : BufferedWrite) : (s.bufferWrite e).cache = s.cache := by
  unfold State.bufferWrite
  dsimp only
  split
  · rfl
  · obtain ⟨w, m, b, x, h⟩ := drainOne_changes s
    rw [h]

/-! The order of writes. -/

theorem storeLanes_withBuffer (s : State) (w : List BufferedWrite) (a : Word) (big : Bool) (v : Word) (js : List Nat) :
    ({ s with writeBuffer := w } : State).storeLanes a big v js = { s.storeLanes a big v js with writeBuffer := w } := by
  induction js generalizing s with
  | nil => rfl
  | cons j rest ih => exact ih (s.setByte _ _)

/-- A write on the bus is the same whatever the write buffer holds. -/
theorem busWrite_withBuffer (s : State) (w : List BufferedWrite) (e : BufferedWrite) (lock : Bool) :
    (busWrite { s with writeBuffer := w } e lock).1 = { (busWrite s e lock).1 with writeBuffer := w } := by
  unfold busWrite
  dsimp only
  rw [show State.regionOf { s with writeBuffer := w } _ = s.regionOf (sizeAlign e.size e.addr) from rfl]
  cases s.regionOf (sizeAlign e.size e.addr) with
  | ram => exact storeLanes_withBuffer (s.onBus _) w _ _ _ _
  | device => rfl
  | error => rfl

/-- A write at the end of the buffer is performed after all that were in it before (20 R158). -/
theorem drainAll_append (s : State) (e : BufferedWrite) :
    ({ s with writeBuffer := s.writeBuffer ++ [e] } : State).drainAll = (busWrite s.drainAll e false).1 := by
  unfold State.drainAll
  rw [List.length_append, List.length_singleton]
  generalize h : s.writeBuffer = ws
  induction ws generalizing s with
  | nil =>
    show (busWrite { s with writeBuffer := [] } e false).1 = (busWrite s e false).1
    rw [← h]
  | cons x rest ih =>
    have hone : s.drainOne = { (busWrite s x false).1 with writeBuffer := rest } :=
      (drainOne_cons h).trans (busWrite_withBuffer s rest x false)
    have hlong : ({ s with writeBuffer := x :: rest ++ [e] } : State).drainOne =
        { s.drainOne with writeBuffer := rest ++ [e] } := by
      rw [hone]
      exact busWrite_withBuffer s (rest ++ [e]) x false
    have hrest : s.drainOne.writeBuffer = rest := by rw [hone]
    calc _ = ({ s.drainOne with writeBuffer := rest ++ [e] } : State).drainSome (rest.length + 1) :=
            congrArg (fun t : State => t.drainSome (rest.length + 1)) hlong
      _ = _ := ih s.drainOne hrest

/-- Performing the oldest write and then the others is performing them all. -/
theorem drainOne_drainAll (s : State) : s.drainOne.drainAll = s.drainAll := by
  unfold State.drainAll
  rw [drainOne_writeBuffer]
  cases h : s.writeBuffer with
  | nil => rw [drainOne_nil h]; rfl
  | cons e rest => rfl

/-- A buffered write is performed after all older ones. -/
theorem bufferWrite_drainAll (s : State) (e : BufferedWrite) : (s.bufferWrite e).drainAll = (busWrite s.drainAll e false).1 := by
  unfold State.bufferWrite
  dsimp only
  split
  · exact drainAll_append s e
  · rw [drainAll_append, drainOne_drainAll]

/-- A byte settles as memory holds it when no write is buffered. -/
theorem settledByte_of_drained {s : State} (h : s.writeBuffer = []) (a : Word) : s.settledByte a = s.byteAt a := by
  unfold State.settledByte State.drainAll
  rw [h]
  rfl

/-! What a write leaves in memory. -/

/-- Bytes other than those of the active lanes stay. -/
theorem storeLanes_other {s : State} {a b : Word} (big : Bool) (v : Word) {js : List Nat} (hw : cellsWf s.mem = true)
    (hb : ∀ k ∈ js, b ≠ wordAlign a + BitVec.ofNat 32 k) : (s.storeLanes a big v js).byteAt b = s.byteAt b := by
  induction js generalizing s with
  | nil => rfl
  | cons j rest ih =>
    obtain ⟨hj, hrest⟩ := List.forall_mem_cons.mp hb
    exact (ih (setByte_wf _ _ hw) hrest).trans (byteAt_setByte_other _ hw hj)

/-- The byte of each active lane is stored. -/
theorem storeLanes_same {s : State} (a : Word) (big : Bool) (v : Word) {js : List Nat} {k : Nat} (hw : cellsWf s.mem = true)
    (hjs : ∀ j ∈ js, j < 4) (hk : k ∈ js) :
    (s.storeLanes a big v js).byteAt (wordAlign a + BitVec.ofNat 32 k) = laneByte big v k := by
  induction js generalizing s with
  | nil => cases hk
  | cons j rest ih =>
    obtain ⟨hj, hrest⟩ := List.forall_mem_cons.mp hjs
    have hw' : cellsWf (s.setByte (wordAlign a + BitVec.ofNat 32 j) (laneByte big v j)).mem = true := setByte_wf _ _ hw
    by_cases hmem : k ∈ rest
    · exact ih hw' hrest hmem
    · obtain rfl : k = j := (List.mem_cons.mp hk).resolve_right hmem
      refine (storeLanes_other big v hw' fun i hi e => ?_).trans (byteAt_setByte_same _ _ hw)
      exact hmem (wordAlign_add_inj hj (hrest i hi) e ▸ hi)

end Sys2Proof.Machine

namespace Sys2Proof.Claims

open Sys2Proof.Machine

theorem busWrite_ram {s : State} {e : BufferedWrite} (lock : Bool) (h : s.regionOf (firstByte e.size e.addr) = .ram) :
    ∃ x, busWrite s e lock = ((s.onBus x).storeLanes e.addr e.bigEndian e.data (sizeOffsets e.size e.addr), false) := by
  unfold busWrite
  dsimp only
  rw [sizeAlign_eq, h]
  exact ⟨_, rfl⟩

theorem busWrite_error {s : State} {e : BufferedWrite} (lock : Bool) (h : s.regionOf (firstByte e.size e.addr) = .error) :
    ∃ x, busWrite s e lock = (s.onBus x, true) := by
  unfold busWrite
  dsimp only
  rw [sizeAlign_eq, h]
  exact ⟨_, rfl⟩

/-- The low bytes of a value stand at an address, in the byte order of control bit B, and no other byte of memory has changed. -/
structure BytesStored (size : Size) (pa v : Word) (s t : State) : Prop where
  stored : ∀ j : Nat, j < sizeBytes size →
    t.settledByte (firstByte size pa + BitVec.ofNat 32 j) = byteOfValue s.cp15.b (sizeBytes size) j v
  others : ∀ b : Word, (∀ j : Nat, j < sizeBytes size → b ≠ firstByte size pa + BitVec.ofNat 32 j) →
    t.settledByte b = s.settledByte b

theorem BytesStored.congr {size : Size} {pa v : Word} {s t u : State} (h : BytesStored size pa v s t)
    (k : ∀ a, u.settledByte a = t.settledByte a) : BytesStored size pa v s u :=
  ⟨fun j hj => (k _).trans (h.stored j hj), fun b hb => (k b).trans (h.others b hb)⟩

/-- What follows a write without touching memory leaves what it has stored. -/
theorem BytesStored.settled {size : Size} {pa v : Word} {s t u : State} (h : BytesStored size pa v s t) (k : Settled t u)
    (alone : t.masters = []) : BytesStored size pa v s u := h.congr (k.byte alone)

/-- What comes before a write without touching memory may be left out. -/
theorem BytesStored.before {size : Size} {pa v : Word} {s t u : State} (h : BytesStored size pa v t u) (k : Settled s t)
    (alone : s.masters = []) (hb : t.cp15.b = s.cp15.b) : BytesStored size pa v s u :=
  ⟨fun j hj => hb ▸ h.stored j hj, fun b hj => (h.others b hj).trans (k.byte alone b)⟩

/-- A write to RAM on the bus, with no other write to come, stores its bytes. -/
theorem busWrite_stores {s : State} {e : BufferedWrite} (v : Word) (lock : Bool) (alone : s.masters = [])
    (hw : cellsWf s.mem = true) (hd : s.writeBuffer = []) (hr : s.regionOf (firstByte e.size e.addr) = .ram)
    (hv : e.data = replicateLanes e.size v) (hb : e.bigEndian = s.cp15.b) :
    BytesStored e.size e.addr v s (busWrite s e lock).1 := by
  have hbuf : (busWrite s e lock).1.writeBuffer = [] := (busWrite_writeBuffer s e lock).trans hd
  obtain ⟨x, hx⟩ := busWrite_ram lock hr
  have hbyte : ∀ a, (busWrite s e lock).1.settledByte a =
      (s.storeLanes e.addr e.bigEndian e.data (sizeOffsets e.size e.addr)).byteAt a := fun a => by
    have hs : SameStore s { s with bus := s.bus ++ [x] } := ⟨rfl, rfl, rfl, rfl⟩
    rw [settledByte_of_drained hbuf, hx, onBus_alone x alone]
    exact congrArg (fun m => cellsRead m a.toNat) (storeLanes_store hs _ _ _ _).mem
  refine ⟨fun j hj => ?_, fun b hne => ?_⟩
  · obtain ⟨k, hk⟩ := exists_offset e.size e.addr hj
    rw [hbyte, firstByte_add hk, storeLanes_same _ _ _ hw (fun _ h => sizeOffsets_lt h) (List.mem_of_getElem? hk), hv,
      laneByte_replicateLanes _ _ hk, hb]
  · rw [hbyte, settledByte_of_drained hd]
    refine storeLanes_other _ _ hw fun k hk => ?_
    obtain ⟨j, hj⟩ := List.getElem?_of_mem hk
    rw [← firstByte_add hj]
    exact hne j (offset_lt hj)

end Sys2Proof.Claims
end

section
/-! PROOFS. Reads and writes of memory, the write buffer and the cache (20 R105 to R111, R130 to R135, R140 to R143, R158). -/

namespace Sys2Proof.Machine

/-- A relation that each step of a fold keeps is kept by the fold. -/
theorem foldl_relates {R : State → State → Prop} (refl : ∀ s, R s s) (trans : ∀ s t u, R s t → R t u → R s u)
    {f : State → Nat → State} (hf : ∀ s k, R s (f s k)) (s : State) (ks : List Nat) : R s (ks.foldl f s) := by
  induction ks generalizing s with
  | nil => exact refl s
  | cons k rest ih => exact trans _ _ _ (hf s k) (ih _)

theorem updateCache_settled (s : State) (mva : Word) (size : Size) (v : Word) : Settled s (s.updateCache mva size v) :=
  foldl_relates Settled.refl (fun _ _ _ => Settled.trans) (fun t i => setCacheLine_settled t _ i _) s _

end Sys2Proof.Machine

namespace Sys2Proof.Claims

open Sys2Proof.Machine

/-! Reads. -/

/-- The bytes of a read are those of memory. -/
theorem byteOfValue_read (s : State) (size : Size) (a : Word) {j : Nat} (hj : j < sizeBytes size) :
    byteOfValue s.cp15.b (sizeBytes size) j (selectLanes s.cp15.b size a (s.drainAll.memoryWord a)) =
      s.settledByte (firstByte size a + BitVec.ofNat 32 j) := by
  obtain ⟨k, hk⟩ := exists_offset size a hj
  rw [byteOfValue_selectLanes _ _ hk, firstByte_add hk, ← (drainAll_step s).bigEndian,
    laneByte_memoryWord _ _ (sizeOffsets_lt (List.mem_of_getElem? hk))]
  rfl

/-- Settles O24: the lanes that a read selects carry the bytes of memory (`byteOfValue_selectLanes`, `laneByte_memoryWord`). -/
theorem readsGiveTheBytesOfMemory : Obligations.ReadsGiveTheBytesOfMemory := fun s a size priv lock =>
  ⟨fun _ hj => byteOfValue_read s size (s.relocate a) hj, selectLanes_lt _ _ _ _, afterRead_step s a size priv lock,
    fun alone b => (afterRead_settled s a size priv lock).byte alone b⟩

/-! Writes. -/

/-- A write on the bus once every buffered write has been performed. -/
theorem busWrite_drainAll_stores {s u : State} {e : BufferedWrite} (v : Word) (lock : Bool) (h : MemoryStep s u) (k : Settled s u)
    (alone : s.masters = []) (hw : cellsWf s.mem = true) (hr : s.regionOf (firstByte e.size e.addr) = .ram)
    (hv : e.data = replicateLanes e.size v) (hb : e.bigEndian = s.cp15.b) :
    BytesStored e.size e.addr v s (busWrite u.drainAll e lock).1 := by
  have hd := h.trans (drainAll_step u)
  exact (busWrite_stores v lock (hd.alone alone) (hd.memory hw) (drainAll_writeBuffer u) (by rw [hd.regionOf, hr]) hv
    (by rw [hd.bigEndian, hb])).before (k.trans (drainAll_settled u)) alone hd.bigEndian

theorem afterWrite_stores {s : State} {a : Word} {size : Size} (v : Word) (priv lock : Bool) (hw : cellsWf s.mem = true)
    (alone : s.masters = []) (hr : s.regionOf (firstByte size (s.relocate a)) = .ram) :
    BytesStored size (s.relocate a) v s (afterWrite s a size v priv lock) := by
  have hcache := updateCache_step s (s.relocate a) size (replicateLanes size v)
  refine (busWrite_drainAll_stores (e := ⟨s.relocate a, size, replicateLanes size v, s.cp15.b, hprot false false priv true⟩) v lock
    hcache (updateCache_settled _ _ _ _) alone hw hr rfl rfl).settled (observe_settled _ _) ?_
  exact (busWrite_step _ _ _).alone ((drainAll_step _).alone (hcache.alone alone))

/-- Settles O25: the write on the bus stores its bytes once all older ones have been performed (`busWrite_drainAll_stores`). -/
theorem writesStoreTheBytes : Obligations.WritesStoreTheBytes := by
  intro s a size v priv lock hw alone hr
  obtain ⟨stored, others⟩ := afterWrite_stores v priv lock hw alone hr
  exact ⟨stored, others, afterWrite_step s a size v priv lock⟩

/-! The write buffer. -/

/-- Settles O51: a write that enters the buffer is performed last (`bufferWrite_drainAll`). -/
theorem writeBufferOrder : Obligations.WriteBufferOrder := by
  intro s e a hlen _
  refine ⟨congrArg (fun t : State => t.byteAt a) (bufferWrite_drainAll s e), (bufferWrite_step s e).buffer hlen, ?_,
    drainAll_writeBuffer s, drainOne_writeBuffer s⟩
  unfold State.bufferWrite
  exact List.getLast?_concat

end Sys2Proof.Claims
end

section
/-! PROOFS. The cache: lines read, filled and written (20 R130, R133 to R135), and what a write leaves in memory through the cache
and the write buffer. -/

namespace Sys2Proof.Machine

/-! Lines. -/

theorem cacheLine_setCacheLine (s : State) (g i : Nat) (l : CacheLine) : (s.setCacheLine g i l).cacheLine g i = l :=
  Vector.getElem_set_self _

theorem cacheHits_lt {s : State} {mva : Word} {i : Nat} (h : i ∈ s.cacheHits mva) : i < 64 :=
  List.mem_range.mp (List.mem_of_mem_filter h)

theorem cacheVictim_forced {s : State} {g : Fin 4} (h : s.cache.forced[g] = true) :
    s.cacheVictim g.val = s.cache.victim[g].toNat := by
  simp only [State.cacheVictim, Fin.ofNat_val_eq_self, h, if_true]

theorem cacheVictim_free {s : State} {g : Fin 4} (h : s.cache.forced[g] = false) :
    s.cache.base.toNat ≤ s.cacheVictim g.val := by
  simp only [State.cacheVictim, Fin.ofNat_val_eq_self, h, Bool.false_eq_true, if_false]
  exact Nat.le_add_right _ _

/-- A fill replaces one of the 64 lines of its segment. -/
theorem cacheVictim_lt (s : State) (g : Nat) : s.cacheVictim g < 64 := by
  unfold State.cacheVictim
  split
  · exact BitVec.isLt _
  · have hb := s.cache.base.isLt
    have := Nat.mod_lt (s.drawn.extractLsb' 0 16).toNat (show 0 < 64 - s.cache.base.toNat by omega)
    omega

theorem fillMovesVictim_lines (s : State) (g : Fin 4) : (s.fillMovesVictim g).cache.lines = s.cache.lines := by
  unfold State.fillMovesVictim
  split <;> rfl

/-! A line fetch. -/

theorem toNat_lineAlign (a : Word) : (lineAlign a).toNat = a.toNat / 32 * 32 := toNat_and_high a 5

/-- The words of a line are at word addresses. -/
theorem wordAlign_lineWord (a : Word) (k : Nat) :
    wordAlign (lineAlign a + BitVec.ofNat 32 (4 * k)) = lineAlign a + BitVec.ofNat 32 (4 * k) := by
  refine BitVec.eq_of_toNat_eq ?_
  rw [toNat_wordAlign, BitVec.toNat_add, toNat_lineAlign, BitVec.toNat_ofNat]
  omega

/-- While no other master writes, a read of RAM gives the word of memory and shows on the bus only. -/
theorem busRead_alone {s : State} {a : Word} {size : Size} (shape : BusShape) (prot : BitVec 4) (lock : Bool)
    (alone : s.masters = []) (hr : s.regionOf (sizeAlign size a) = .ram) :
    ∃ b, busRead s a size shape prot lock = { data := s.memoryWord a, error := false, state := { s with bus := b } } := by
  unfold busRead
  dsimp only
  rw [hr, onBus_alone _ alone]
  exact ⟨_, rfl⟩

/-- A line fetch from RAM gives the words of memory and shows on the bus only. -/
theorem fetchLineWords_alone {s : State} {a : Word} (prot : BitVec 4) {n : Nat} (alone : s.masters = [])
    (hr : ∀ k : Nat, k < n → s.regionOf (lineAlign a + BitVec.ofNat 32 (4 * k)) = .ram) :
    ∃ b, fetchLineWords s a prot n =
      ((List.range n).map (fun k => s.memoryWord (lineAlign a + BitVec.ofNat 32 (4 * k))), { s with bus := b }) := by
  induction n with
  | zero => exact ⟨s.bus, rfl⟩
  | succ n ih =>
    obtain ⟨b, hb⟩ := ih fun k hk => hr k (Nat.lt_succ_of_lt hk)
    obtain ⟨b', hb'⟩ := busRead_alone (s := { s with bus := b }) (size := .word) (lineShape n) prot false alone
      ((congrArg s.regionOf (wordAlign_lineWord a n)).trans (hr n (Nat.lt_succ_self n)))
    refine ⟨b', ?_⟩
    unfold fetchLineWords
    dsimp only
    rw [hb, hb', List.range_succ, List.map_append]
    rfl

/-- A line fill places a valid line with the tag of the address and the words fetched. -/
theorem lineFill_places (s : State) (mva pa : Word) (prot : BitVec 4) : ∃ (line : CacheLine) (u : State),
    lineFill s mva pa prot = (line.data[wordInLine mva], u.setCacheLine (cacheSegment mva)
      ((fetchLineWords s.drainAll pa prot 8).2.cacheVictim (cacheSegment mva)) line) ∧
    line.valid = true ∧ line.tag = mva.extractLsb' 7 25 ∧
    line.data = Vector.ofFn (fun k : Fin 8 => (fetchLineWords s.drainAll pa prot 8).1.getD k.val 0) ∧
    u.cache.lines = (fetchLineWords s.drainAll pa prot 8).2.cache.lines := by
  generalize hr : fetchLineWords s.drainAll pa prot 8 = r
  generalize hu : r.2.fillMovesVictim (Fin.ofNat 4 (cacheSegment mva)) = u
  have hlines : u.cache.lines = r.2.cache.lines := by rw [← hu]; exact fillMovesVictim_lines _ _
  let drawn := u.drew.drawn
  exact ⟨{ tag := mva.extractLsb' 7 25, valid := true, dirtyEven := drawn.getLsbD 2, dirtyOdd := drawn.getLsbD 1
           writeBack := drawn.getLsbD 0
           data := Vector.ofFn fun k => r.1.getD k.val 0 },
    u.drew.drew, by unfold lineFill; dsimp only; rw [hr, hu], rfl, rfl, rfl, hlines⟩

/-! A write. -/

/-- A write to an address that one line holds updates that line in the bytes it writes. -/
theorem updateCache_hit {s : State} {mva : Word} {i : Nat} (size : Size) (v : Word) (h : s.cacheHits mva = [i]) :
    s.updateCache mva size v = s.setCacheLine (cacheSegment mva) i { s.cacheLine (cacheSegment mva) i with
      data := (s.cacheLine (cacheSegment mva) i).data.set (wordInLine mva)
        (((s.cacheLine (cacheSegment mva) i).data[wordInLine mva] &&& ~~~(laneMask s.cp15.b size mva)) |||
          (v &&& laneMask s.cp15.b size mva)) } := by
  rw [State.updateCache, h]
  rfl

theorem updateCache_miss {s : State} {mva : Word} (size : Size) (v : Word) (h : s.cacheHits mva = []) :
    s.updateCache mva size v = s := by
  rw [State.updateCache, h]
  rfl

/-- After the cache, a write goes to the buffer or the bus, which leave the cache. -/
theorem performWrite_cache (s : State) (mva : Word) (m : Mapping) (size : Size) (v : Word) (priv lock : Bool) :
    (performWrite s mva m size v priv lock).1.cache = (s.updateCache mva size v).cache := by
  unfold performWrite
  dsimp only
  split
  · exact bufferWrite_cache _ _
  · exact (busWrite_cache _ _ _).trans (drainAll_cache _)

end Sys2Proof.Machine

namespace Sys2Proof.Claims

open Sys2Proof.Machine

theorem setCacheLine_otherLines (s : State) {g i : Nat} (l : CacheLine) (h : 64 * g + i < 256) :
    OtherLinesSame (64 * g + i) s (s.setCacheLine g i l) := fun k hk =>
  Vector.getElem_set_ne (Fin.isLt _) k.isLt fun e => hk (by rw [← e]; exact (Nat.mod_eq_of_lt h))

/-- A cacheable read that misses fills a line (20 R133, R135). -/
theorem cachedRead_miss {s : State} {mva : Word} (pa : Word) (prot : BitVec 4) {g : Fin 4}
    (hg : g.val = (mva.extractLsb' 5 2).toNat) (alone : s.masters = []) (hmiss : s.cacheHits mva = [])
    (hr : ∀ k : Nat, k < 8 → s.regionOf (lineAlign pa + BitVec.ofNat 32 (4 * k)) = .ram) :
    ∃ (i : Nat) (t : State), i < 64 ∧ (s.cache.forced[g] = true → i = s.cache.victim[g].toNat) ∧
      (s.cache.forced[g] = false → s.cache.base.toNat ≤ i) ∧
      cachedRead s mva pa prot =
        (s.drainAll.memoryWord (lineAlign pa + BitVec.ofNat 32 (4 * (mva.extractLsb' 2 3).toNat)), t) ∧
      (t.cacheLine g.val i).valid = true ∧ (t.cacheLine g.val i).tag = mva.extractLsb' 7 25 ∧
      (∀ k : Fin 8, (t.cacheLine g.val i).data[k] =
        s.drainAll.memoryWord (lineAlign pa + BitVec.ofNat 32 (4 * k.val))) ∧
      OtherLinesSame (64 * g.val + i) s t := by
  obtain ⟨b, hb⟩ := fetchLineWords_alone (s := s.drainAll) (a := pa) prot (n := 8) ((drainAll_step s).alone alone)
    (fun k hk => by rw [(drainAll_step s).regionOf, hr k hk])
  have hseg : cacheSegment mva = g.val := hg.symm
  obtain ⟨line, u, hread, hvalid, htag, hdata, hlines⟩ := lineFill_places s mva pa prot
  rw [hseg] at hread
  have hcache : (fetchLineWords s.drainAll pa prot 8).2.cache = s.cache := by rw [hb]; exact drainAll_cache s
  rw [congrArg Prod.fst hb] at hdata
  generalize (fetchLineWords s.drainAll pa prot 8).2 = r at hread hlines hcache
  have hwords : ∀ k : Fin 8, line.data[k] = s.drainAll.memoryWord (lineAlign pa + BitVec.ofNat 32 (4 * k.val)) := by
    intro k
    rw [hdata]
    simp
  have hmissed : cachedRead s mva pa prot = lineFill s mva pa prot := by
    rw [cachedRead, hmiss]
    rfl
  have hlt := cacheVictim_lt r g.val
  refine ⟨r.cacheVictim g.val, u.setCacheLine g.val (r.cacheVictim g.val) line, hlt, fun hf => ?_, fun hf => ?_,
    hmissed.trans (hread.trans ?_), ?_, ?_, ?_, ?_⟩
  · rw [cacheVictim_forced (by rw [hcache]; exact hf), hcache]
  · rw [← hcache]
    exact cacheVictim_free (by rw [hcache]; exact hf)
  · rw [hwords]
    rw [show (wordInLine mva).val = (mva.extractLsb' 2 3).toNat from Nat.mod_eq_of_lt (BitVec.isLt _)]
  · rw [cacheLine_setCacheLine, hvalid]
  · rw [cacheLine_setCacheLine, htag]
  · rw [cacheLine_setCacheLine]
    exact hwords
  · intro k hk
    rw [setCacheLine_otherLines u line (by omega) k hk, hlines]
    exact congrArg (fun c : Cache => c.lines[k]) hcache

/-- A write reaches memory, through the write buffer or at once (20 R134, R141, R142). -/
theorem performWrite_stores {s : State} (mva v : Word) {m : Mapping} {size : Size} (priv lock : Bool)
    (alone : s.masters = []) (hw : cellsWf s.mem = true) (hr : s.regionOf (firstByte size m.pa) = .ram) :
    BytesStored size m.pa v s (performWrite s mva m size (replicateLanes size v) priv lock).1 := by
  have key : ∀ l : Bool, BytesStored size m.pa v s (busWrite (s.updateCache mva size (replicateLanes size v)).drainAll
      ⟨m.pa, size, replicateLanes size v, s.cp15.b, hprot m.c m.b priv true⟩ l).1 := fun l =>
    busWrite_drainAll_stores (e := ⟨m.pa, size, replicateLanes size v, s.cp15.b, hprot m.c m.b priv true⟩) v l
      (updateCache_step _ _ _ _) (updateCache_settled _ _ _ _) alone hw hr rfl rfl
  unfold performWrite
  dsimp only
  split
  · refine (key false).congr fun a => ?_
    rw [settledByte_of_drained ((busWrite_writeBuffer _ _ _).trans (drainAll_writeBuffer _)), ← bufferWrite_drainAll]
    rfl
  · exact key lock

/-- Settles O50: a read that hits needs no bus, one that misses fills a line (`cachedRead_miss`), and a write goes on to memory
whatever the cache holds (`performWrite_stores`). -/
theorem cachedReadsAndWrites : Obligations.CachedReadsAndWrites := by
  refine ⟨fun s mva pa prot g hg alone => ⟨fun i hit => ?_, fun hmiss hr => ?_⟩, ?_⟩
  · rw [cachedRead, hit, hg]
    rfl
  · obtain ⟨i, t, hi, hforced, hfree, hread, hvalid, htag, hdata, hothers⟩ := cachedRead_miss pa prot hg alone hmiss hr
    have hsettled := cachedRead_settled s mva pa prot
    rw [hread] at hsettled
    exact ⟨i, t, hi, hforced, hfree, hread, hvalid, htag, hdata, hothers, hsettled.byte alone⟩
  · rintro s t mva v m size priv lock g hg rfl
    have hcache := performWrite_cache s mva m size (replicateLanes size v) priv lock
    refine ⟨fun i hit => ?_, fun hmiss => ?_, fun alone hw hr => ?_⟩
    · have hi : i < 64 := cacheHits_lt (s := s) (mva := mva) (by rw [hit]; exact List.mem_singleton.mpr rfl)
      rw [updateCache_hit _ _ hit, show cacheSegment mva = g.val from hg.symm] at hcache
      refine ⟨?_, fun k hk => ?_⟩
      · rw [State.cacheLine, hcache]
        exact cacheLine_setCacheLine s g.val i _
      · rw [hcache]
        exact setCacheLine_otherLines s _ (by omega) k hk
    · rw [hcache, updateCache_miss _ _ hmiss]
    · obtain ⟨stored, others⟩ := performWrite_stores mva v priv lock alone hw hr
      exact ⟨stored, others⟩

end Sys2Proof.Claims
end

section
/-! PROOFS. Data accesses that abort (20 R112, R146; 21 R195, R196, R200, R201). -/

namespace Sys2Proof.Machine

/-- Relocation replaces the top seven bits only (21 R161). -/
theorem relocate_low (s : State) (a : Word) {k l : Nat} (h : k + l ≤ 25) :
    (s.relocate a).extractLsb' k l = a.extractLsb' k l := by
  unfold State.relocate
  split
  · rw [append_field_low _ _ _ _ h, field_field _ _ _ _ _ h, Nat.zero_add]
  · rfl

theorem relocate_bit (s : State) (a : Word) {k : Nat} (h : k < 25) : (s.relocate a).getLsbD k = a.getLsbD k := by
  unfold State.relocate
  split
  · rw [append_bit_low _ _ _ h, BitVec.getLsbD_extractLsb', decide_eq_true h, Nat.zero_add, Bool.true_and]
  · rfl

theorem MemoryStep.cacheOn {s t : State} (h : MemoryStep s t) : t.cacheOn = s.cacheOn := by
  have k := congrArg (fun x : State => x.cacheOn) h.fixed
  exact k

theorem MemoryStep.buffered {s t : State} (h : MemoryStep s t) (m : Mapping) (lock : Bool) :
    t.buffered m lock = s.buffered m lock := by
  have k := congrArg (fun x : State => x.buffered m lock) h.fixed
  exact k

/-! The state of an abort. -/

theorem compared_changes (s : State) (o : Observed) : ∃ i : Ice, s.compared o = { s with ice := i } := by
  unfold State.compared
  split
  · exact ⟨_, rfl⟩
  · exact ⟨s.ice, rfl⟩

/-- Observing an access changes what the comparators and the outputs show. -/
theorem observe_changes (s : State) (o : Observed) :
    ∃ (i : Ice) (tr : Trace), s.observe o = { s with ice := i, trace := tr } := by
  obtain ⟨i, hi⟩ := compared_changes s o
  exact ⟨i, ((s.compared o).recordAccess o).trace, by rw [State.observe, hi]; rfl⟩

theorem abortedWatch_changes (s : State) (hit external : Bool) : ∃ (b : Bool) (d : Debug),
    s.abortedWatch hit external = { s with dcc := { s.dcc with dbgAbt := b }, dbg := d } := by
  unfold State.abortedWatch
  split
  · split
    · exact ⟨_, s.dbg, rfl⟩
    · exact ⟨s.dcc.dbgAbt, _, rfl⟩
  · exact ⟨s.dcc.dbgAbt, s.dbg, rfl⟩

/-- An aborted access changes, after its fault is recorded, the debug logic, the outputs and the count of free values only. -/
theorem abortSeen_changes (s : State) (a : Word) (size : Size) (written : Option Word) (priv external : Bool) :
    ∃ (i : Ice) (b : Bool) (d : Debug) (tr : Trace) (n : Nat), abortSeen s a size written priv external =
      .abort { s with ice := i, dcc := { s.dcc with dbgAbt := b }, dbg := d, trace := tr, draws := n } := by
  unfold abortSeen
  dsimp only
  obtain ⟨b, d, hw⟩ := abortedWatch_changes s
    (s.triggers { dataObserved a (written.getD s.drawn) size written.isSome priv with aborted := true }) external
  rw [hw]
  obtain ⟨i, tr, ho⟩ := observe_changes { s with dcc := { s.dcc with dbgAbt := b }, dbg := d }
    { dataObserved a (written.getD s.drawn) size written.isSome priv with aborted := true }
  rw [ho]
  exact ⟨i, b, _, tr, _, rfl⟩

/-! When an access aborts. -/

theorem dataRead_misaligned {s : State} {a : Word} {size : Size} (priv lock : Bool) (live : s.debugSpeed = false)
    (h : s.misaligned size (s.relocate a) = true) :
    dataRead s a size priv lock = abortSeen (s.alignmentFault (s.relocate a)) a size none priv false := by
  unfold dataRead
  dsimp only
  rw [live, h]
  rfl

theorem dataWrite_misaligned {s : State} {a : Word} {size : Size} (v : Word) (priv lock : Bool) (live : s.debugSpeed = false)
    (h : s.misaligned size (s.relocate a) = true) :
    dataWrite s a size v priv lock =
      abortSeen (s.alignmentFault (s.relocate a)) a size (some (replicateLanes size v)) priv false := by
  unfold dataWrite
  dsimp only
  rw [live, h]
  rfl

/-- FS of an alignment fault is b00x1 (21 R201). -/
theorem alignmentFault_status (s : State) (mva : Word) :
    ∃ (x : Bool) (d : BitVec 4), (s.alignmentFault mva).cp15.fsr = d ++ (if x then 0b0011#4 else 0b0001#4) :=
  ⟨s.drawn.getLsbD 0, s.drawn.extractLsb' 1 4, rfl⟩

theorem and_eq_false_of_imp {x y : Bool} (h : x = true → y = false) : (x && y) = false := by
  cases x
  · rfl
  · exact h rfl

theorem busRead_error {s : State} {a : Word} {size : Size} (shape : BusShape) (prot : BitVec 4) (lock : Bool)
    (h : s.regionOf (sizeAlign size a) = .error) : (busRead s a size shape prot lock).error = true := by
  unfold busRead
  dsimp only
  rw [h]

end Sys2Proof.Machine

namespace Sys2Proof.Claims

open Sys2Proof.Machine

theorem isAlignmentFsr_alignmentFault (s : State) (mva : Word) : isAlignmentFsr (s.alignmentFault mva).cp15.fsr = true := by
  obtain ⟨x, d, h⟩ := alignmentFault_status s mva
  rw [h, isAlignmentFsr, append_field_low _ _ _ _ (by omega), append_bit_low _ _ _ (by omega)]
  cases x <;> rfl

/-- An abort after a fault was recorded in a state `u` that memory reached from `s`. -/
theorem abortSeen_aborted {s u : State} {mva : Word} {fsr : BitVec 8 → Prop} (a : Word) (size : Size) (written : Option Word)
    (priv external : Bool) (step : MemoryStep s u) (kept : Settled s u) (hfar : u.cp15.far = mva) (hfsr : fsr u.cp15.fsr) :
    ∃ t : State, abortSeen u a size written priv external = .abort t ∧ Aborted mva fsr s t := by
  obtain ⟨i, b, d, tr, n, h⟩ := abortSeen_changes u a size written priv external
  have hfrom := abortSeen_from u a size written priv external
  have hkeeps := abortSeen_keeps u a size written priv external
  rw [h] at hfrom hkeeps
  exact ⟨_, h, ⟨hfar, hfsr, (step.trans hfrom).fixed, (kept.trans hkeeps).byte⟩⟩

theorem Aligned.notOdd {s : State} {a : Word} {size : Size} (h : Aligned s a size) :
    ¬ (size = .half ∧ (s.relocate a).getLsbD 0 = true) := by
  rintro ⟨hsize, hodd⟩
  rw [h.even hsize] at hodd
  cases hodd

/-- A misaligned access of a word or a halfword, where the alignment check is on. -/
theorem misaligned_of_low {s : State} {a : Word} {size : Size} (ha : s.cp15.a = true)
    (h : (size = .word ∧ a.extractLsb' 0 2 ≠ 0#2) ∨ (size = .half ∧ a.getLsbD 0 = true)) :
    s.misaligned size (s.relocate a) = true := by
  unfold State.misaligned
  rw [ha, Bool.true_and]
  rcases h with ⟨rfl, h⟩ | ⟨rfl, h⟩
  · rw [relocate_low _ _ (by omega)]
    exact bne_iff_ne.mpr h
  · exact (relocate_bit _ _ (by omega)).trans h

/-- With alignment checking on, a misaligned access aborts (20 R112, 21 R201). -/
theorem misaligned_aborts {s : State} {a : Word} {size : Size} (v : Word) (priv lock : Bool) (live : s.debugSpeed = false)
    (h : s.misaligned size (s.relocate a) = true) :
    (∃ t : State, dataRead s a size priv lock = .abort t ∧ Aborted (s.relocate a) (fun f => isAlignmentFsr f = true) s t) ∧
    ∃ t : State, dataWrite s a size v priv lock = .abort t ∧
      Aborted (s.relocate a) (fun f => isAlignmentFsr f = true) s t := by
  rw [dataRead_misaligned _ _ live h, dataWrite_misaligned _ _ _ live h]
  have seen := fun written => abortSeen_aborted (fsr := fun f => isAlignmentFsr f = true) a size written priv false
    (alignmentFault_step s (s.relocate a)) (alignmentFault_settled s _) rfl (isAlignmentFsr_alignmentFault s _)
  exact ⟨seen _, seen _⟩

/-- An access that the MMU faults (21 R195, R196). -/
theorem translationFault_aborts {s : State} {a : Word} {size : Size} (v : Word) (priv lock : Bool) {fs d : BitVec 4}
    (h : Aligned s a size) :
    ((translate s (s.relocate a) priv false).1 = .fault fs d →
      ∃ t : State, dataRead s a size priv lock = .abort t ∧ Aborted (s.relocate a) (fun f => f = d ++ fs) s t) ∧
    ((translate s (s.relocate a) priv true).1 = .fault fs d →
      ∃ t : State, dataWrite s a size v priv lock = .abort t ∧ Aborted (s.relocate a) (fun f => f = d ++ fs) s t) := by
  have seen := fun (write : Bool) (written : Option Word) => abortSeen_aborted (fsr := fun f => f = d ++ fs) a size written priv
    false ((translate_step s (s.relocate a) priv write).trans (recordFault_step _ fs d (s.relocate a)))
    ((translate_settled s _ priv write).trans (recordFault_settled _ fs d _)) rfl rfl
  refine ⟨fun hfault => ?_, fun hfault => ?_⟩
  · unfold dataRead
    dsimp only
    rw [h.live, h.aligned, if_neg h.notOdd, hfault]
    exact seen false none
  · unfold dataWrite
    dsimp only
    rw [h.live, h.aligned, if_neg h.notOdd, hfault]
    exact seen true _

/-- A read that goes to the bus in an ERROR region (20 R146). -/
theorem externalOrCached_error {s : State} (mva : Word) {m : Mapping} {size : Size} (priv isData : Bool) {lock : Bool}
    (hr : s.regionOf (firstByte size m.pa) = .error) (hlock : lock = true → m.c = false)
    (hcache : lock = false → s.cacheOn = false ∨ m.c = false) :
    (externalOrCached s mva m size priv isData lock).error = true := by
  have hbus : (s.cacheOn && m.c && !lock) = false := by
    cases lock
    · rcases hcache rfl with h | h
      · rw [h]; rfl
      · rw [h, Bool.and_false]; rfl
    · exact Bool.and_false _
  have hregion : s.drainAll.regionOf (sizeAlign size m.pa) = .error := by
    rw [(drainAll_step s).regionOf, sizeAlign_eq]; exact hr
  have hmay : (lock && m.c) = false := and_eq_false_of_imp hlock
  unfold externalOrCached
  dsimp only
  rw [hbus, hmay]
  exact (Bool.and_true _).trans (busRead_error _ _ _ hregion)

/-- A write that goes to the bus in an ERROR region stores nothing (20 R146). -/
theorem performWrite_error {s : State} (mva v : Word) {m : Mapping} {size : Size} (priv : Bool) {lock : Bool}
    (hr : s.regionOf (firstByte size m.pa) = .error) (hlock : lock = true → m.c = false)
    (hbuffer : s.buffered m lock = false) :
    (performWrite s mva m size v priv lock).2 = true ∧ Settled s (performWrite s mva m size v priv lock).1 := by
  have hstep := (updateCache_step s mva size v).trans (drainAll_step _)
  obtain ⟨x, hx⟩ := busWrite_error (s := (s.updateCache mva size v).drainAll)
    (e := ⟨m.pa, size, v, s.cp15.b, hprot m.c m.b priv true⟩) lock (by rw [hstep.regionOf]; exact hr)
  have hmay : (lock && m.c) = false := and_eq_false_of_imp hlock
  unfold performWrite
  dsimp only
  rw [hbuffer, hmay, if_neg (by decide), hx]
  exact ⟨rfl, ((updateCache_settled s mva size v).trans (drainAll_settled _)).trans (onBus_settled _ _)⟩

/-- An access to an ERROR region that goes to the bus (20 R146). -/
theorem error_aborts {s : State} {a : Word} {size : Size} (v : Word) (priv : Bool) {lock : Bool} {m : Mapping}
    (h : Aligned s a size) (hr : s.regionOf (firstByte size m.pa) = .error) (hlock : lock = true → m.c = false) :
    ((translate s (s.relocate a) priv false).1 = .mapped m → (lock = false → s.cacheOn = false ∨ m.c = false) →
      ∃ t : State, dataRead s a size priv lock = .abort t ∧
        Aborted (s.relocate a) (fun f => f = m.abortDomain ++ m.abortFs) s t) ∧
    ((translate s (s.relocate a) priv true).1 = .mapped m →
      (lock = false → s.cp15.m = false ∨ s.cp15.w = false ∨ m.b = false) →
      ∃ t : State, dataWrite s a size v priv lock = .abort t ∧
        Aborted (s.relocate a) (fun f => f = m.abortDomain ++ m.abortFs) s t) := by
  refine ⟨fun hmapped hcache => ?_, fun hmapped hbuffer => ?_⟩
  · have htrans := translate_step s (s.relocate a) priv false
    have herror := externalOrCached_error (s := (translate s (s.relocate a) priv false).2) (s.relocate a) (m := m)
      (size := size) priv true (by rw [htrans.regionOf]; exact hr) hlock (by rw [htrans.cacheOn]; exact hcache)
    unfold dataRead
    dsimp only
    rw [h.live, h.aligned, if_neg h.notOdd, hmapped]
    dsimp only
    rw [herror]
    exact abortSeen_aborted a size none priv true
      ((htrans.trans (externalOrCached_step _ _ m size priv true lock)).trans (externalAbort_step _ m _))
      (((translate_settled s _ priv false).trans (externalOrCached_settled _ _ m size priv true lock)).trans
        (externalAbort_settled _ m _)) rfl rfl
  · have htrans := translate_step s (s.relocate a) priv true
    have hunbuffered : s.buffered m lock = false := by
      unfold State.buffered
      cases lock
      · rcases hbuffer rfl with hoff | hoff | hoff <;> simp [hoff]
      · exact Bool.and_false _
    have hmay : (lock && m.c) = false := and_eq_false_of_imp hlock
    have hregion : (translate s (s.relocate a) priv true).2.regionOf (firstByte size m.pa) = .error := by
      rw [htrans.regionOf]; exact hr
    obtain ⟨herror, hkept⟩ := performWrite_error (s := (translate s (s.relocate a) priv true).2) (s.relocate a)
      (s.dataToSystem (replicateLanes size v)) priv hregion hlock (by rw [htrans.buffered]; exact hunbuffered)
    unfold dataWrite
    dsimp only
    rw [h.live, h.aligned, if_neg h.notOdd, hmapped]
    dsimp only
    rw [hunbuffered, hmay, sizeAlign_eq, hregion, herror]
    simp only [Bool.false_eq_true, if_false, Bool.not_false, Bool.and_true, beq_self_eq_true, Bool.not_true, Bool.and_false,
      if_true]
    exact abortSeen_aborted a size _ priv true
      ((htrans.trans (performWrite_step _ _ m size _ priv lock)).trans (externalAbort_step _ m _))
      (((translate_settled s _ priv true).trans hkept).trans (externalAbort_settled _ m _)) rfl rfl

end Sys2Proof.Claims
end

section
/-! PROOFS. The data abort taken after an aborted transfer (60 R620, R633), and the single word transfers that the alignment check
stops (20 R112, 42 R397). -/

namespace Sys2Proof.Machine

/-- What entering the data abort writes: the link, the saved status, the new status, the PC and the queue (60 R621). -/
theorem takeException_dataAbort (s : State) : s.takeException .dataAbort = { s with
    cpsr := { s.cpsr with m := modeAbt, t := false, i := true, f := s.cpsr.f || false }
    gpr := s.gpr.set (physIndex modeAbt 14#4) (s.pc + 8#32)
    spsrAbt := s.cpsr
    pc := s.vectorBase + exceptionOffset .dataAbort
    queue := [] } := rfl

theorem writeBack_eq (s : State) (m : Addressing) (rn : RegNum) : s.writeBack m rn = { s with
    gpr := if m.writeback then s.gpr.set (physIndex s.cpsr.m rn) m.offAddr else s.gpr } := by
  unfold State.writeBack
  split <;> rfl

theorem guardBase_pass {m : Addressing} {rn rd : RegNum} {body : Result}
    (h : m.writeback = true → rn ≠ 15#4 ∧ rn ≠ rd) : guardBase m rn rd body = body := by
  cases hw : m.writeback
  · simp [guardBase, guardPc, guardClash, hw]
  · obtain ⟨h15, hrd⟩ := h hw
    simp [guardBase, guardPc, guardClash, hw, h15, hrd]

end Sys2Proof.Machine

namespace Sys2Proof.Claims

open Sys2Proof.Machine

theorem dataAbort_vector (s : State) : AtVector .dataAbort (s.takeException .dataAbort) := ⟨rfl, rfl, rfl, rfl⟩

theorem dataAbort_link (s : State) : (s.takeException .dataAbort).gpr[physIndex modeAbt 14#4] = s.pc + 8#32 :=
  Vector.getElem_set_self _

theorem dataAbort_gpr (s : State) {k : Fin 30} (h : k ≠ physIndex modeAbt 14#4) :
    (s.takeException .dataAbort).gpr[k] = s.gpr[k] :=
  Vector.getElem_set_ne (Fin.isLt _) k.isLt fun e => h (Fin.ext e.symm)

theorem dataAbort_spsrOf (s : State) {m : BitVec 5} (h : m ≠ modeAbt) :
    (s.takeException .dataAbort).spsrOf m = s.spsrOf m := by
  unfold State.spsrOf
  rw [takeException_dataAbort, if_neg h, if_neg h]

/-! Single word transfers. -/

/-- A base that is written back is neither r15 nor Rd. -/
theorem WordForm.ok.base {form : WordForm} {rd : RegNum} {s : State} (h : form.ok rd)
    (hw : (form.addressing s).writeback = true) : form.base ≠ 15#4 ∧ form.base ≠ rd := by
  cases form with
  | immPre => exact h hw
  | immPost => exact h
  | immUser => exact h
  | regPre => exact h.2 hw
  | regPost => exact h.2
  | regUser => exact h.2

/-- A word load that no restriction stops (42 R398, R402). -/
theorem exec_loadWord {form : WordForm} {cond : Cond} {rd : RegNum} {s : State} (hc : condPassed cond s.cpsr = true)
    (ok : form.ok rd) (hrd : form.user = true → rd ≠ 15#4) :
    exec (loadInstr cond rd false form) s =
      loadSingle .word false (form.priv s) (form.addressing s) form.base rd s := by
  rw [← guardBase_pass (body := loadSingle _ _ _ _ _ _ s) (WordForm.ok.base (s := s) ok)]
  cases form with
  | immPre => exact conditionally_pass hc
  | immPost => exact conditionally_pass hc
  | immUser => exact (conditionally_pass hc).trans (guardPc_pass (beq_false_of_ne (hrd rfl)))
  | regPre => exact (conditionally_pass hc).trans (guardPc_pass (beq_false_of_ne ok.1))
  | regPost => exact (conditionally_pass hc).trans (guardPc_pass (beq_false_of_ne ok.1))
  | regUser => exact (conditionally_pass hc).trans (guardPc_pass (Bool.or_eq_false_iff.mpr
      ⟨beq_false_of_ne ok.1, beq_false_of_ne (hrd rfl)⟩))

/-- A word store that no restriction stops (42 R400, R404). -/
theorem exec_storeWord {form : WordForm} {cond : Cond} {rd : RegNum} {s : State} (hc : condPassed cond s.cpsr = true)
    (ok : form.ok rd) : exec (storeInstr cond rd false form) s =
      storeSingle .word (form.priv s) (form.addressing s) form.base (s.regLate rd) s := by
  rw [← guardBase_pass (body := storeSingle _ _ _ _ _ s) (WordForm.ok.base (s := s) ok)]
  cases form with
  | immPre => exact conditionally_pass hc
  | immPost => exact conditionally_pass hc
  | immUser => exact conditionally_pass hc
  | regPre => exact (conditionally_pass hc).trans (guardPc_pass (beq_false_of_ne ok.1))
  | regPost => exact (conditionally_pass hc).trans (guardPc_pass (beq_false_of_ne ok.1))
  | regUser => exact (conditionally_pass hc).trans (guardPc_pass (beq_false_of_ne ok.1))

/-- What an access that the alignment check stops leaves: the fault, and what the debug logic and the outputs show. -/
def AlignmentAborted (mva : Word) (s t : State) : Prop :=
  ∃ (f : BitVec 8) (i : Ice) (b : Bool) (d : Debug) (tr : Trace) (n : Nat), isAlignmentFsr f = true ∧
    t = { s with cp15 := { s.cp15 with fsr := f, far := mva }, ice := i, dcc := { s.dcc with dbgAbt := b }, dbg := d,
                 trace := tr, draws := n }

theorem abortSeen_alignmentFault (s : State) (a mva : Word) (size : Size) (written : Option Word) (priv external : Bool) :
    ∃ t : State, abortSeen (s.alignmentFault mva) a size written priv external = .abort t ∧ AlignmentAborted mva s t := by
  obtain ⟨i, b, d, tr, n, h⟩ := abortSeen_changes (s.alignmentFault mva) a size written priv external
  exact ⟨_, h, _, i, b, d, tr, n, isAlignmentFsr_alignmentFault s mva, rfl⟩

/-- A single transfer that the alignment check stops takes the data abort with its base written back (42 R397). -/
theorem alignmentAbort_taken {s u t : State} {mva : Word} {m : Addressing} {rn : RegNum} (h : AlignmentAborted mva s u)
    (ht : t = (u.writeBack m rn).takeException .dataAbort) :
    AtVector .dataAbort t ∧ t.spsrAbt = s.cpsr ∧ t.gpr[physIndex modeAbt 14#4] = s.pc + 8#32 ∧
    t.cp15.far = mva ∧ isAlignmentFsr t.cp15.fsr = true ∧
    (m.writeback = true → physIndex s.cpsr.m rn ≠ physIndex modeAbt 14#4 → t.gpr[physIndex s.cpsr.m rn] = m.offAddr) ∧
    (∀ k : Fin 30, k ≠ physIndex modeAbt 14#4 → (m.writeback = true → k ≠ physIndex s.cpsr.m rn) → t.gpr[k] = s.gpr[k]) ∧
    (∀ m : BitVec 5, m ≠ modeAbt → t.spsrOf m = s.spsrOf m) ∧
    t.cp15 = { s.cp15 with fsr := t.cp15.fsr, far := t.cp15.far } ∧ t.cache = s.cache ∧ t.tlb = s.tlb ∧
    { t.dcc with dbgAbt := s.dcc.dbgAbt } = s.dcc ∧
    (s.masters = [] → ∀ a : Word, t.settledByte a = s.settledByte a) := by
  obtain ⟨f, i, b, d, tr, n, hf, rfl⟩ := h
  subst ht
  rw [writeBack_eq]
  refine ⟨dataAbort_vector _, rfl, dataAbort_link _, rfl, hf, fun hw hne => ?_, fun k hne hbase => ?_,
    fun _ hm => dataAbort_spsrOf _ hm, rfl, rfl, rfl, rfl, Settled.byte (.of_eq rfl rfl rfl rfl)⟩
  · rw [dataAbort_gpr _ hne, if_pos hw]
    exact Vector.getElem_set_self _
  · rw [dataAbort_gpr _ hne]
    dsimp only
    split
    · exact Vector.getElem_set_ne (Fin.isLt _) k.isLt fun e => hbase ‹_› (Fin.ext e.symm)
    · rfl

/-- A misaligned word load, with alignment checking on. -/
theorem loadSingle_misaligned {s : State} {m : Addressing} (priv : Bool) (rn rd : RegNum) (live : s.debugSpeed = false)
    (h : s.misaligned .word (s.relocate m.addr) = true) : ∃ u : State,
    loadSingle .word false priv m rn rd s = .next ((u.writeBack m rn).takeException .dataAbort) ∧
      AlignmentAborted (s.relocate m.addr) s u := by
  obtain ⟨u, hu, haborted⟩ := abortSeen_alignmentFault s m.addr (s.relocate m.addr) .word none priv false
  exact ⟨u, by rw [loadSingle, dataRead_misaligned _ _ live h, hu], haborted⟩

/-- A misaligned word store likewise. -/
theorem storeSingle_misaligned {s : State} {m : Addressing} (priv : Bool) (rn : RegNum) (v : Word) (live : s.debugSpeed = false)
    (h : s.misaligned .word (s.relocate m.addr) = true) : ∃ u : State,
    storeSingle .word priv m rn v s = .next ((u.writeBack m rn).takeException .dataAbort) ∧
      AlignmentAborted (s.relocate m.addr) s u := by
  obtain ⟨u, hu, haborted⟩ := abortSeen_alignmentFault s m.addr (s.relocate m.addr) .word (some (replicateLanes .word v)) priv
    false
  exact ⟨u, by rw [storeSingle, dataWrite_misaligned _ _ _ live h, hu], haborted⟩

/-- Settles O26: each check of an access ends in `abortSeen`, which keeps the fault just recorded (`abortSeen_aborted`). -/
theorem dataAccessesAbort : Obligations.DataAccessesAbort := by
  refine ⟨fun s a v size priv lock live ha hlow => misaligned_aborts v priv lock live (misaligned_of_low ha hlow),
    fun s a v size priv lock fs d h => translationFault_aborts v priv lock h,
    fun s a v size priv lock m h hr hlock => error_aborts v priv h hr hlock, ?_⟩
  intro form cond rd s i hc ok hrd halted ha hlow hi
  have live : s.debugSpeed = false := by rw [State.debugSpeed, halted]; rfl
  have hmis : s.misaligned .word (s.relocate (form.addressing s).addr) = true := misaligned_of_low ha (.inl ⟨rfl, hlow⟩)
  have taken : ∃ u : State,
      exec i s = .next ((u.writeBack (form.addressing s) form.base).takeException .dataAbort) ∧
        AlignmentAborted (s.relocate (form.addressing s).addr) s u := by
    rcases hi with rfl | rfl
    · rw [exec_loadWord hc ok hrd]
      exact loadSingle_misaligned _ _ _ live hmis
    · rw [exec_storeWord hc ok]
      exact storeSingle_misaligned _ _ _ live hmis
  obtain ⟨u, hexec, haborted⟩ := taken
  exact ⟨_, hexec, alignmentAbort_taken haborted rfl⟩

end Sys2Proof.Claims
end

section
/-! PROOFS. What records no fault: the fault registers and the debug communications channel stay through every operation of memory
but an abort. -/

namespace Sys2Proof.Machine

/-- The system coprocessor and the debug communications channel are the same: no fault has been recorded. -/
structure Unrecorded (s t : State) : Prop where
  cp15 : t.cp15 = s.cp15
  dcc : t.dcc = s.dcc

theorem Unrecorded.refl (s : State) : Unrecorded s s := ⟨rfl, rfl⟩

theorem Unrecorded.trans {s t u : State} (h : Unrecorded s t) (k : Unrecorded t u) : Unrecorded s u :=
  ⟨k.cp15.trans h.cp15, k.dcc.trans h.dcc⟩

theorem drew_unrecorded (s : State) : Unrecorded s s.drew := ⟨rfl, rfl⟩

/-! The bus and the write buffer. -/

theorem onBus_unrecorded (s : State) (t : BusTransfer) : Unrecorded s (s.onBus t) := ⟨rfl, rfl⟩

theorem busRead_unrecorded (s : State) (a : Word) (size : Size) (shape : BusShape) (prot : BitVec 4) (lock : Bool) :
    Unrecorded s (busRead s a size shape prot lock).state := by
  unfold busRead
  cases s.regionOf (sizeAlign size a) <;> exact ⟨rfl, rfl⟩

theorem busWrite_unrecorded (s : State) (e : BufferedWrite) (lock : Bool) : Unrecorded s (busWrite s e lock).1 := by
  obtain ⟨m, b, x, h⟩ := busWrite_changes s e lock
  rw [h]
  exact ⟨rfl, rfl⟩

theorem drainOne_unrecorded (s : State) : Unrecorded s s.drainOne := by
  obtain ⟨w, m, b, x, h⟩ := drainOne_changes s
  rw [h]
  exact ⟨rfl, rfl⟩

theorem drainAll_unrecorded (s : State) : Unrecorded s s.drainAll := by
  obtain ⟨w, m, b, x, h⟩ := drainAll_changes s
  rw [h]
  exact ⟨rfl, rfl⟩

theorem bufferWrite_unrecorded (s : State) (e : BufferedWrite) : Unrecorded s (s.bufferWrite e) := by
  unfold State.bufferWrite
  split
  · exact ⟨rfl, rfl⟩
  · exact (drainOne_unrecorded s).trans ⟨rfl, rfl⟩

/-! The TLB and the table walk. -/

theorem pick_unrecorded (s : State) (ks : List Nat) : Unrecorded s (s.pick ks).2 := by
  match ks with
  | [] => exact .refl s
  | [_] => exact .refl s
  | _ :: _ :: _ => exact drew_unrecorded s

theorem tlbLookup_unrecorded (s : State) (a : Word) : Unrecorded s (s.tlbLookup a).2 := pick_unrecorded s _

theorem fillTlb_unrecorded (s : State) (e : TlbEntry) : Unrecorded s (s.fillTlb e) := ⟨rfl, rfl⟩

theorem readDescriptor_unrecorded (s : State) (a : Word) : Unrecorded s (readDescriptor s a).2 :=
  (drainAll_unrecorded s).trans (busRead_unrecorded _ _ _ _ _ _)

theorem walk_unrecorded (s : State) (a : Word) : Unrecorded s (walk s a).2 := by
  unfold walk
  dsimp only
  split
  · exact readDescriptor_unrecorded s _
  · exact readDescriptor_unrecorded s _
  · exact (readDescriptor_unrecorded s _).trans (readDescriptor_unrecorded _ _)
  · exact (readDescriptor_unrecorded s _).trans (readDescriptor_unrecorded _ _)

/-- A translation records no fault, also where it ends in one. -/
theorem translate_unrecorded (s : State) (a : Word) (priv write : Bool) : Unrecorded s (translate s a priv write).2 := by
  unfold translate
  dsimp only
  split
  · split
    · exact tlbLookup_unrecorded s a
    · have h := (tlbLookup_unrecorded s a).trans (walk_unrecorded _ a)
      split
      · exact h.trans (fillTlb_unrecorded _ _)
      · exact h.trans (drew_unrecorded _)
      · exact h
      · exact h
  · exact .refl s

/-! The cache. -/

theorem setCacheLine_unrecorded (s : State) (g i : Nat) (l : CacheLine) : Unrecorded s (s.setCacheLine g i l) := ⟨rfl, rfl⟩

theorem fetchLineWords_unrecorded (s : State) (a : Word) (prot : BitVec 4) (n : Nat) :
    Unrecorded s (fetchLineWords s a prot n).2 := by
  induction n with
  | zero => exact .refl s
  | succ n ih => exact ih.trans (busRead_unrecorded _ _ _ _ _ _)

theorem fillMovesVictim_unrecorded (s : State) (g : Fin 4) : Unrecorded s (s.fillMovesVictim g) := by
  unfold State.fillMovesVictim
  split <;> exact ⟨rfl, rfl⟩

theorem cachedRead_unrecorded (s : State) (mva pa : Word) (prot : BitVec 4) : Unrecorded s (cachedRead s mva pa prot).2 := by
  unfold cachedRead
  dsimp only
  split
  · exact pick_unrecorded s _
  · exact (pick_unrecorded s _).trans (((drainAll_unrecorded _).trans (fetchLineWords_unrecorded _ pa prot 8)).trans
      ((fillMovesVictim_unrecorded _ _).trans
        ((drew_unrecorded _).trans ((drew_unrecorded _).trans (setCacheLine_unrecorded _ _ _ _)))))

theorem externalOrCached_unrecorded (s : State) (mva : Word) (m : Mapping) (size : Size) (priv isData lock : Bool) :
    Unrecorded s (externalOrCached s mva m size priv isData lock).state := by
  unfold externalOrCached
  dsimp only
  split
  · exact cachedRead_unrecorded _ _ _ _
  · exact (drainAll_unrecorded s).trans (busRead_unrecorded _ _ _ _ _ _)

theorem updateCache_unrecorded (s : State) (mva : Word) (size : Size) (v : Word) :
    Unrecorded s (s.updateCache mva size v) :=
  foldl_relates Unrecorded.refl (fun _ _ _ => Unrecorded.trans) (fun t i => setCacheLine_unrecorded t _ i _) s _

theorem performWrite_unrecorded (s : State) (mva : Word) (m : Mapping) (size : Size) (v : Word) (priv lock : Bool) :
    Unrecorded s (performWrite s mva m size v priv lock).1 := by
  unfold performWrite
  dsimp only
  split
  · exact (updateCache_unrecorded s _ _ _).trans (bufferWrite_unrecorded _ _)
  · exact ((updateCache_unrecorded s _ _ _).trans (drainAll_unrecorded _)).trans (busWrite_unrecorded _ _ _)

/-! Accesses and fetches. -/

theorem observe_unrecorded (s : State) (o : Observed) : Unrecorded s (s.observe o) := by
  obtain ⟨i, tr, h⟩ := observe_changes s o
  rw [h]
  exact ⟨rfl, rfl⟩

theorem takeDataIn_unrecorded (s : State) : Unrecorded s s.takeDataIn.2 := by
  unfold State.takeDataIn
  split <;> exact ⟨rfl, rfl⟩

/-- An access that completes records no fault. -/
def Access.Unrecorded (s : State) : Access → Prop
  | .done _ t => Machine.Unrecorded s t
  | .abort _ => True
  | .refused _ => True

theorem watchOutcome_unrecorded {s t : State} (h : Unrecorded s t) (hit : Bool) (v : Word) :
    Access.Unrecorded s (watchOutcome hit v t) := by
  unfold watchOutcome
  split
  · split
    · trivial
    · exact h.trans ⟨rfl, rfl⟩
  · exact h

theorem dataRead_unrecorded (s : State) (va : Word) (size : Size) (priv lock : Bool) :
    Access.Unrecorded s (dataRead s va size priv lock) := by
  unfold dataRead
  dsimp only
  split
  · exact (takeDataIn_unrecorded s).trans (observe_unrecorded _ _)
  · split
    · trivial
    · split
      · trivial
      · split
        · trivial
        · trivial
        · split
          · trivial
          · exact watchOutcome_unrecorded (((translate_unrecorded s (s.relocate va) priv false).trans
              (externalOrCached_unrecorded _ _ _ _ _ _ _)).trans (observe_unrecorded _ _)) _ _

theorem dataWrite_unrecorded (s : State) (va : Word) (size : Size) (v : Word) (priv lock : Bool) :
    Access.Unrecorded s (dataWrite s va size v priv lock) := by
  unfold dataWrite
  dsimp only
  split
  · exact Machine.Unrecorded.trans (t := s.putDataOut _) ⟨rfl, rfl⟩ (observe_unrecorded _ _)
  · split
    · trivial
    · split
      · trivial
      · have ht := translate_unrecorded s (s.relocate va) priv true
        split
        · trivial
        · trivial
        · split
          · exact watchOutcome_unrecorded (ht.trans (observe_unrecorded _ _)) _ _
          · split
            · trivial
            · exact watchOutcome_unrecorded ((ht.trans (performWrite_unrecorded _ _ _ _ _ _ _)).trans
                (observe_unrecorded _ _)) _ _

theorem makeSlot_unrecorded (s : State) (a w cell : Word) (mark : FetchMark) :
    Unrecorded s (makeSlot s a w cell mark).2 := observe_unrecorded s _

/-- A fetch that aborts records no fault either (21 R200). -/
theorem fetchSlot_unrecorded (s : State) (a : Word) : Unrecorded s (fetchSlot s a).2 := by
  unfold fetchSlot
  dsimp only
  have ht := translate_unrecorded s (s.relocate (wordAlign a)) s.privileged false
  split
  · exact ht.trans ((drew_unrecorded _).trans (makeSlot_unrecorded _ _ _ _ _))
  · exact ht.trans ((drew_unrecorded _).trans (makeSlot_unrecorded _ _ _ _ _))
  · exact ht.trans ((externalOrCached_unrecorded _ _ _ _ _ _ _).trans (makeSlot_unrecorded _ _ _ _ _))

theorem nextSlot_unrecorded (s : State) (a : Word) : Unrecorded s (nextSlot s a).2 := by
  unfold nextSlot
  split
  · split
    · exact makeSlot_unrecorded _ _ _ _ _
    · exact fetchSlot_unrecorded _ _
  · exact fetchSlot_unrecorded _ _

/-! A fetch leaves memory as it will settle. -/

theorem makeSlot_settled (s : State) (a w cell : Word) (mark : FetchMark) : Settled s (makeSlot s a w cell mark).2 :=
  observe_settled s _

theorem fetchSlot_settled (s : State) (a : Word) : Settled s (fetchSlot s a).2 := by
  unfold fetchSlot
  dsimp only
  have ht := translate_settled s (s.relocate (wordAlign a)) s.privileged false
  split
  · exact ht.trans ((drew_settled _).trans (makeSlot_settled _ _ _ _ _))
  · exact ht.trans ((drew_settled _).trans (makeSlot_settled _ _ _ _ _))
  · exact ht.trans ((externalOrCached_settled _ _ _ _ _ _ _).trans (makeSlot_settled _ _ _ _ _))

theorem nextSlot_settled (s : State) (a : Word) : Settled s (nextSlot s a).2 := by
  unfold nextSlot
  split
  · split
    · exact makeSlot_settled _ _ _ _ _
    · exact fetchSlot_settled _ _
  · exact fetchSlot_settled _ _

end Sys2Proof.Machine
end

section
/-! PROOFS. The prefetch queue: what its first slot holds and what filling it leaves (20 R105, R106, R118; 70 R751). -/

namespace Sys2Proof.Machine

/-! What a fetch leaves. -/

/-- What filling the queue may do beside the queue: a step of memory that records no fault and leaves memory as it will settle. -/
structure Fetched (s t : State) : Prop where
  unrecorded : Unrecorded s t
  settled : Settled s t
  step : MemoryStep s { t with queue := s.queue }

/-- The queue has no part in a step of memory. -/
theorem MemoryStep.withQueue {s t : State} (q : List FetchSlot) (h : MemoryStep s t) :
    MemoryStep { s with queue := q } { t with queue := q } :=
  ⟨congrArg (fun x : State => { x with queue := q }) h.fixed, h.alone, h.memory, h.buffer⟩

theorem Fetched.refl (s : State) : Fetched s s := ⟨.refl s, .refl s, .refl s⟩

theorem Fetched.trans {s t u : State} (h : Fetched s t) (k : Fetched t u) : Fetched s u :=
  ⟨h.unrecorded.trans k.unrecorded, h.settled.trans k.settled, h.step.trans (k.step.withQueue s.queue)⟩

theorem nextSlot_fetched (s : State) (a : Word) (q : List FetchSlot) :
    Fetched s { (nextSlot s a).2 with queue := q } := by
  have hstep := nextSlot_step s a
  have hsettled := nextSlot_settled s a
  have hunrecorded := nextSlot_unrecorded s a
  refine ⟨hunrecorded.trans ⟨rfl, rfl⟩, hsettled.trans (.of_eq rfl rfl rfl rfl), ?_⟩
  have h := hstep.withQueue s.queue
  exact h

theorem fillQueue_fetched (s : State) (n : Nat) : Fetched s (s.fillQueue n) := by
  induction n generalizing s with
  | zero => exact .refl s
  | succ n ih =>
    unfold State.fillQueue
    split
    · exact (nextSlot_fetched s _ _).trans (ih _)
    · exact .refl s

/-- Filling the queue appends to it. -/
theorem fillQueue_queue (s : State) (n : Nat) : ∃ rest, (s.fillQueue n).queue = s.queue ++ rest := by
  induction n generalizing s with
  | zero => exact ⟨[], (List.append_nil _).symm⟩
  | succ n ih =>
    unfold State.fillQueue
    split
    · obtain ⟨rest, h⟩ := ih { (nextSlot s (s.pc + s.instrBytes * BitVec.ofNat 32 s.queue.length)).2 with
        queue := (nextSlot s (s.pc + s.instrBytes * BitVec.ofNat 32 s.queue.length)).2.queue ++
          [(nextSlot s (s.pc + s.instrBytes * BitVec.ofNat 32 s.queue.length)).1] }
      rw [h, (nextSlot_step s _).queue, List.append_assoc]
      exact ⟨_, rfl⟩
    · exact ⟨[], (List.append_nil _).symm⟩

/-- The first slot of an empty queue is fetched at the PC. -/
theorem fillQueue_first {s : State} (h : s.queue = []) (n : Nat) :
    ∃ rest, (s.fillQueue (n + 1)).queue = (fetchSlot s s.pc).1 :: rest := by
  have hfirst : nextSlot s (s.pc + s.instrBytes * BitVec.ofNat 32 s.queue.length) = fetchSlot s s.pc := by
    rw [h, List.length_nil, show s.instrBytes * BitVec.ofNat 32 0 = 0#32 from BitVec.mul_zero, BitVec.add_zero, nextSlot, h]
    rfl
  obtain ⟨rest, hrest⟩ := fillQueue_queue { (fetchSlot s s.pc).2 with
    queue := (fetchSlot s s.pc).2.queue ++ [(fetchSlot s s.pc).1] } n
  refine ⟨rest, ?_⟩
  unfold State.fillQueue
  dsimp only
  rw [if_pos (by rw [h]; decide), hfirst, hrest, ← hfirst, (nextSlot_step s _).queue, h]
  rfl

/-- The outputs show a slot; nothing else follows it. -/
theorem showSlot_changes (s : State) (q : FetchSlot) : ∃ tr : Trace, s.showSlot q = { s with trace := tr } := by
  unfold State.showSlot State.showWord
  split
  · exact ⟨_, rfl⟩
  · exact ⟨_, rfl⟩

theorem driveEtm_changes (s : State) : ∃ tr : Trace, s.driveEtm = { s with trace := tr } := by
  unfold State.driveEtm
  split
  · exact ⟨_, rfl⟩
  · exact ⟨s.trace, rfl⟩

/-- With the MMU off every address is mapped to itself (21 R167). -/
theorem translate_flat {s : State} (h : s.cp15.m = false) (a : Word) (priv write : Bool) :
    translate s a priv write = (.mapped (s.flatMapping a), s) := if_neg (by rw [h]; exact Bool.false_ne_true)

end Sys2Proof.Machine

namespace Sys2Proof.Claims

open Sys2Proof.Machine

theorem and_two (a : Word) : a &&& 2#32 = BitVec.ofNat 32 (if a.getLsbD 1 then 2 else 0) := by
  refine (BitVec.and_twoPow a 1).trans ?_
  split <;> rfl

/-- An address of a word stays one when it is relocated. -/
theorem wordAlign_relocate (s : State) (a : Word) : wordAlign (s.relocate (wordAlign a)) = s.relocate (wordAlign a) := by
  have hlow := congrArg BitVec.toNat (relocate_low s (wordAlign a) (k := 0) (l := 2) (by omega))
  rw [BitVec.extractLsb'_toNat, BitVec.extractLsb'_toNat, Nat.shiftRight_zero, Nat.shiftRight_zero, toNat_wordAlign] at hlow
  refine BitVec.eq_of_toNat_eq ?_
  rw [toNat_wordAlign]
  omega

theorem byteOfValue_fetched (s : State) {mva : Word} (halign : wordAlign mva = mva) (a : Word) :
    (∀ j : Nat, j < 4 → byteOfValue s.cp15.b 4 j (instrBits false s.cp15.b a (s.drainAll.memoryWord mva)) =
      s.settledByte (mva + BitVec.ofNat 32 j)) ∧
    ∀ j : Nat, j < 2 → byteOfValue s.cp15.b 2 j (instrBits true s.cp15.b a (s.drainAll.memoryWord mva)) =
      s.settledByte (mva + (a &&& 2#32) + BitVec.ofNat 32 j) := by
  refine ⟨fun j hj => ?_, fun j hj => ?_⟩
  · have h := byteOfValue_read s .word mva hj
    rw [show firstByte .word mva = mva from halign] at h
    exact h
  · obtain ⟨k, hk⟩ := exists_offset .half a hj
    obtain ⟨-, hoffset⟩ := offset_half hk
    have hlane := laneByte_memoryWord s.drainAll mva (sizeOffsets_lt (List.mem_of_getElem? hk))
    rw [(drainAll_step s).bigEndian, halign] at hlane
    refine ((byteOfValue_selectLanes s.cp15.b _ hk).trans hlane).trans ?_
    rw [and_two, BitVec.add_assoc, ← BitVec.ofNat_add, ← hoffset]
    rfl

/-- With the MMU off a fetch from RAM is of the word of memory. -/
theorem fetchSlot_flat {s : State} {a : Word} (q : Quiet s) (hr : s.regionOf (s.relocate (wordAlign a)) = .ram) :
    ∃ b, fetchSlot s a = makeSlot { s.drainAll with bus := b } a
      (State.dataIntoCore { s.drainAll with bus := b } (s.drainAll.memoryWord (s.relocate (wordAlign a))))
      (s.drainAll.memoryWord (s.relocate (wordAlign a))) .ok := by
  have hd := drainAll_step s
  have hregion : s.drainAll.regionOf (sizeAlign .word (s.relocate (wordAlign a))) = .ram := by
    rw [hd.regionOf]
    exact (congrArg s.regionOf (wordAlign_relocate s a)).trans hr
  obtain ⟨b, hb⟩ := busRead_alone (s.drainAll.readShape (s.relocate (wordAlign a)) .word) (hprot false false s.privileged false)
    false (hd.alone q.alone) hregion
  have hread : externalOrCached s (s.relocate (wordAlign a)) (s.flatMapping (s.relocate (wordAlign a))) .word s.privileged false
      false = { data := s.drainAll.memoryWord (s.relocate (wordAlign a)), error := false,
                state := { s.drainAll with bus := b } } := by
    rw [externalOrCached, if_neg (by simp [State.flatMapping])]
    exact congrArg (fun r : BusReply => { r with error := r.error && !(false && false) }) hb
  refine ⟨b, ?_⟩
  unfold fetchSlot
  dsimp only
  rw [translate_flat q.mmuOff]
  dsimp only
  rw [hread]
  rfl

/-- Such a slot has no mark, and holds the word, or in Thumb state its half. -/
theorem fetchSlot_quiet {s : State} {a : Word} (q : Quiet s) (hr : s.regionOf (s.relocate (wordAlign a)) = .ram) :
    (fetchSlot s a).1.addr = a ∧ (fetchSlot s a).1.mark = .ok ∧ (fetchSlot s a).1.breakpoint = false ∧
      (fetchSlot s a).1.bits =
        instrBits s.cpsr.t s.cp15.b a (s.drainAll.memoryWord (s.relocate (wordAlign a))) := by
  obtain ⟨b, h⟩ := fetchSlot_flat q hr
  have hstep : MemoryStep s { s.drainAll with bus := b } := (drainAll_step s).trans (.of_eq rfl rfl rfl rfl)
  generalize ({ s.drainAll with bus := b } : State) = u at h hstep
  rw [h, State.dataIntoCore, (q.step hstep).normal]
  refine ⟨rfl, rfl, (q.step hstep).triggers _, ?_⟩
  show instrBits u.cpsr.t u.cp15.b a _ = _
  rw [hstep.cpsr, hstep.bigEndian]
  rfl

theorem onlyFetched_of {s t u : State} (h : Fetched t u) (hregs : t.gpr = s.gpr ∧ t.pc = s.pc ∧ t.cpsr = s.cpsr)
    (hsaved : ∀ m : BitVec 5, t.spsrOf m = s.spsrOf m) (hsystem : t.cp15 = s.cp15 ∧ t.dcc = s.dcc ∧ t.copros = s.copros)
    (hstore : s.masters = [] → SameStore s t) : OnlyFetched s u := by
  obtain ⟨hgpr, hpc, hcpsr⟩ := hregs
  obtain ⟨hcp15, hdcc, hcopros⟩ := hsystem
  refine ⟨⟨h.step.gpr.trans hgpr, h.step.pc.trans hpc, h.step.cpsr.trans hcpsr⟩, fun m => ?_,
    ⟨h.unrecorded.cp15.trans hcp15, h.unrecorded.dcc.trans hdcc, h.step.copros.trans hcopros⟩, fun alone => ?_⟩
  · rw [← hsaved m]
    unfold State.spsrOf
    rw [show u.spsrFiq = t.spsrFiq from h.step.spsrFiq, show u.spsrSvc = t.spsrSvc from h.step.spsrSvc,
      show u.spsrAbt = t.spsrAbt from h.step.spsrAbt, show u.spsrIrq = t.spsrIrq from h.step.spsrIrq,
      show u.spsrUnd = t.spsrUnd from h.step.spsrUnd]
  · exact ((Settled.of_store (hstore alone)).trans h.settled).byte alone

/-- Showing the outputs is no part of what fetching leaves. -/
theorem fetched_withTrace {s t : State} (tr : Trace) (h : Fetched s t) : Fetched s { t with trace := tr } :=
  h.trans ⟨⟨rfl, rfl⟩, .of_eq rfl rfl rfl rfl, .of_eq rfl rfl rfl rfl⟩

/-- Before an instruction the outputs and marks of the step before are cleared, and the queue is filled. -/
theorem prefetched_fetched (s : State) : Fetched s.clearOutputs.beginInstr (prefetched s) := by
  have h := fillQueue_fetched s.clearOutputs.beginInstr 3
  unfold prefetched
  dsimp only
  split
  · obtain ⟨tr, htr⟩ := showSlot_changes (s.clearOutputs.beginInstr.fillQueue 3) ‹FetchSlot›
    rw [htr]
    exact fetched_withTrace tr h
  · exact h

theorem prefetched_queue (s : State) : (prefetched s).queue = (s.clearOutputs.beginInstr.fillQueue 3).queue := by
  unfold prefetched
  dsimp only
  split
  · obtain ⟨tr, htr⟩ := showSlot_changes (s.clearOutputs.beginInstr.fillQueue 3) ‹FetchSlot›
    rw [htr]
  · rfl

theorem ended_fetched (s : State) : Fetched s (ended s) := by
  have h : Fetched s s.refill := by
    unfold State.refill
    split
    · exact .refl s
    · exact fillQueue_fetched s 3
  obtain ⟨tr, htr⟩ := driveEtm_changes s.refill
  unfold ended
  rw [htr]
  exact fetched_withTrace tr h

theorem Quiet.begin {s : State} (q : Quiet s) : Quiet s.clearOutputs.beginInstr :=
  ⟨q.mmuOff, q.running, q.normal, rfl, q.unit0, q.unit1, q.noBreak⟩

/-- Settles O4: the first slot is the fetch at the PC (`fillQueue_first`), and a fetch records no fault (`Unrecorded`). -/
theorem fetchTakesTheBytesAtThePc : Obligations.FetchTakesTheBytesAtThePc := by
  refine ⟨fun s q hqueue hr => ?_, fun s => ?_, fun s => ?_⟩
  · obtain ⟨rest, hrest⟩ := fillQueue_first (s := s.clearOutputs.beginInstr) hqueue 2
    obtain ⟨haddr, hmark, hbreak, hbits⟩ := fetchSlot_quiet (a := s.pc) q.begin hr
    obtain ⟨harm, hthumb⟩ := byteOfValue_fetched s.clearOutputs.beginInstr (wordAlign_relocate s s.pc) s.pc
    have hsettled : ∀ a : Word, s.clearOutputs.beginInstr.settledByte a = s.settledByte a :=
      (Settled.of_store (s := s) (t := s.clearOutputs.beginInstr) ⟨rfl, rfl, rfl, q.alone.symm⟩).byte q.alone
    refine ⟨_, rest, (prefetched_queue s).trans hrest, haddr, hmark, hbreak, fun ht j hj => ?_, fun ht j hj => ?_⟩
    · rw [← hsettled, ← harm j hj]
      exact congrArg _ (hbits.trans (by rw [show s.clearOutputs.beginInstr.cpsr.t = false from ht]; rfl))
    · rw [← hsettled, ← hthumb j hj]
      exact congrArg _ (hbits.trans (by rw [show s.clearOutputs.beginInstr.cpsr.t = true from ht]; rfl))
  · exact onlyFetched_of (prefetched_fetched s) ⟨rfl, rfl, rfl⟩ (fun _ => rfl) ⟨rfl, rfl, rfl⟩
      fun alone => ⟨rfl, rfl, rfl, alone.symm⟩
  · exact onlyFetched_of (ended_fetched s) ⟨rfl, rfl, rfl⟩ (fun _ => rfl) ⟨rfl, rfl, rfl⟩ fun _ => .refl s

end Sys2Proof.Claims
end

section
/-! PROOFS. Register lists, and the words of a block transfer (42 R411). -/

namespace Sys2Proof.Machine

/-! Register numbers. -/

theorem userIndex_inj {r1 r2 : RegNum} (h : userIndex r1 = userIndex r2) : r1 = r2 := by
  have hval := congrArg Fin.val h
  simp only [userIndex, Fin.val_ofNat] at hval
  have h1 := r1.isLt
  have h2 := r2.isLt
  exact BitVec.eq_of_toNat_eq (by omega)

/-- A mode without registers of its own uses those of User mode. -/
theorem physIndex_unbanked {m : BitVec 5} (h : m ∉ Claims.modes) (r : RegNum) : physIndex m r = userIndex r := by
  simp only [Claims.modes, List.mem_cons, List.not_mem_nil, or_false, not_or] at h
  obtain ⟨-, hfiq, hirq, hsvc, habt, hund, -⟩ := h
  simp [physIndex, userIndex, modeFiq, modeSvc, modeAbt, modeIrq, modeUnd, hfiq, hirq, hsvc, habt, hund]

/-- In one mode two register numbers have two registers. -/
theorem physIndex_inj {m : BitVec 5} {r1 r2 : RegNum} (h1 : r1 ≠ 15#4) (h2 : r2 ≠ 15#4)
    (h : physIndex m r1 = physIndex m r2) : r1 = r2 := by
  by_cases hm : m ∈ Claims.modes
  · exact ((Claims.physIndex_eq_iff hm hm h1 h2).mp h).1
  · rw [physIndex_unbanked hm, physIndex_unbanked hm] at h
    exact userIndex_inj h

/-- The register that a block load writes. -/
def blockPlace (user : Bool) (m : BitVec 5) (r : RegNum) : Fin 30 := if user then userIndex r else physIndex m r

theorem blockPlace_eq (user : Bool) (m : BitVec 5) : (if user then userIndex else physIndex m) = blockPlace user m := by
  cases user <;> rfl

theorem blockPlace_inj {user : Bool} {m : BitVec 5} {r1 r2 : RegNum} (h1 : r1 ≠ 15#4) (h2 : r2 ≠ 15#4)
    (h : blockPlace user m r1 = blockPlace user m r2) : r1 = r2 := by
  cases user
  · exact physIndex_inj h1 h2 h
  · exact userIndex_inj h

theorem blockLoadReg_eq (user : Bool) (s : State) (r : RegNum) (v : Word) :
    blockLoadReg user s r v = { s with gpr := s.gpr.set (blockPlace user s.cpsr.m r) v } := by
  cases user <;> rfl

theorem blockLoadReg_getElem (user : Bool) (s : State) (r : RegNum) (v : Word) (i : Fin 30) :
    (blockLoadReg user s r v).gpr[i] = if blockPlace user s.cpsr.m r = i then v else s.gpr[i] := by
  rw [blockLoadReg_eq]
  refine (Vector.getElem_set (blockPlace user s.cpsr.m r).isLt i.isLt).trans ?_
  simp only [Fin.ext_iff]
  rfl

/-! Lists of registers. -/

/-- The registers of a list ascend. -/
theorem regList_ascends (regs : BitVec 16) : (regList regs).Pairwise (· < ·) := by
  unfold regList
  rw [List.pairwise_map]
  refine (List.pairwise_lt_range.filter _).imp_of_mem fun {j k} hj hk hlt => ?_
  have hj := List.mem_range.mp (List.mem_of_mem_filter hj)
  have hk := List.mem_range.mp (List.mem_of_mem_filter hk)
  rw [BitVec.lt_def, BitVec.toNat_ofNat, BitVec.toNat_ofNat]
  omega

theorem regList_length (regs : BitVec 16) : (regList regs).length ≤ 16 := by
  unfold regList
  rw [List.length_map]
  exact (List.length_filter_le _ _).trans (List.length_range ..).le

/-- Only the last register of an ascending list is r15. -/
theorem ne_fifteen_of_lt {r x : RegNum} (h : r < x) : r ≠ 15#4 := by
  rintro rfl
  have hx := x.isLt
  rw [BitVec.lt_def] at h
  exact absurd h (by simp; omega)

/-! The words of a block. -/

theorem blockAddress_zero (a : Word) : a + BitVec.ofNat 32 (4 * 0) = a := BitVec.add_zero a

theorem blockAddress_succ (a : Word) (k : Nat) :
    a + 4#32 + BitVec.ofNat 32 (4 * k) = a + BitVec.ofNat 32 (4 * (k + 1)) := by
  rw [BitVec.add_assoc, show 4 * (k + 1) = 4 + 4 * k by omega, BitVec.ofNat_add]

/-! What block transfers keep beside the registers. -/

theorem BlockStep.of_memory {s t : State} (h : MemoryStep s t) : BlockStep s t := ⟨t, t.gpr, h, rfl⟩

theorem BlockStep.trans {s t u : State} (h : BlockStep s t) (k : BlockStep t u) : BlockStep s u := by
  obtain ⟨v, g, hv, rfl⟩ := k
  exact (h.step hv).setGpr g

theorem BlockStep.cpsr {s t : State} (h : BlockStep s t) : t.cpsr = s.cpsr := by
  obtain ⟨u, g, hu, rfl⟩ := h
  exact hu.cpsr

theorem BlockStep.pc {s t : State} (h : BlockStep s t) : t.pc = s.pc := by
  obtain ⟨u, g, hu, rfl⟩ := h
  exact hu.pc

theorem BlockStep.mmuOn {s t : State} (h : BlockStep s t) : t.cp15.m = s.cp15.m := by
  obtain ⟨u, g, hu, rfl⟩ := h
  exact hu.mmuOn

theorem setReg_blockStep (s : State) (r : RegNum) (v : Word) : BlockStep s (s.setReg r v) := (BlockStep.refl s).setGpr _

theorem baseWritten_blockStep (s : State) (w : Bool) (rn : RegNum) (after : Word) :
    BlockStep s (if w then s.setReg rn after else s) := by
  split
  · exact setReg_blockStep s rn after
  · exact .refl s

theorem blockLoadReg_blockStep (user : Bool) (s : State) (r : RegNum) (v : Word) : BlockStep s (blockLoadReg user s r v) := by
  rw [blockLoadReg_eq]
  exact (BlockStep.refl s).setGpr _

theorem blockLoadReg_settled (user : Bool) (s : State) (r : RegNum) (v : Word) : Settled s (blockLoadReg user s r v) := by
  rw [blockLoadReg_eq]
  exact .of_eq rfl rfl rfl rfl

/-! When a word access is refused. -/

theorem translate_mmuOn {s : State} {a : Word} {priv write : Bool} (h : (translate s a priv write).1 = .tinyInCoarse) :
    s.cp15.m = true := by
  by_contra hm
  rw [translate_flat (by simpa using hm)] at h
  cases h

theorem watchOutcome_not_refused (hit : Bool) (v : Word) (s : State) (x : Refusal) : watchOutcome hit v s ≠ .refused x := by
  intro h
  unfold watchOutcome at h
  split at h
  · split at h <;> cases h
  · cases h

/-- A word read is refused only where the walk meets a tiny page in a coarse table (93 U17). -/
theorem dataRead_refused {s : State} {a : Word} {priv lock : Bool} {x : Refusal}
    (h : dataRead s a .word priv lock = .refused x) : x = .tinyInCoarse ∧ s.cp15.m = true := by
  unfold dataRead at h
  dsimp only at h
  split at h
  · cases h
  · split at h
    · cases h
    · split at h
      · cases ‹_ ∧ _›.1
      · split at h
        · rename_i htiny
          cases h
          exact ⟨rfl, translate_mmuOn htiny⟩
        · cases h
        · split at h
          · cases h
          · exact absurd h (watchOutcome_not_refused _ _ _ _)

theorem dataWrite_refused {s : State} {a v : Word} {priv lock : Bool} {x : Refusal}
    (h : dataWrite s a .word v priv lock = .refused x) : x = .tinyInCoarse ∧ s.cp15.m = true := by
  unfold dataWrite at h
  dsimp only at h
  split at h
  · cases h
  · split at h
    · cases h
    · split at h
      · cases ‹_ ∧ _›.1
      · split at h
        · rename_i htiny
          cases h
          exact ⟨rfl, translate_mmuOn htiny⟩
        · cases h
        · split at h
          · exact absurd h (watchOutcome_not_refused _ _ _ _)
          · split at h
            · cases h
            · exact absurd h (watchOutcome_not_refused _ _ _ _)

end Sys2Proof.Machine
end

section
/-! PROOFS. LDM in every form after an aborted transfer (42 R412, R418, D23): the transfers up to it, the transfers after it, the data
abort. -/

namespace Sys2Proof.Machine

/-! After an aborted transfer. -/

/-- The transfers after an aborted one keep FSR and FAR (42 R418, D23). -/
structure AfterAbort (s t : State) : Prop where
  step : MemoryStep s t
  fsr : t.cp15.fsr = s.cp15.fsr
  far : t.cp15.far = s.cp15.far

theorem AfterAbort.refl (s : State) : AfterAbort s s := ⟨.refl s, rfl, rfl⟩

theorem AfterAbort.trans {s t u : State} (h : AfterAbort s t) (k : AfterAbort t u) : AfterAbort s u :=
  ⟨h.step.trans k.step, k.fsr.trans h.fsr, k.far.trans h.far⟩

theorem Unrecorded.afterAbort {s t : State} (h : MemoryStep s t) (k : Unrecorded s t) : AfterAbort s t :=
  ⟨h, by rw [k.cp15], by rw [k.cp15]⟩

theorem dataRead_done_unrecorded {s t : State} {va v : Word} {size : Size} {priv lock : Bool}
    (h : dataRead s va size priv lock = .done v t) : Unrecorded s t := by
  have := dataRead_unrecorded s va size priv lock
  rwa [h] at this

theorem dataWrite_done_unrecorded {s t : State} {va v w : Word} {size : Size} {priv lock : Bool}
    (h : dataWrite s va size v priv lock = .done w t) : Unrecorded s t := by
  have := dataWrite_unrecorded s va size v priv lock
  rwa [h] at this

theorem dataRead_done_settled {s t : State} {va v : Word} {size : Size} {priv lock : Bool}
    (h : dataRead s va size priv lock = .done v t) : Settled s t := by
  have := dataRead_keeps s va size priv lock
  rwa [h] at this

theorem dataRead_abort_settled {s t : State} {va : Word} {size : Size} {priv lock : Bool}
    (h : dataRead s va size priv lock = .abort t) : Settled s t := by
  have := dataRead_keeps s va size priv lock
  rwa [h] at this

/-- After an aborted transfer a fault leaves FSR and FAR as they are. -/
theorem keepFirstFault_afterAbort {b : BlockRun} {t : State} (hb : b.aborted = true) (h : MemoryStep b.state t) :
    AfterAbort b.state (keepFirstFault b t) := by
  refine ⟨h.trans (keepFirstFault_step b t), ?_, ?_⟩ <;> rw [keepFirstFault, if_pos hb]

theorem keepFirstFault_first {b : BlockRun} {t : State} (hb : b.aborted = false) : keepFirstFault b t = t :=
  if_neg (by rw [hb]; exact Bool.false_ne_true)

theorem keepFirstFault_settled (b : BlockRun) (s : State) : Settled s (keepFirstFault b s) := by
  unfold keepFirstFault
  split
  · exact .of_eq rfl rfl rfl rfl
  · exact .refl s

/-- The transfers after an aborted one go on to the last, unless one of them is refused. -/
def RunsOn (s : State) (run : Except Refusal BlockRun) : Prop :=
  (run = .error .tinyInCoarse ∧ s.cp15.m = true) ∨
    ∃ c : BlockRun, run = .ok c ∧ c.aborted = true ∧ AfterAbort s c.state

theorem RunsOn.after {s t : State} {run : Except Refusal BlockRun} (h : AfterAbort s t) (k : RunsOn t run) : RunsOn s run := by
  rcases k with ⟨hrefused, hm⟩ | ⟨c, hc, haborted, hstep⟩
  · exact .inl ⟨hrefused, h.step.mmuOn ▸ hm⟩
  · exact .inr ⟨c, hc, haborted, h.trans hstep⟩

theorem loadWords_aborted (user priv : Bool) (regs : List RegNum) (a : Word) {b : BlockRun} (hb : b.aborted = true) :
    RunsOn b.state (loadWords user priv regs a b) := by
  induction regs generalizing a b with
  | nil => exact .inr ⟨b, rfl, hb, .refl _⟩
  | cons r rest ih =>
    cases h : dataRead b.state a .word priv false with
    | refused x =>
      obtain ⟨rfl, hm⟩ := dataRead_refused h
      exact .inl ⟨by rw [loadWords, h], hm⟩
    | abort s1 =>
      rw [loadWords, h]
      exact .after (keepFirstFault_afterAbort hb (dataRead_abort h)) (ih _ rfl)
    | done v s1 =>
      rw [loadWords, h]
      dsimp only
      rw [if_pos hb]
      exact .after ((dataRead_done_unrecorded h).afterAbort (dataRead_done h)) (ih (b := { b with state := s1 }) _ hb)

/-- The transfers of an LDM leave memory as it will settle. -/
theorem loadWords_settled {user priv : Bool} {regs : List RegNum} {a : Word} {b c : BlockRun}
    (h : loadWords user priv regs a b = .ok c) : Settled b.state c.state := by
  induction regs generalizing a b with
  | nil =>
    cases h
    exact .refl _
  | cons r rest ih =>
    unfold loadWords at h
    split at h
    · cases h
    · exact ((dataRead_abort_settled ‹_›).trans (keepFirstFault_settled b _)).trans (ih h)
    · rename_i v s1 hdone
      have hkept := dataRead_done_settled hdone
      split at h
      · exact hkept.trans (ih h)
      · split at h
        · exact hkept.trans (ih h)
        · exact (hkept.trans (blockLoadReg_settled user s1 r v)).trans (ih h)

end Sys2Proof.Machine

namespace Sys2Proof.Claims

open Sys2Proof.Machine

/-! Up to an aborted transfer. -/

/-- The first transfer of an LDM and the transfers after it. -/
theorem loadsUntilAbort_cons {user priv : Bool} {r : RegNum} {rest : List RegNum} {a : Word} {k0 : Nat} {at_ : Nat → State}
    {value : Nat → Word} {t : State} :
    LoadsUntilAbort user priv (r :: rest) a (k0 + 1) at_ value t ↔
      (∃ u : State, dataRead (at_ 0) a .word priv false = .done (value 0) u ∧ at_ 1 = blockLoadReg user u r (value 0)) ∧
      LoadsUntilAbort user priv rest (a + 4#32) k0 (fun k => at_ (k + 1)) (fun k => value (k + 1)) t := by
  constructor
  · rintro ⟨inside, before, here⟩
    refine ⟨?_, Nat.lt_of_succ_lt_succ inside, fun k x hk hx => ?_, ?_⟩
    · have h := before 0 r (Nat.succ_pos _) rfl
      rwa [blockAddress_zero] at h
    · rw [blockAddress_succ]
      exact before (k + 1) x (Nat.succ_lt_succ hk) hx
    · rw [blockAddress_succ]
      exact here
  · rintro ⟨first, inside, before, here⟩
    refine ⟨Nat.succ_lt_succ inside, fun k x hk hx => ?_, ?_⟩
    · cases k with
      | zero =>
        obtain rfl := Option.some.inj hx
        rw [blockAddress_zero]
        exact first
      | succ k =>
        have h := before k x (Nat.lt_of_succ_lt_succ hk) hx
        rwa [blockAddress_succ] at h
    · rwa [blockAddress_succ] at here

/-- What the transfers of an LDM before number `k0` load. -/
structure LoadedUpTo (user : Bool) (m : BitVec 5) (regs : List RegNum) (k0 : Nat) (value : Nat → Word) (s t : State) : Prop where
  step : BlockStep s t
  loaded : ∀ (k : Nat) (r : RegNum), k < k0 → regs[k]? = some r → t.gpr[blockPlace user m r] = value k
  others : ∀ i : Fin 30, (∀ (k : Nat) (r : RegNum), k < k0 → regs[k]? = some r → blockPlace user m r ≠ i) →
    t.gpr[i] = s.gpr[i]

/-- One more register is loaded first. -/
theorem LoadedUpTo.cons {user : Bool} {m : BitVec 5} {r : RegNum} {rest : List RegNum} {k0 : Nat} {value : Nat → Word} {s u t : State}
    (hr : r ≠ 15#4) (hrest : ∀ (k : Nat) (x : RegNum), k < k0 → rest[k]? = some x → x ≠ 15#4 ∧ x ≠ r)
    (hm : s.cpsr.m = m) (hu : MemoryStep s u) (h : LoadedUpTo user m rest k0 (fun k => value (k + 1)) (blockLoadReg user u r (value 0)) t) :
    LoadedUpTo user m (r :: rest) (k0 + 1) value s t := by
  obtain ⟨hstep, hloaded, hothers⟩ := h
  have hwritten : ∀ i : Fin 30, (blockLoadReg user u r (value 0)).gpr[i] =
      if blockPlace user m r = i then value 0 else s.gpr[i] := by
    intro i
    rw [blockLoadReg_getElem, hu.gpr, show u.cpsr.m = m from (congrArg Psr.m hu.cpsr).trans hm]
  refine ⟨((BlockStep.of_memory hu).trans (blockLoadReg_blockStep user u r _)).trans hstep, fun k x hk hx => ?_, fun i hi => ?_⟩
  · cases k with
    | zero =>
      obtain rfl := Option.some.inj hx
      rw [hothers _ fun k x hk hx he => ?_, hwritten, if_pos rfl]
      obtain ⟨h15, hne⟩ := hrest k x hk hx
      exact hne (blockPlace_inj h15 hr he)
    | succ k => exact hloaded k x (Nat.lt_of_succ_lt_succ hk) hx
  · rw [hothers i fun k x hk hx => hi (k + 1) x (Nat.succ_lt_succ hk) hx, hwritten, if_neg (hi 0 r (Nat.succ_pos _) rfl)]

/-- The run of an LDM up to its aborted transfer. -/
theorem loadWords_until {user priv : Bool} {m : BitVec 5} {regs : List RegNum} {a : Word} {k0 : Nat} {at_ : Nat → State} {value : Nat → Word}
    {t : State} (h : LoadsUntilAbort user priv regs a k0 at_ value t) (ascends : regs.Pairwise (· < ·))
    (hm : (at_ 0).cpsr.m = m) :
    LoadedUpTo user m regs k0 value (at_ 0) t ∧ ∃ (rest : List RegNum) (a' : Word), ∀ v : Option Word,
      loadWords user priv regs a { state := at_ 0, aborted := false, pcValue := v } =
        loadWords user priv rest a' { state := t, aborted := true, pcValue := v } := by
  induction k0 generalizing regs a at_ value with
  | zero =>
    match regs, h with
    | [], h => exact absurd h.inside (Nat.not_lt_zero _)
    | r :: rest, h =>
      have habort := h.here
      rw [blockAddress_zero] at habort
      have hstep := dataRead_abort habort
      exact ⟨⟨.of_memory hstep, fun k _ hk => absurd hk (Nat.not_lt_zero k), fun i _ => by rw [hstep.gpr]⟩, rest, a + 4#32,
        fun v => by rw [loadWords, habort]; rfl⟩
  | succ k0 ih =>
    match regs, h with
    | [], h => exact absurd h.inside (Nat.not_lt_zero _)
    | r :: rest, h =>
      obtain ⟨⟨u, hdone, hnext⟩, htail⟩ := loadsUntilAbort_cons.mp h
      obtain ⟨hlt, hascends⟩ := List.pairwise_cons.mp ascends
      have hm' : (at_ 1).cpsr.m = m := by
        rw [hnext, (blockLoadReg_blockStep user u r _).cpsr, (dataRead_done hdone).cpsr, hm]
      obtain ⟨hloaded, rest', a', hrun⟩ := ih htail hascends hm'
      have hlast : ∀ (k : Nat) (x : RegNum), k < k0 → rest[k]? = some x → x ≠ 15#4 ∧ x ≠ r := by
        intro k x hk hx
        have hinside := htail.inside
        obtain ⟨hk', rfl⟩ := List.getElem?_eq_some_iff.mp hx
        exact ⟨ne_fifteen_of_lt (List.pairwise_iff_getElem.mp hascends k (k + 1) hk' (by omega) (Nat.lt_succ_self k)),
          fun e => BitVec.lt_irrefl _ (e ▸ hlt _ (List.getElem_mem hk'))⟩
      have hr : r ≠ 15#4 :=
        ne_fifteen_of_lt (hlt _ (List.getElem_mem (Nat.lt_of_le_of_lt (Nat.zero_le _) htail.inside)))
      rw [hnext] at hloaded
      refine ⟨hloaded.cons hr hlast hm (dataRead_done hdone), rest', a', fun v => ?_⟩
      rw [← hrun v, loadWords, hdone]
      dsimp only
      rw [if_neg Bool.false_ne_true, if_neg hr, hnext]

/-! The data abort. -/

/-- An LDM after an aborted transfer: the data abort is taken with the base of its own, unless a later transfer is refused. -/
theorem loadBlock_aborts {user restore p u w : Bool} {rn : RegNum} {regs : List RegNum} {s t : State} {k0 : Nat}
    {at_ : Nat → State} {value : Nat → Word} (ascends : regs.Pairwise (· < ·))
    (h0 : at_ 0 = if w then s.setReg rn (blockEnd u (s.reg rn) regs.length) else s)
    (h : LoadsUntilAbort user s.privileged regs (blockStart p u (s.reg rn) regs.length) k0 at_ value t) :
    (loadBlock user restore p u w rn regs s = .refused .tinyInCoarse ∧ s.cp15.m = true) ∨
    ∃ c : State, AfterAbort t c ∧ Settled t c ∧ loadBlock user restore p u w rn regs s =
      .next ((c.setReg rn (if w then blockEnd u (s.reg rn) regs.length else s.gpr[physIndex s.cpsr.m rn])).takeException
        .dataAbort) := by
  obtain ⟨hloaded, rest, a', hrun⟩ := loadWords_until h ascends rfl
  have hm : t.cp15.m = s.cp15.m := by
    rw [hloaded.step.mmuOn, h0]
    split <;> rfl
  rcases loadWords_aborted user s.privileged rest a' (b := { state := t, aborted := true, pcValue := none }) rfl with
    ⟨hrefused, hon⟩ | ⟨c, hc, haborted, hafter⟩
  · refine .inl ⟨?_, hm ▸ hon⟩
    unfold loadBlock
    dsimp only
    rw [← h0, hrun, hrefused]
  · refine .inr ⟨c.state, hafter, loadWords_settled hc, ?_⟩
    unfold loadBlock
    dsimp only
    rw [← h0, hrun, hc]
    exact if_pos haborted

/-- The data abort taken in a state that a block transfer reached, with a base of its own. -/
theorem tookDataAbort_of {s c : State} (h : BlockStep s c) : TookDataAbort s (c.takeException .dataAbort) :=
  ⟨dataAbort_vector c, h.cpsr, (dataAbort_link c).trans (by rw [h.pc])⟩

/-- The registers after an aborted LDM. -/
theorem loadAbort_registers {user w : Bool} {rn : RegNum} {regs : List RegNum} {s s0 t c : State} {k0 : Nat}
    {value : Nat → Word} {after : Word} (h0 : s0 = if w then s.setReg rn after else s)
    (h : LoadedUpTo user s.cpsr.m regs k0 value s0 t) (hc : MemoryStep t c) {v : State}
    (hv : v = (c.setReg rn (if w then after else s.gpr[physIndex s.cpsr.m rn])).takeException .dataAbort) :
    (∀ (k : Nat) (r : RegNum), k < k0 → regs[k]? = some r → blockPlace user s.cpsr.m r ≠ physIndex s.cpsr.m rn →
      blockPlace user s.cpsr.m r ≠ physIndex modeAbt 14#4 → v.gpr[blockPlace user s.cpsr.m r] = value k) ∧
    (physIndex s.cpsr.m rn ≠ physIndex modeAbt 14#4 →
      v.gpr[physIndex s.cpsr.m rn] = if w then after else s.gpr[physIndex s.cpsr.m rn]) ∧
    ∀ j : Fin 30, j ≠ physIndex modeAbt 14#4 → j ≠ physIndex s.cpsr.m rn →
      (∀ (k : Nat) (r : RegNum), k < k0 → regs[k]? = some r → blockPlace user s.cpsr.m r ≠ j) → v.gpr[j] = s.gpr[j] := by
  have hstart : BlockStep s s0 := by
    rw [h0]
    exact baseWritten_blockStep s w rn after
  obtain ⟨hstep, hloaded, hothers⟩ := h
  have hm : c.cpsr.m = s.cpsr.m := by rw [hc.cpsr, hstep.cpsr, hstart.cpsr]
  have hkeeps : ∀ j : Fin 30, j ≠ physIndex modeAbt 14#4 → j ≠ physIndex s.cpsr.m rn → v.gpr[j] = t.gpr[j] := by
    intro j hlink hbase
    rw [hv, dataAbort_gpr _ hlink, setReg_gpr_other _ (by rw [hm]; exact hbase.symm), hc.gpr]
  refine ⟨fun k r hk hr hbase hlink => (hkeeps _ hlink hbase).trans (hloaded k r hk hr), fun hlink => ?_,
    fun j hlink hbase hj => ?_⟩
  · rw [hv, dataAbort_gpr _ hlink, setReg_gpr_same _ (by rw [hm])]
  · rw [hkeeps j hlink hbase, hothers j hj, h0]
    split
    · exact setReg_gpr_other _ hbase.symm
    · rfl

/-- An LDM whose meaning is the block load ends as `LoadAborts` says. -/
theorem loadAborts_of {i : Instr} {user restore p u w : Bool} {rn : RegNum} {regs : List RegNum} {s : State}
    (ascends : regs.Pairwise (· < ·)) (hi : regs ≠ [] → exec i s = loadBlock user restore p u w rn regs s) :
    LoadAborts i user p u w rn regs s := by
  rintro start after k0 at_ value t place rfl rfl rfl h0 h
  have hne : regs ≠ [] := List.ne_nil_of_length_pos (Nat.lt_of_le_of_lt (Nat.zero_le _) h.inside)
  have hstart : BlockStep s (at_ 0) := by
    rw [h0]
    exact baseWritten_blockStep s w rn _
  obtain ⟨hloaded, -⟩ := loadWords_until h ascends (congrArg Psr.m hstart.cpsr)
  rw [blockPlace_eq, BlockAbortTaken, hi hne]
  rcases loadBlock_aborts ascends h0 h with ⟨hrefused, -⟩ | ⟨c, hafter, -, hrun⟩
  · exact .inl hrefused
  · have hstep := (hstart.trans hloaded.step).step hafter.step
    exact .inr ⟨_, hrun, tookDataAbort_of (hstep.trans (setReg_blockStep c rn _)), hafter.fsr, hafter.far,
      loadAbort_registers h0 hloaded hafter.step rfl⟩

end Sys2Proof.Claims
end

section
/-! PROOFS. STM in every form after an aborted transfer (42 R413, R418, D23). -/

namespace Sys2Proof.Machine

/-! One transfer. -/

/-- The base written back, if it is. -/
def State.basedBy (s : State) (w : Bool) (rn : RegNum) (after : Word) : State := if w then s.setReg rn after else s

theorem basedBy_blockStep (s : State) (w : Bool) (rn : RegNum) (after : Word) : BlockStep s (s.basedBy w rn after) :=
  baseWritten_blockStep s w rn after

theorem basedBy_cp15 (s : State) (w : Bool) (rn : RegNum) (after : Word) : (s.basedBy w rn after).cp15 = s.cp15 := by
  cases w <;> rfl

theorem basedBy_getElem (s : State) (w : Bool) (rn : RegNum) (after : Word) (j : Fin 30) :
    (s.basedBy w rn after).gpr[j] = if w = true ∧ j = physIndex s.cpsr.m rn then after else s.gpr[j] := by
  cases w
  · rfl
  · by_cases h : j = physIndex s.cpsr.m rn
    · rw [if_pos ⟨rfl, h⟩]
      exact setReg_gpr_same after h.symm
    · rw [if_neg fun hj => h hj.2]
      exact setReg_gpr_other after fun e => h e.symm

theorem storeWords_done {user priv w : Bool} {rn r : RegNum} {after a x : Word} {rest : List RegNum} {b : BlockRun} {u : State}
    (h : dataWrite b.state a .word (blockStoreValue user b.state r) priv false = .done x u) :
    storeWords user priv rn (if w then some after else none) (r :: rest) a b =
      storeWords user priv rn none rest (a + 4#32) { b with state := u.basedBy w rn after } := by
  rw [storeWords, h]
  cases w <;> rfl

theorem storeWords_abort {user priv w : Bool} {rn r : RegNum} {after a : Word} {rest : List RegNum} {b : BlockRun} {u : State}
    (h : dataWrite b.state a .word (blockStoreValue user b.state r) priv false = .abort u) :
    storeWords user priv rn (if w then some after else none) (r :: rest) a b =
      storeWords user priv rn none rest (a + 4#32)
        { b with state := (keepFirstFault b u).basedBy w rn after, aborted := true } := by
  rw [storeWords, h]
  cases w <;> rfl

/-! After an aborted transfer. -/

theorem storeWords_aborted (user priv : Bool) (rn : RegNum) (regs : List RegNum) (a : Word) {b : BlockRun}
    (hb : b.aborted = true) : RunsOn b.state (storeWords user priv rn none regs a b) := by
  induction regs generalizing a b with
  | nil => exact .inr ⟨b, rfl, hb, .refl _⟩
  | cons r rest ih =>
    cases h : dataWrite b.state a .word (blockStoreValue user b.state r) priv false with
    | refused x =>
      obtain ⟨rfl, hm⟩ := dataWrite_refused h
      exact .inl ⟨by rw [storeWords, h], hm⟩
    | abort s1 =>
      rw [storeWords, h]
      exact .after (keepFirstFault_afterAbort hb (dataWrite_abort h)) (ih _ rfl)
    | done v s1 =>
      rw [storeWords, h]
      exact .after ((dataWrite_done_unrecorded h).afterAbort (dataWrite_done h)) (ih (b := { b with state := s1 }) _ hb)

end Sys2Proof.Machine

namespace Sys2Proof.Claims

open Sys2Proof.Machine

/-! Up to an aborted transfer. -/

/-- The first transfer of an STM, which writes back the base, and the transfers after it. -/
theorem storesUntilAbort_cons {user priv w : Bool} {rn r : RegNum} {after a : Word} {rest : List RegNum} {k0 : Nat}
    {at_ : Nat → State} {t : State} :
    StoresUntilAbort user priv w rn after (r :: rest) a (k0 + 1) at_ t ↔
      (∃ (x : Word) (u : State), dataWrite (at_ 0) a .word (blockStoreValue user (at_ 0) r) priv false = .done x u ∧
        at_ 1 = u.basedBy w rn after) ∧
      StoresUntilAbort user priv false rn after rest (a + 4#32) k0 (fun k => at_ (k + 1)) t := by
  constructor
  · rintro ⟨inside, before, here⟩
    refine ⟨?_, Nat.lt_of_succ_lt_succ inside, fun k x hk hx => ?_, fun x hx => ?_⟩
    · obtain ⟨x, u, hdone, hnext⟩ := before 0 r (Nat.succ_pos _) rfl
      rw [blockAddress_zero] at hdone
      exact ⟨x, u, hdone, hnext.trans (by cases w <;> rfl)⟩
    · obtain ⟨y, u, hdone, hnext⟩ := before (k + 1) x (Nat.succ_lt_succ hk) hx
      rw [blockAddress_succ]
      exact ⟨y, u, hdone, hnext.trans (by simp)⟩
    · rw [blockAddress_succ]
      exact here x hx
  · rintro ⟨⟨y, u, hdone, hnext⟩, inside, before, here⟩
    refine ⟨Nat.succ_lt_succ inside, fun k x hk hx => ?_, fun x hx => ?_⟩
    · cases k with
      | zero =>
        obtain rfl := Option.some.inj hx
        rw [blockAddress_zero]
        exact ⟨y, u, hdone, hnext.trans (by cases w <;> rfl)⟩
      | succ k =>
        obtain ⟨z, u, hdone, hnext⟩ := before k x (Nat.lt_of_succ_lt_succ hk) hx
        rw [blockAddress_succ] at hdone
        exact ⟨z, u, hdone, hnext.trans (by simp)⟩
    · have h := here x hx
      rwa [blockAddress_succ] at h

/-- The run of an STM up to its aborted transfer: the base is the only register that may have changed. -/
theorem storeWords_until {user priv w : Bool} {rn : RegNum} {after : Word} {regs : List RegNum} {a : Word} {k0 : Nat}
    {at_ : Nat → State} {t : State} (h : StoresUntilAbort user priv w rn after regs a k0 at_ t) :
    ∃ (rest : List RegNum) (a' : Word) (c : State),
      storeWords user priv rn (if w then some after else none) regs a { state := at_ 0, aborted := false, pcValue := none } =
        storeWords user priv rn none rest a' { state := c, aborted := true, pcValue := none } ∧
      BlockStep (at_ 0) c ∧ c.cp15 = t.cp15 ∧ c.gpr = ((at_ 0).basedBy w rn after).gpr := by
  induction k0 generalizing regs a at_ w with
  | zero =>
    match regs, h with
    | [], h => exact absurd h.inside (Nat.not_lt_zero _)
    | r :: rest, h =>
      have habort := h.here r rfl
      rw [blockAddress_zero] at habort
      have hstep := dataWrite_abort habort
      refine ⟨rest, a + 4#32, t.basedBy w rn after, storeWords_abort habort, (BlockStep.of_memory hstep).trans
        (basedBy_blockStep t w rn after), basedBy_cp15 t w rn after, ?_⟩
      cases w
      · exact hstep.gpr
      · show t.gpr.set _ _ = (at_ 0).gpr.set _ _
        simp only [hstep.gpr, hstep.cpsr]
  | succ k0 ih =>
    match regs, h with
    | [], h => exact absurd h.inside (Nat.not_lt_zero _)
    | r :: rest, h =>
      obtain ⟨⟨x, u, hdone, hnext⟩, htail⟩ := storesUntilAbort_cons.mp h
      obtain ⟨rest', a', c, hrun, hstep, hcp15, hgpr⟩ := ih htail
      have hu := dataWrite_done hdone
      refine ⟨rest', a', c, ?_, ((BlockStep.of_memory hu).trans (hnext ▸ basedBy_blockStep u w rn after)).trans hstep, hcp15, ?_⟩
      · rw [storeWords_done (b := { state := at_ 0, aborted := false, pcValue := none }) hdone, ← hnext]
        exact hrun
      · refine hgpr.trans ?_
        show (at_ 1).gpr = _
        rw [hnext]
        cases w
        · exact hu.gpr
        · show u.gpr.set _ _ = (at_ 0).gpr.set _ _
          simp only [hu.gpr, hu.cpsr]

/-! The data abort. -/

/-- An STM after an aborted transfer, unless a later transfer is refused: the run ends aborted, with FSR and FAR of that transfer and
the base written back if it is. -/
theorem storeWords_aborts {user priv w : Bool} {rn : RegNum} {after : Word} {regs : List RegNum} {a : Word} {s t : State}
    {k0 : Nat} {at_ : Nat → State} (h0 : at_ 0 = s) (h : StoresUntilAbort user priv w rn after regs a k0 at_ t) :
    (storeWords user priv rn (if w then some after else none) regs a { state := s, aborted := false, pcValue := none } =
      .error .tinyInCoarse ∧ s.cp15.m = true) ∨
    ∃ c : BlockRun,
      storeWords user priv rn (if w then some after else none) regs a { state := s, aborted := false, pcValue := none } = .ok c ∧
      c.aborted = true ∧ BlockStep s c.state ∧ c.state.cp15.fsr = t.cp15.fsr ∧ c.state.cp15.far = t.cp15.far ∧
      c.state.gpr = (s.basedBy w rn after).gpr := by
  obtain ⟨rest, a', c0, hrun, hstep, hcp15, hgpr⟩ := storeWords_until h
  rw [h0] at hrun hstep hgpr
  rw [hrun]
  rcases storeWords_aborted user priv rn rest a' (b := { state := c0, aborted := true, pcValue := none }) rfl with
    ⟨hrefused, hon⟩ | ⟨c, hc, haborted, hafter⟩
  · exact .inl ⟨hrefused, by rw [← hstep.mmuOn]; exact hon⟩
  · exact .inr ⟨c, hc, haborted, hstep.step hafter.step, hafter.fsr.trans (congrArg Cp15.fsr hcp15),
      hafter.far.trans (congrArg Cp15.far hcp15), hafter.step.gpr.trans hgpr⟩

theorem storeBlock_aborted {user p u w : Bool} {rn : RegNum} {regs : List RegNum} {s : State} {c : BlockRun}
    (h : storeWords user s.privileged rn (if w then some (blockEnd u (s.reg rn) regs.length) else none) regs
      (blockStart p u (s.reg rn) regs.length) { state := s, aborted := false, pcValue := none } = .ok c)
    (haborted : c.aborted = true) : storeBlock user p u w rn regs s = .next (c.state.takeException .dataAbort) := by
  unfold storeBlock
  dsimp only
  rw [h]
  exact if_pos haborted

/-- The registers after an aborted STM. -/
theorem storeAbort_registers {w : Bool} {rn : RegNum} {after : Word} {s c : State} (h : c.gpr = (s.basedBy w rn after).gpr)
    {j : Fin 30} (hj : j ≠ physIndex modeAbt 14#4) : (c.takeException .dataAbort).gpr[j] =
      if w = true ∧ j = physIndex s.cpsr.m rn then after else s.gpr[j] := by
  rw [dataAbort_gpr _ hj, h, basedBy_getElem]

/-- An STM whose meaning is the block store ends as `StoreAborts` says. -/
theorem storeAborts_of {i : Instr} {user p u w : Bool} {rn : RegNum} {regs : List RegNum} {s : State}
    (hi : regs ≠ [] → exec i s = storeBlock user p u w rn regs s) : StoreAborts i user p u w rn regs s := by
  rintro start after k0 at_ t rfl rfl h0 h
  have hne : regs ≠ [] := List.ne_nil_of_length_pos (Nat.lt_of_le_of_lt (Nat.zero_le _) h.inside)
  rw [BlockAbortTaken, hi hne]
  rcases storeWords_aborts h0 h with ⟨hrefused, -⟩ | ⟨c, hc, haborted, hstep, hfsr, hfar, hgpr⟩
  · left
    unfold storeBlock
    dsimp only
    rw [hrefused]
  · exact .inr ⟨_, storeBlock_aborted hc haborted, tookDataAbort_of hstep, hfsr, hfar, fun j hj => storeAbort_registers hgpr hj⟩

end Sys2Proof.Claims
end

section
/-! PROOFS. Block transfers with the MMU off, one of which the bus aborts (20 R146, 42 R418). -/

namespace Sys2Proof.Machine

theorem MemoryStep.hazard {s t : State} (h : MemoryStep s t) : t.bankHazard = s.bankHazard := by
  have k := congrArg (fun x : State => x.bankHazard) h.fixed
  exact k

theorem BlockStep.hazard {s t : State} (h : BlockStep s t) : t.bankHazard = s.bankHazard := by
  obtain ⟨u, g, hu, rfl⟩ := h
  exact hu.hazard

theorem BlockStep.bigEndian {s t : State} (h : BlockStep s t) : t.cp15.b = s.cp15.b := by
  obtain ⟨u, g, hu, rfl⟩ := h
  exact hu.bigEndian

theorem BlockStep.relocate {s t : State} (h : BlockStep s t) (a : Word) : t.relocate a = s.relocate a := by
  obtain ⟨u, g, hu, rfl⟩ := h
  exact hu.relocate a

theorem BlockStep.alone {s t : State} (h : BlockStep s t) (alone : s.masters = []) : t.masters = [] := by
  obtain ⟨u, g, hu, rfl⟩ := h
  exact hu.alone alone

theorem BlockStep.wf {s t : State} (h : BlockStep s t) (hw : cellsWf s.mem = true) : cellsWf t.mem = true := by
  obtain ⟨u, g, hu, rfl⟩ := h
  exact hu.memory hw

theorem setReg_settled (s : State) (r : RegNum) (v : Word) : Settled s (s.setReg r v) := .of_eq rfl rfl rfl rfl

theorem basedBy_settled (s : State) (w : Bool) (rn : RegNum) (after : Word) : Settled s (s.basedBy w rn after) := by
  cases w
  · exact .refl s
  · exact setReg_settled s rn after

theorem dataAbort_settled (s : State) : Settled s (s.takeException .dataAbort) := by
  rw [takeException_dataAbort]
  exact .of_eq rfl rfl rfl rfl

end Sys2Proof.Machine

namespace Sys2Proof.Claims

open Sys2Proof.Machine

/-! What a block transfer leaves of the premises of the next one. -/

theorem Quiet.blockStep {s t : State} (q : Quiet s) (h : BlockStep s t) : Quiet t := by
  obtain ⟨u, g, hu, rfl⟩ := h
  obtain ⟨mmuOff, running, normal, alone, unit0, unit1, noBreak⟩ := q.step hu
  exact ⟨mmuOff, running, normal, alone, unit0, unit1, noBreak⟩

theorem Ready.blockStep {s t : State} {a : Word} {size : Size} (r : Ready s a size) (h : BlockStep s t) : Ready t a size := by
  obtain ⟨u, g, hu, rfl⟩ := h
  obtain ⟨aligned, even, ram⟩ := r.step hu
  exact ⟨aligned, even, ram⟩

theorem ready_iff {s t : State} (h : BlockStep s t) {a : Word} {size : Size} : Ready t a size ↔ Ready s a size := by
  refine ⟨fun r => ?_, fun r => r.blockStep h⟩
  obtain ⟨u, g, hu, rfl⟩ := h
  obtain ⟨aligned, even, ram⟩ := r
  have hrelocate : u.relocate a = s.relocate a := hu.relocate a
  have haligned : u.misaligned size (u.relocate a) = false := aligned
  have heven : size = .half → (u.relocate a).getLsbD 0 = false := even
  have hram : u.regionOf (firstByte size (u.relocate a)) = .ram := ram
  rw [hrelocate] at haligned heven hram
  rw [State.misaligned.eq_def, hu.checking] at haligned
  rw [hu.regionOf] at hram
  exact ⟨haligned, heven, hram⟩

theorem Failing.blockStep {s t : State} {a : Word} (f : Failing s a) (h : BlockStep s t) : Failing t a := by
  obtain ⟨u, g, hu, rfl⟩ := h
  refine ⟨?_, ?_⟩
  · show u.misaligned .word (u.relocate a) = false
    rw [hu.relocate, State.misaligned.eq_def, hu.checking]
    exact f.aligned
  · show u.regionOf (firstByte .word (u.relocate a)) = .error
    rw [hu.relocate, hu.regionOf]
    exact f.failing

/-- A word of RAM does not fail. -/
theorem Failing.notReady {s : State} {a : Word} (f : Failing s a) : ¬ Ready s a .word := fun r => by
  have h := r.ram
  rw [f.failing] at h
  cases h

/-- A word read depends on memory as it will settle. -/
theorem readWord_settled {s t : State} (h : Settled s t) (alone : s.masters = []) (k : BlockStep s t) (a : Word) :
    readWord t a = readWord s a := by
  have hb : t.drainAll.cp15.b = s.drainAll.cp15.b := by
    rw [(drainAll_step t).bigEndian, (drainAll_step s).bigEndian, k.bigEndian]
  unfold readWord State.memoryWord State.byteAt
  rw [(h.store alone).mem, hb, k.relocate]

theorem blockWord_settled {s t : State} (h : Settled s t) (alone : s.masters = []) (k : BlockStep s t) (a : Word) (n : Nat) :
    blockWord t a n = blockWord s a n := readWord_settled h alone k _

theorem blockWord_succ (s : State) (a : Word) (k : Nat) : blockWord s (a + 4#32) k = blockWord s a (k + 1) := by
  unfold blockWord
  rw [blockAddress_succ]

/-! A word access that the bus aborts. -/

/-- FS of an external abort (21 R201). -/
def IsBusFsr (fsr : BitVec 8) : Prop := fsr.extractLsb' 0 4 = 0b1000#4 ∨ fsr.extractLsb' 0 4 = 0b1010#4

theorem isBusFsr_flat (s : State) (a : Word) : IsBusFsr ((s.flatMapping a).abortDomain ++ (s.flatMapping a).abortFs) := by
  unfold IsBusFsr
  rw [append_field_low _ _ _ _ (by omega), field_all]
  show (if s.drawn.getLsbD 0 then 0b1000#4 else 0b1010#4) = _ ∨ (if s.drawn.getLsbD 0 then 0b1000#4 else 0b1010#4) = _
  split
  · exact .inl rfl
  · exact .inr rfl

theorem Failing.aborts {s : State} {a : Word} (f : Failing s a) (q : Quiet s) (v : Word) (priv : Bool) :
    (∃ t : State, dataRead s a .word priv false = .abort t ∧ Aborted (s.relocate a) IsBusFsr s t) ∧
    ∃ t : State, dataWrite s a .word v priv false = .abort t ∧ Aborted (s.relocate a) IsBusFsr s t := by
  have hflat := fun write => congrArg Prod.fst (translate_flat q.mmuOff (s.relocate a) priv write)
  obtain ⟨hread, hwrite⟩ := error_aborts v priv (lock := false) (m := s.flatMapping (s.relocate a))
    ⟨q.debugSpeed, f.aligned, nofun⟩ f.failing nofun
  obtain ⟨t, ht, far, status, fixed, memory⟩ := hread (hflat false) fun _ => .inr rfl
  obtain ⟨t', ht', far', status', fixed', memory'⟩ := hwrite (hflat true) fun _ => .inl q.mmuOff
  have hbus := isBusFsr_flat s (s.relocate a)
  exact ⟨⟨t, ht, far, status ▸ hbus, fixed, memory⟩, t', ht', far', status' ▸ hbus, fixed', memory'⟩

/-! Loads. -/

/-- The transfers of an LDM whose words up to number `k0` are ready. -/
theorem exists_loadsUntilAbort {s : State} {regs : List RegNum} {a : Word} {k0 : Nat} (user priv : Bool) (q : Quiet s)
    (inside : k0 < regs.length) (before : ∀ k : Nat, k < k0 → Ready s (a + BitVec.ofNat 32 (4 * k)) .word)
    (here : Failing s (a + BitVec.ofNat 32 (4 * k0))) :
    ∃ (at_ : Nat → State) (value : Nat → Word) (t : State), at_ 0 = s ∧ LoadsUntilAbort user priv regs a k0 at_ value t ∧
      (∀ k : Nat, k < k0 → value k = blockWord s a k) ∧ Settled s t ∧
      t.cp15.far = s.relocate (a + BitVec.ofNat 32 (4 * k0)) ∧ IsBusFsr t.cp15.fsr := by
  induction k0 generalizing s regs a with
  | zero =>
    obtain ⟨⟨t, ht, habort⟩, -⟩ := here.aborts q 0 priv
    exact ⟨fun _ => s, fun _ => 0, t, rfl, ⟨inside, fun k _ hk => absurd hk (Nat.not_lt_zero k), ht⟩,
      fun k hk => absurd hk (Nat.not_lt_zero k), dataRead_abort_settled ht, habort.far, habort.status⟩
  | succ k0 ih =>
    match regs, inside with
    | r :: rest, inside =>
      have hready := before 0 (Nat.succ_pos _)
      rw [blockAddress_zero] at hready
      have hdone := dataRead_quiet priv false q hready
      have hstep := (BlockStep.of_memory (afterRead_step s a .word priv false)).trans
        (blockLoadReg_blockStep user _ r (readValue s a .word))
      have hkept := (afterRead_settled s a .word priv false).trans (blockLoadReg_settled user _ r (readValue s a .word))
      obtain ⟨at_, value, t, h0, hloads, hvalue, hsettled, hfar, hfsr⟩ := ih (q.blockStep hstep) (Nat.lt_of_succ_lt_succ inside)
        (fun k hk => by rw [blockAddress_succ]; exact (before (k + 1) (Nat.succ_lt_succ hk)).blockStep hstep)
        (by rw [blockAddress_succ]; exact here.blockStep hstep)
      refine ⟨fun k => Nat.casesOn k s at_, fun k => Nat.casesOn k (readValue s a .word) value, t, rfl,
        loadsUntilAbort_cons.mpr ⟨⟨_, hdone, h0⟩, hloads⟩, fun k hk => ?_, hkept.trans hsettled, ?_, hfsr⟩
      · cases k with
        | zero =>
          unfold blockWord
          rw [blockAddress_zero]
          rfl
        | succ k =>
          exact (hvalue k (Nat.lt_of_succ_lt_succ hk)).trans
            ((blockWord_settled hkept q.alone hstep _ _).trans (blockWord_succ s a k))
      · rw [hfar, hstep.relocate, blockAddress_succ]

/-! Stores. -/

/-- The transfers of an STM whose words up to number `k0` are ready. -/
theorem exists_storesUntilAbort {s : State} {regs : List RegNum} {a : Word} {k0 : Nat} (user priv w : Bool) (rn : RegNum)
    (after : Word) (q : Quiet s) (inside : k0 < regs.length)
    (before : ∀ k : Nat, k < k0 → Ready s (a + BitVec.ofNat 32 (4 * k)) .word)
    (here : Failing s (a + BitVec.ofNat 32 (4 * k0))) :
    ∃ (at_ : Nat → State) (t : State), at_ 0 = s ∧ StoresUntilAbort user priv w rn after regs a k0 at_ t ∧
      t.cp15.far = s.relocate (a + BitVec.ofNat 32 (4 * k0)) ∧ IsBusFsr t.cp15.fsr := by
  induction k0 generalizing s regs a w with
  | zero =>
    match regs, inside with
    | r :: rest, inside =>
      obtain ⟨-, t, ht, habort⟩ := here.aborts q (blockStoreValue user s r) priv
      refine ⟨fun _ => s, t, rfl, ⟨inside, fun k _ hk => absurd hk (Nat.not_lt_zero k), fun x hx => ?_⟩, habort.far,
        habort.status⟩
      obtain rfl := Option.some.inj hx
      exact ht
  | succ k0 ih =>
    match regs, inside with
    | r :: rest, inside =>
      have hready := before 0 (Nat.succ_pos _)
      rw [blockAddress_zero] at hready
      have hdone := dataWrite_quiet (blockStoreValue user s r) priv false q hready
      have hstep := (BlockStep.of_memory (afterWrite_step s a .word (blockStoreValue user s r) priv false)).trans
        (basedBy_blockStep _ w rn after)
      obtain ⟨at_, t, h0, hstores, hfar, hfsr⟩ := ih false (q.blockStep hstep) (Nat.lt_of_succ_lt_succ inside)
        (fun k hk => by rw [blockAddress_succ]; exact (before (k + 1) (Nat.succ_lt_succ hk)).blockStep hstep)
        (by rw [blockAddress_succ]; exact here.blockStep hstep)
      refine ⟨fun k => Nat.casesOn k s at_, t, rfl, storesUntilAbort_cons.mpr ⟨⟨_, _, hdone, h0⟩, hstores⟩, ?_, hfsr⟩
      rw [hfar, hstep.relocate, blockAddress_succ]

/-- What the transfers of a block of `n` words that do not fail leave of memory. -/
structure ReadyStored (n : Nat) (values : Nat → Word) (start : Word) (s t : State) : Prop where
  stored : ∀ k : Nat, k < n → Ready s (start + BitVec.ofNat 32 (4 * k)) .word → ∀ j : Nat, j < 4 →
    t.settledByte (wordAlign (s.relocate (start + BitVec.ofNat 32 (4 * k))) + BitVec.ofNat 32 j) =
      byteOfValue s.cp15.b 4 j (values k)
  others : ∀ a : Word, (∀ k : Nat, k < n → Ready s (start + BitVec.ofNat 32 (4 * k)) .word →
    wordAlign a ≠ wordAlign (s.relocate (start + BitVec.ofNat 32 (4 * k)))) → t.settledByte a = s.settledByte a

/-- The bytes of a word are in that word. -/
theorem wordAlign_byte (a : Word) {j : Nat} (hj : j < 4) : wordAlign (wordAlign a + BitVec.ofNat 32 j) = wordAlign a := by
  have ha := a.isLt
  refine BitVec.eq_of_toNat_eq ?_
  rw [toNat_wordAlign, BitVec.toNat_add, toNat_wordAlign, BitVec.toNat_ofNat]
  omega

/-- The words of a block are different words, also when they are relocated. -/
theorem blockWords_ne (s : State) (a : Word) {k : Nat} (h0 : 0 < k) (hk : k < 16) :
    wordAlign (s.relocate a) ≠ wordAlign (s.relocate (a + BitVec.ofNat 32 (4 * k))) := by
  intro h
  have hlow : ∀ x : Word, (wordAlign (s.relocate x)).toNat % 2 ^ 25 = x.toNat % 2 ^ 25 / 4 * 4 := by
    intro x
    have hx := congrArg BitVec.toNat (relocate_low s x (k := 0) (l := 25) (by omega))
    rw [BitVec.extractLsb'_toNat, BitVec.extractLsb'_toNat, Nat.shiftRight_zero, Nat.shiftRight_zero] at hx
    rw [toNat_wordAlign]
    omega
  have hmod := congrArg (fun x : Word => x.toNat % 2 ^ 25) h
  simp only [hlow, BitVec.toNat_add, BitVec.toNat_ofNat] at hmod
  omega

/-- What one transfer of an STM leaves of memory. -/
structure WordTransferred (a v : Word) (s t : State) : Prop where
  ready : Ready s a .word → BytesStored .word (s.relocate a) v s t
  failing : ¬ Ready s a .word → ∀ b : Word, t.settledByte b = s.settledByte b

theorem WordTransferred.settled {a v : Word} {s t u : State} (h : WordTransferred a v s t) (k : Settled t u)
    (alone : t.masters = []) : WordTransferred a v s u :=
  ⟨fun hr => (h.ready hr).settled k alone, fun hn b => (k.byte alone b).trans (h.failing hn b)⟩

theorem WordTransferred.others {a v : Word} {s t : State} (h : WordTransferred a v s t) {b : Word}
    (hb : Ready s a .word → wordAlign b ≠ wordAlign (s.relocate a)) : t.settledByte b = s.settledByte b := by
  by_cases hready : Ready s a .word
  · refine (h.ready hready).others b fun j hj he => hb hready ?_
    rw [he]
    exact wordAlign_byte _ hj
  · exact h.failing hready b

/-- One transfer before the rest of a block. -/
theorem ReadyStored.cons {n : Nat} {values : Nat → Word} {a : Word} {s u t : State} (hn : n < 16)
    (hfirst : WordTransferred a (values 0) s u) (hstep : BlockStep s u)
    (h : ReadyStored n (fun k => values (k + 1)) (a + 4#32) u t) : ReadyStored (n + 1) values a s t := by
  obtain ⟨hstored, hothers⟩ := h
  simp only [blockAddress_succ, hstep.relocate, ready_iff hstep, hstep.bigEndian] at hstored hothers
  refine ⟨fun k hk hr j hj => ?_, fun b hb => ?_⟩
  · cases k with
    | zero =>
      rw [blockAddress_zero] at hr ⊢
      rw [hothers _ fun k hk _ => ?_]
      · exact (hfirst.ready hr).stored j hj
      · rw [wordAlign_byte _ hj]
        exact blockWords_ne s a (Nat.succ_pos k) (by omega)
    | succ k => exact hstored k (Nat.lt_of_succ_lt_succ hk) hr j hj
  · rw [hothers b fun k hk => hb (k + 1) (Nat.succ_lt_succ hk)]
    refine hfirst.others fun hr => ?_
    have h := hb 0 (Nat.succ_pos _)
    rw [blockAddress_zero] at h
    exact h hr

end Sys2Proof.Claims
end

section
/-! PROOFS. What an aborted STM leaves of memory, and the block transfers of O30 (42 R413, R414, R416, R418; 45 R528 to R531). -/

namespace Sys2Proof.Machine

/-! The forms. -/

theorem guardBlock_pass {rn : RegNum} {regs : List RegNum} {body : Result} (h15 : rn ≠ 15#4) (hne : regs ≠ []) :
    guardBlock rn regs body = body := by
  rw [guardBlock, guardPc_pass (beq_false_of_ne h15), guardClash_pass (List.isEmpty_eq_false_iff.mpr hne)]

theorem guardUserBank_pass {s : State} {body : Result} (hu : s.cpsr.m ≠ modeUsr) (hs : s.cpsr.m ≠ modeSys) :
    guardUserBank s body = body := if_neg (not_or.mpr ⟨hu, hs⟩)

theorem guardSpsr_pass {s : State} {body : Result} (h : s.spsrOf s.cpsr.m ≠ none) : guardSpsr s body = body := by
  unfold guardSpsr
  split
  · exact absurd ‹_› h
  · rfl

theorem sp_ne_fifteen : (13#4 : RegNum) ≠ 15#4 := by decide

theorem low_ne_fifteen (r : LowReg) : r.setWidth 4 ≠ 15#4 := by
  intro h
  have hval := congrArg BitVec.toNat h
  have hr := r.isLt
  simp only [BitVec.toNat_setWidth, BitVec.toNat_ofNat] at hval
  omega

/-! The values stored. -/

theorem readPhys_gpr {s : State} (h : s.bankHazard = false) (k : Fin 30) : s.readPhys k = s.gpr[k] :=
  if_neg (by rw [h]; simp)

theorem blockStoreValue_congr {user : Bool} {s t : State} (hs : s.bankHazard = false) (ht : t.bankHazard = false)
    (hgpr : t.gpr = s.gpr) (hpc : t.pc = s.pc) (hcpsr : t.cpsr = s.cpsr) (r : RegNum) :
    blockStoreValue user t r = blockStoreValue user s r := by
  simp only [blockStoreValue, State.regLate, State.regOr, readPhys_gpr hs, readPhys_gpr ht, hgpr, hpc, hcpsr]

/-- The value of transfer `k` of an STM: the base is written back after the first. -/
def storedAt (user w : Bool) (rn : RegNum) (after : Word) (s : State) (regs : List RegNum) (k : Nat) : Word :=
  blockStoreValue user (s.basedBy (w && k != 0) rn after) (regs.getD k 0#4)

end Sys2Proof.Machine

namespace Sys2Proof.Claims

open Sys2Proof.Machine

theorem storedAt_eq_blockStored {w : Bool} {rn : RegNum} (after : Word) {s : State} (regs : List RegNum) (k : Nat)
    (h15 : rn ≠ 15#4) (hazard : s.bankHazard = false) :
    storedAt false w rn after s regs k = blockStored false w rn after s k (regs.getD k 0#4) := by
  unfold storedAt blockStored blockStoreValue State.regLate State.regOr
  generalize regs.getD k 0#4 = r
  have hbased := basedBy_blockStep s (w && k != 0) rn after
  rw [if_neg Bool.false_ne_true, hbased.pc, hbased.cpsr, readPhys_gpr (hbased.hazard.trans hazard), basedBy_getElem]
  by_cases hr : r = 15#4
  · rw [if_pos hr, if_pos hr]
  · rw [if_neg hr, if_neg hr, if_neg Bool.false_ne_true, readPhys_gpr hazard]
    refine if_congr ⟨fun ⟨hwk, he⟩ => ?_, fun ⟨hw, he, hk⟩ => ?_⟩ rfl rfl
    · obtain ⟨hw, hk⟩ := Bool.and_eq_true_iff.mp hwk
      exact ⟨hw, physIndex_inj hr h15 he, by simpa using hk⟩
    · exact ⟨by simp [hw, hk], by rw [he]⟩

/-- After the first transfer of an STM the values stored are those of its state. -/
theorem storedAt_succ {user w : Bool} {rn : RegNum} {after : Word} {s u : State} (h : MemoryStep s u)
    (hazard : s.bankHazard = false) (r : RegNum) (rest : List RegNum) (k : Nat) :
    storedAt user false rn after (u.basedBy w rn after) rest k = storedAt user w rn after s (r :: rest) (k + 1) := by
  have hs := basedBy_blockStep s w rn after
  have hu := basedBy_blockStep u w rn after
  unfold storedAt
  rw [show (w && k + 1 != 0) = w by cases w <;> rfl]
  refine blockStoreValue_congr (hs.hazard.trans hazard) ((hu.hazard.trans h.hazard).trans hazard) ?_
    ((hu.pc.trans h.pc).trans hs.pc.symm) ((hu.cpsr.trans h.cpsr).trans hs.cpsr.symm) _
  cases w
  · exact h.gpr
  · show u.gpr.set _ _ = s.gpr.set _ _
    simp only [h.gpr, h.cpsr]

/-- One transfer of an STM, ready or failing. -/
theorem storeWords_first {user priv w : Bool} {rn r : RegNum} {after a : Word} {rest : List RegNum} {b c : BlockRun}
    (q : Quiet b.state) (hw : cellsWf b.state.mem = true) (h : Ready b.state a .word ∨ Failing b.state a)
    (hrun : storeWords user priv rn (if w then some after else none) (r :: rest) a b = .ok c) :
    ∃ (u : State) (x : Bool), MemoryStep b.state u ∧ WordTransferred a (blockStoreValue user b.state r) b.state u ∧
      storeWords user priv rn none rest (a + 4#32) { b with state := u.basedBy w rn after, aborted := x } = .ok c := by
  rcases h with hready | hfailing
  · rw [storeWords_done (dataWrite_quiet _ _ _ q hready)] at hrun
    exact ⟨_, b.aborted, afterWrite_step _ _ _ _ _ _, ⟨fun _ => afterWrite_stores _ _ _ hw q.alone hready.ram,
      fun hn => absurd hready hn⟩, hrun⟩
  · obtain ⟨-, u, hu, habort⟩ := hfailing.aborts q (blockStoreValue user b.state r) priv
    rw [storeWords_abort hu] at hrun
    have hstep := dataWrite_abort hu
    refine ⟨_, true, hstep.trans (keepFirstFault_step b u), ⟨fun hr => absurd hr hfailing.notReady, fun _ x => ?_⟩, hrun⟩
    rw [(keepFirstFault_settled b u).byte (hstep.alone q.alone), habort.memory q.alone]

/-- An STM with the MMU off, each of whose transfers is ready or failing, stores those that are ready. -/
theorem storeWords_stores {user priv w : Bool} {rn : RegNum} {after : Word} {regs : List RegNum} {a : Word} {b c : BlockRun}
    (hlen : regs.length ≤ 16) (q : Quiet b.state) (hw : cellsWf b.state.mem = true) (hazard : b.state.bankHazard = false)
    (each : ∀ k : Nat, k < regs.length → Ready b.state (a + BitVec.ofNat 32 (4 * k)) .word ∨
      Failing b.state (a + BitVec.ofNat 32 (4 * k)))
    (hrun : storeWords user priv rn (if w then some after else none) regs a b = .ok c) :
    ReadyStored regs.length (storedAt user w rn after b.state regs) a b.state c.state := by
  induction regs generalizing a b w with
  | nil =>
    cases w <;> cases hrun <;> exact ⟨fun k hk => absurd hk (Nat.not_lt_zero k), fun _ _ => rfl⟩
  | cons r rest ih =>
    have hfirst := each 0 (Nat.succ_pos _)
    rw [blockAddress_zero] at hfirst
    obtain ⟨u, x, hu, htransferred, hrest⟩ := storeWords_first q hw hfirst hrun
    have hstep := (BlockStep.of_memory hu).trans (basedBy_blockStep u w rn after)
    have hstored := ih (w := false) (b := { b with state := u.basedBy w rn after, aborted := x })
      (Nat.le_of_succ_le hlen) (q.blockStep hstep) (hstep.wf hw) (hstep.hazard.trans hazard) (fun k hk => by
        rw [blockAddress_succ]
        exact (each (k + 1) (Nat.succ_lt_succ hk)).imp (·.blockStep hstep) (·.blockStep hstep)) hrest
    refine ReadyStored.cons (u := u.basedBy w rn after) hlen ?_ hstep ?_
    · rw [show storedAt user w rn after b.state (r :: rest) 0 = blockStoreValue user b.state r by cases w <;> rfl]
      exact htransferred.settled (basedBy_settled u w rn after) (hu.alone q.alone)
    · rw [show (fun k => storedAt user w rn after b.state (r :: rest) (k + 1)) =
        storedAt user false rn after (u.basedBy w rn after) rest from funext fun k => (storedAt_succ hu hazard r rest k).symm]
      exact hstored

/-! The forms of LDM and STM. -/

theorem armBlocks_abort {cond : Cond} {rn : RegNum} {s : State} (p u w : Bool) (regs : BitVec 16)
    (hc : condPassed cond s.cpsr = true) (h15 : rn ≠ 15#4) :
    LoadAborts (.ldm cond p u w rn regs) false p u w rn (regList regs) s ∧
    StoreAborts (.stm cond p u w rn regs) false p u w rn (regList regs) s ∧
    (s.cpsr.m ≠ modeUsr → s.cpsr.m ≠ modeSys →
      StoreAborts (.stmUser cond p u false rn regs) true p u false rn (regList regs) s) :=
  ⟨loadAborts_of (restore := false) (regList_ascends _) fun hne => (conditionally_pass hc).trans (guardBlock_pass h15 hne),
    storeAborts_of fun hne => (conditionally_pass hc).trans (guardBlock_pass h15 hne),
    fun hu hs => storeAborts_of fun hne =>
      (conditionally_pass hc).trans ((guardBlock_pass h15 hne).trans ((guardClash_pass rfl).trans (guardUserBank_pass hu hs)))⟩

theorem userBankLoads_abort {cond : Cond} {rn : RegNum} {s : State} (p u w : Bool) (regs : BitVec 15)
    (hc : condPassed cond s.cpsr = true) (h15 : rn ≠ 15#4) (hu : s.cpsr.m ≠ modeUsr) (hs : s.cpsr.m ≠ modeSys) :
    LoadAborts (.ldmUser cond p u false rn regs) true p u false rn (regList (0#1 ++ regs)) s ∧
    (s.spsrOf s.cpsr.m ≠ none → LoadAborts (.ldmRestore cond p u w rn regs) false p u w rn (regList (1#1 ++ regs)) s) :=
  ⟨loadAborts_of (restore := false) (regList_ascends _) fun hne =>
      (conditionally_pass hc).trans ((guardBlock_pass h15 hne).trans ((guardClash_pass rfl).trans (guardUserBank_pass hu hs))),
    fun hspsr => loadAborts_of (restore := true) (regList_ascends _) fun hne =>
      (conditionally_pass hc).trans ((guardBlock_pass h15 hne).trans (guardSpsr_pass hspsr))⟩

theorem thumbBlocks_abort (r : Bool) (rb : LowReg) (regs : BitVec 8) (s : State) :
    LoadAborts (.tPop r regs) false false true true 13#4 (popList r regs) s ∧
    LoadAborts (.tLdmia rb regs) false false true true (rb.setWidth 4) (regList (0#8 ++ regs)) s ∧
    StoreAborts (.tPush r regs) false true false true 13#4 (pushList r regs) s ∧
    StoreAborts (.tStmia rb regs) false false true true (rb.setWidth 4) (regList (0#8 ++ regs)) s :=
  ⟨loadAborts_of (restore := false) (regList_ascends _) (guardBlock_pass sp_ne_fifteen),
    loadAborts_of (restore := false) (regList_ascends _) (guardBlock_pass (low_ne_fifteen rb)),
    storeAborts_of (guardBlock_pass sp_ne_fifteen), storeAborts_of (guardBlock_pass (low_ne_fifteen rb))⟩

/-! The bus aborts. -/

/-- A register of a list before another is not r15. -/
theorem ne_fifteen_of_before {regs : List RegNum} (ascends : regs.Pairwise (· < ·)) {k k0 : Nat} {r : RegNum}
    (hr : regs[k]? = some r) (hk : k < k0) (inside : k0 < regs.length) : r ≠ 15#4 := by
  obtain ⟨hk', rfl⟩ := List.getElem?_eq_some_iff.mp hr
  exact ne_fifteen_of_lt (List.pairwise_iff_getElem.mp ascends k k0 hk' inside hk)

/-- An LDM one of whose words the bus aborts. -/
theorem ldm_busAbort {cond : Cond} {p u w : Bool} {rn : RegNum} {regs : BitVec 16} {s : State} {start : Word} {k0 : Nat}
    (hc : condPassed cond s.cpsr = true) (h15 : rn ≠ 15#4) (q : Quiet s) (hazard : s.bankHazard = false)
    (hstart : start = blockStart p u (s.reg rn) (regList regs).length) (h : FirstFailure s start (regList regs).length k0) :
    ∃ t : State, exec (.ldm cond p u w rn regs) s = .next t ∧ TookDataAbort s t ∧
      t.cp15.far = s.relocate (start + BitVec.ofNat 32 (4 * k0)) ∧ IsBusFsr t.cp15.fsr ∧
      (∀ (k : Nat) (r : RegNum), k < k0 → (regList regs)[k]? = some r → r ≠ 15#4 → r ≠ rn →
        physIndex s.cpsr.m r ≠ physIndex modeAbt 14#4 → t.gpr[physIndex s.cpsr.m r] = blockWord s start k) ∧
      (physIndex s.cpsr.m rn ≠ physIndex modeAbt 14#4 →
        t.gpr[physIndex s.cpsr.m rn] = if w then blockEnd u (s.reg rn) (regList regs).length else s.reg rn) ∧
      (∀ i : Fin 30, i ≠ physIndex modeAbt 14#4 → i ≠ physIndex s.cpsr.m rn →
        (∀ (k : Nat) (r : RegNum), k < k0 → (regList regs)[k]? = some r → r ≠ 15#4 → physIndex s.cpsr.m r ≠ i) →
        t.gpr[i] = s.gpr[i]) ∧
      ∀ a : Word, t.settledByte a = s.settledByte a := by
  have ascends := regList_ascends regs
  have hne : regList regs ≠ [] := List.ne_nil_of_length_pos (Nat.lt_of_le_of_lt (Nat.zero_le _) h.inside)
  have hbased := basedBy_blockStep s w rn (blockEnd u (s.reg rn) (regList regs).length)
  have hbasedKept := basedBy_settled s w rn (blockEnd u (s.reg rn) (regList regs).length)
  obtain ⟨at_, value, t, h0, hloads, hvalue, hsettled, hfar, hfsr⟩ := exists_loadsUntilAbort false s.privileged
    (q.blockStep hbased) h.inside (fun k hk => (h.before k hk).blockStep hbased) (h.here.blockStep hbased)
  obtain ⟨hloaded, -⟩ := loadWords_until hloads ascends (congrArg Psr.m (h0 ▸ hbased.cpsr))
  have hrun := loadBlock_aborts (restore := false) (p := p) (u := u) (w := w) ascends h0 (hstart ▸ hloads)
  rcases hrun with ⟨-, hon⟩ | ⟨c, hafter, hkept, hrun⟩
  · exact absurd (q.mmuOff.symm.trans hon) Bool.false_ne_true
  obtain ⟨hregs, hbase, hothers⟩ := loadAbort_registers h0 hloaded hafter.step rfl
  have hstep := ((hbased.trans (h0 ▸ hloaded.step)).step hafter.step).trans (setReg_blockStep c rn
    (if w then blockEnd u (s.reg rn) (regList regs).length else s.gpr[physIndex s.cpsr.m rn]))
  refine ⟨_, ((conditionally_pass hc).trans (guardBlock_pass h15 hne)).trans hrun, tookDataAbort_of hstep,
    hafter.far.trans (hfar.trans (hbased.relocate _)), by rw [IsBusFsr]; exact hafter.fsr ▸ hfsr,
    fun k r hk hr hr15 hrn hlink => ?_, fun hlink => ?_, fun i hlink hi hlist => ?_, ?_⟩
  · exact (hregs k r hk hr (fun e => hrn (physIndex_inj hr15 h15 e)) hlink).trans
      ((hvalue k hk).trans (blockWord_settled hbasedKept q.alone hbased start k))
  · exact (hbase hlink).trans (by rw [← reg_gpr h15 hazard])
  · exact hothers i hlink hi fun k r hk hr => hlist k r hk hr (ne_fifteen_of_before ascends hr hk h.inside)
  · exact ((((hbasedKept.trans hsettled).trans hkept).trans (setReg_settled c rn _)).trans (dataAbort_settled _)).byte q.alone

/-- An STM one of whose words the bus aborts. -/
theorem stm_busAbort {cond : Cond} {p u w : Bool} {rn : RegNum} {regs : BitVec 16} {s : State} {start : Word} {k0 : Nat}
    (hc : condPassed cond s.cpsr = true) (h15 : rn ≠ 15#4) (q : Quiet s) (hw : cellsWf s.mem = true)
    (hazard : s.bankHazard = false) (hstart : start = blockStart p u (s.reg rn) (regList regs).length)
    (h : FirstFailure s start (regList regs).length k0) :
    ∃ t : State, exec (.stm cond p u w rn regs) s = .next t ∧ TookDataAbort s t ∧
      t.cp15.far = s.relocate (start + BitVec.ofNat 32 (4 * k0)) ∧ IsBusFsr t.cp15.fsr ∧
      (∀ i : Fin 30, i ≠ physIndex modeAbt 14#4 →
        t.gpr[i] = if w = true ∧ i = physIndex s.cpsr.m rn then blockEnd u (s.reg rn) (regList regs).length
          else s.gpr[i]) ∧
      (∀ k : Nat, k < (regList regs).length → Ready s (start + BitVec.ofNat 32 (4 * k)) .word → ∀ j : Nat, j < 4 →
        t.settledByte (wordAlign (s.relocate (start + BitVec.ofNat 32 (4 * k))) + BitVec.ofNat 32 j) =
          byteOfValue s.cp15.b 4 j (blockStored false w rn (blockEnd u (s.reg rn) (regList regs).length) s k
            ((regList regs).getD k 0#4))) ∧
      ∀ a : Word, (∀ k : Nat, k < (regList regs).length → Ready s (start + BitVec.ofNat 32 (4 * k)) .word →
        wordAlign a ≠ wordAlign (s.relocate (start + BitVec.ofNat 32 (4 * k)))) → t.settledByte a = s.settledByte a := by
  have hne : regList regs ≠ [] := List.ne_nil_of_length_pos (Nat.lt_of_le_of_lt (Nat.zero_le _) h.inside)
  obtain ⟨at_, t, h0, hstores, hfar, hfsr⟩ := exists_storesUntilAbort (regs := regList regs) false s.privileged w rn
    (blockEnd u (s.reg rn) (regList regs).length) q h.inside h.before h.here
  rcases storeWords_aborts h0 hstores with ⟨-, hon⟩ | ⟨c, hrun, haborted, hstep, hcfsr, hcfar, hgpr⟩
  · exact absurd (q.mmuOff.symm.trans hon) Bool.false_ne_true
  have each : ∀ k : Nat, k < (regList regs).length → Ready s (start + BitVec.ofNat 32 (4 * k)) .word ∨
      Failing s (start + BitVec.ofNat 32 (4 * k)) := by
    intro k hk
    rcases Nat.lt_trichotomy k k0 with hlt | rfl | hgt
    · exact .inl (h.before k hlt)
    · exact .inr h.here
    · exact h.after k hgt hk
  obtain ⟨hstored, hothers⟩ := storeWords_stores (regList_length regs) q hw hazard each hrun
  have hbyte := (dataAbort_settled c.state).byte (hstep.alone q.alone)
  have hexec := storeBlock_aborted (hstart ▸ hrun) haborted
  refine ⟨_, ((conditionally_pass hc).trans (guardBlock_pass h15 hne)).trans hexec, tookDataAbort_of hstep,
    hcfar.trans hfar, by rw [IsBusFsr]; exact hcfsr ▸ hfsr, fun i hi => storeAbort_registers hgpr hi,
    fun k hk hr j hj => ?_, fun a ha => (hbyte a).trans (hothers a ha)⟩
  rw [← storedAt_eq_blockStored _ _ _ h15 hazard, ← hstored k hk hr j hj]
  exact hbyte _

/-- Settles O30: a block transfer runs up to the aborted one (`loadWords_until`, `storeWords_until`) and keeps its fault to the end
(`RunsOn`); with the MMU off every other transfer completes or fails on the bus. -/
theorem abortedBlockTransfers : Obligations.AbortedBlockTransfers :=
  ⟨fun _ p u w _ regs _ hc h15 => armBlocks_abort p u w regs hc h15,
    fun _ p u w _ regs _ hc h15 hu hs => userBankLoads_abort p u w regs hc h15 hu hs,
    thumbBlocks_abort,
    fun _ _ _ _ _ _ _ _ _ hc h15 q hw hazard hstart h =>
      ⟨ldm_busAbort hc h15 q hazard hstart h, stm_busAbort hc h15 q hw hazard hstart h⟩⟩

end Sys2Proof.Claims
end

section
/-! PROOFS. FCSE relocation (21 R161) and table walks: the descriptors a walk reads, the entry it writes and how its translation ends
(10 R74, 21 R170 to R183). -/

namespace Sys2Proof.Machine

/-! FCSE relocation. -/

/-- The upper seven bits of an address are clear in the low 32MB. -/
theorem highField_eq_zero_iff (va : Word) : va.extractLsb' 25 7 = 0#7 ↔ va.toNat < 2 ^ 25 := by
  rw [← BitVec.toNat_inj, BitVec.extractLsb'_toNat, Nat.shiftRight_eq_div_pow, BitVec.toNat_ofNat]
  have := va.isLt
  omega

/-- An address in the low 32MB moves to the 32MB of the process. -/
theorem relocate_inside {s : State} {va : Word} (h : va.toNat < 2 ^ 25) :
    (s.relocate va).toNat = s.cp15.pid.toNat * 2 ^ 25 + va.toNat := by
  rw [State.relocate, if_pos ((highField_eq_zero_iff va).mpr h), toNat_append_eq_add, BitVec.extractLsb'_toNat,
    Nat.shiftRight_zero, Nat.mod_eq_of_lt h]

theorem relocate_outside {s : State} {va : Word} (h : 2 ^ 25 ≤ va.toNat) : s.relocate va = va := by
  rw [State.relocate, if_neg fun hz => absurd ((highField_eq_zero_iff va).mp hz) (Nat.not_lt.mpr h)]

/-! Descriptors. -/

/-- An address that ends in two clear bits is that of a word. -/
theorem wordAlign_append (x : BitVec 30) : wordAlign (x ++ 0#2) = x ++ 0#2 := by
  refine BitVec.eq_of_toNat_eq ?_
  rw [toNat_wordAlign, toNat_append_eq_add, BitVec.toNat_ofNat]
  omega

theorem drainAll_tlb (s : State) : s.drainAll.tlb = s.tlb := by
  obtain ⟨w, m, b, x, h⟩ := drainAll_changes s
  rw [h]

/-- What descriptor fetches leave while no other master writes: the buffered writes performed, and the fetches shown on the bus. -/
def DescriptorsRead (s t : State) : Prop := ∃ b, t = { s.drainAll with bus := b }

theorem DescriptorsRead.tlb {s t : State} (h : DescriptorsRead s t) : t.tlb = s.tlb := by
  obtain ⟨b, rfl⟩ := h
  exact drainAll_tlb s

/-- Nothing is left to drain after a descriptor fetch. -/
theorem DescriptorsRead.drainAll {s t : State} (h : DescriptorsRead s t) : t.drainAll = t := by
  obtain ⟨b, rfl⟩ := h
  show State.drainSome _ s.drainAll.writeBuffer.length = _
  rw [drainAll_writeBuffer]
  rfl

/-! Lookups that miss. -/

/-- How a translation ends after a walk (21 R170, R199, R202). -/
def endWalk (s : State) (mva : Word) (priv write : Bool) (w : WalkResult × State) : Translation × State :=
  match w.1 with
  | .found e => (checkEntry s e mva priv write, w.2.fillTlb e)
  | .sectionFault => (.fault 0b0101#4 (w.2.drawn.extractLsb' 0 4), w.2.drew)
  | .pageFault d => (.fault 0b0111#4 d, w.2)
  | .tinyInCoarse => (.tinyInCoarse, w.2)

/-- No entry is found where none matches, and nothing changes. -/
theorem tlbLookup_none {s : State} {mva : Word} (h : ∀ k : Nat, k < 64 → tlbMatches (s.tlbEntry k) mva = false) :
    s.tlbLookup mva = (none, s) := by
  have hnone : (List.range 64).filter (fun k => tlbMatches (s.tlbEntry k) mva) = [] :=
    List.filter_eq_nil_iff.mpr fun k hk => Bool.eq_false_iff.mp (h k (List.mem_range.mp hk))
  rw [State.tlbLookup, hnone]
  rfl

/-- A translation for which no entry matches is a table walk. -/
theorem translate_miss {s : State} {mva : Word} (priv write : Bool) (hm : s.cp15.m = true)
    (h : ∀ k : Nat, k < 64 → tlbMatches (s.tlbEntry k) mva = false) :
    translate s mva priv write = endWalk s mva priv write (walk s mva) := by
  unfold translate
  rw [if_pos hm, tlbLookup_none h]
  rfl

/-! The entry written. -/

/-- The victim holds the entry written. -/
theorem tlbEntry_fillTlb (s : State) (e : TlbEntry) : (s.fillTlb e).tlbEntry s.tlb.victim.toNat = e :=
  Vector.getElem_set_self _

/-- Every other entry stays. -/
theorem fillTlb_other {s : State} (e : TlbEntry) {k : Fin 64} (hk : k.val ≠ s.tlb.victim.toNat) :
    (s.fillTlb e).tlb.entries[k] = s.tlb.entries[k] :=
  Vector.getElem_set_ne (Fin.ofNat 64 s.tlb.victim.toNat).isLt k.isLt fun h =>
    hk (h.symm.trans (Nat.mod_eq_of_lt s.tlb.victim.isLt))

/-! Physical addresses. -/

theorem toNat_append_zero {n : Nat} (x : BitVec n) (k : Nat) : (x ++ 0#k).toNat * 2 ^ 10 = x.toNat * 2 ^ (k + 10) := by
  rw [toNat_append_eq_add, BitVec.toNat_ofNat, Nat.zero_mod, Nat.add_zero, Nat.mul_assoc, ← pow_add]

/-- A base with the low bits of the access. -/
theorem toNat_append_field {n : Nat} (x : BitVec n) (mva : Word) (k : Nat) :
    (x ++ mva.extractLsb' 0 k).toNat = x.toNat * 2 ^ k + mva.toNat % 2 ^ k := by
  rw [toNat_append_eq_add, BitVec.extractLsb'_toNat, Nat.shiftRight_zero]

/-- A base with the low bits of the access, of which the highest name the subpage. -/
theorem toNat_append_subpage {n : Nat} (x : BitVec n) (mva : Word) (k l : Nat) :
    (x ++ mva.extractLsb' 0 (l + k)).toNat = (x ++ mva.extractLsb' k l).toNat * 2 ^ k + mva.toNat % 2 ^ k := by
  rw [toNat_append_field, toNat_append_eq_add, BitVec.extractLsb'_toNat, Nat.shiftRight_eq_div_pow, Nat.add_comm l, pow_add,
    Nat.mod_mul]
  ring

end Sys2Proof.Machine

namespace Sys2Proof.Claims

open Sys2Proof.Machine

/-- Settles O21: the upper seven bits are clear exactly in the low 32MB (`highField_eq_zero_iff`). -/
theorem fcseRelocation : Obligations.FcseRelocation := by
  refine fun s va => ⟨relocate_inside, relocate_outside, fun hpid => ?_⟩
  rcases Nat.lt_or_ge va.toNat (2 ^ 25) with hin | hout
  · refine BitVec.eq_of_toNat_eq ((relocate_inside hin).trans ?_)
    rw [hpid, BitVec.toNat_ofNat, Nat.zero_mod, Nat.zero_mul, Nat.zero_add]
  · exact relocate_outside hout

/-! What a walk reads. -/

/-- A descriptor in RAM is the word of the table. -/
theorem readDescriptor_alone {s : State} {x : BitVec 30} (alone : s.masters = []) (hr : s.regionOf (x ++ 0#2) = .ram) :
    ∃ t, readDescriptor s (x ++ 0#2) = (tableWord s (x ++ 0#2), t) ∧ DescriptorsRead s t := by
  have hram : s.drainAll.regionOf (sizeAlign .word (x ++ 0#2)) = .ram := by
    rw [(drainAll_step s).regionOf, ← hr]
    exact congrArg s.regionOf (wordAlign_append x)
  obtain ⟨b, hb⟩ := busRead_alone singleShape walkProt false ((drainAll_step s).alone alone) hram
  exact ⟨_, by rw [readDescriptor, hb]; rfl, b, rfl⟩

/-- The second descriptor of a walk is read from the same memory. -/
theorem readDescriptor_again {s t : State} {x : BitVec 30} (alone : s.masters = []) (hr : s.regionOf (x ++ 0#2) = .ram)
    (h : DescriptorsRead s t) : ∃ u, readDescriptor t (x ++ 0#2) = (tableWord s (x ++ 0#2), u) ∧ DescriptorsRead s u := by
  have hdrained := h.drainAll
  obtain ⟨b, rfl⟩ := h
  obtain ⟨u, hread, b', hu⟩ := readDescriptor_alone (s := { s.drainAll with bus := b }) (x := x)
    ((drainAll_step s).alone alone) (((drainAll_step s).regionOf _).trans hr)
  rw [tableWord, hdrained] at hread
  exact ⟨u, hread, b', by rw [hu, hdrained]⟩

section Walk
variable {s : State} {mva d1 : Word} (alone : s.masters = [])
  (hr : s.regionOf (s.cp15.ttb ++ mva.extractLsb' 20 12 ++ 0#2) = .ram)
  (hd : d1 = tableWord s (s.cp15.ttb ++ mva.extractLsb' 20 12 ++ 0#2))
include alone hr hd

theorem walk_fault (h : d1.extractLsb' 0 2 = 0b00#2) : ∃ u, walk s mva = (.sectionFault, u) ∧ DescriptorsRead s u := by
  obtain ⟨u, hfirst, hu⟩ := readDescriptor_alone alone hr
  refine ⟨u, ?_, hu⟩
  unfold walk
  dsimp only
  rw [hfirst, ← hd, h]
  rfl

theorem walk_section (h : d1.extractLsb' 0 2 = 0b10#2) :
    ∃ u, walk s mva = (.found (sectionEntry mva d1), u) ∧ DescriptorsRead s u := by
  obtain ⟨u, hfirst, hu⟩ := readDescriptor_alone alone hr
  refine ⟨u, ?_, hu⟩
  unfold walk
  dsimp only
  rw [hfirst, ← hd, h]
  rfl

theorem walk_coarse {table : Word} (h : d1.extractLsb' 0 2 = 0b01#2)
    (htable : table = d1.extractLsb' 10 22 ++ mva.extractLsb' 12 8 ++ 0#2) (hr2 : s.regionOf table = .ram) :
    ∃ u, walk s mva = (pageEntry mva (d1.extractLsb' 5 4) true (tableWord s table), u) ∧ DescriptorsRead s u := by
  obtain ⟨t, hfirst, ht⟩ := readDescriptor_alone alone hr
  obtain ⟨u, hsecond, hu⟩ := readDescriptor_again alone (htable ▸ hr2) ht
  refine ⟨u, ?_, hu⟩
  unfold walk
  dsimp only
  rw [hfirst, ← hd, h, htable]
  exact congrArg (fun r => (pageEntry mva (d1.extractLsb' 5 4) true r.1, r.2)) hsecond

theorem walk_fine {table : Word} (h : d1.extractLsb' 0 2 = 0b11#2)
    (htable : table = d1.extractLsb' 12 20 ++ mva.extractLsb' 10 10 ++ 0#2) (hr2 : s.regionOf table = .ram) :
    ∃ u, walk s mva = (pageEntry mva (d1.extractLsb' 5 4) false (tableWord s table), u) ∧ DescriptorsRead s u := by
  obtain ⟨t, hfirst, ht⟩ := readDescriptor_alone alone hr
  obtain ⟨u, hsecond, hu⟩ := readDescriptor_again alone (htable ▸ hr2) ht
  refine ⟨u, ?_, hu⟩
  unfold walk
  dsimp only
  rw [hfirst, ← hd, h, htable]
  exact congrArg (fun r => (pageEntry mva (d1.extractLsb' 5 4) false r.1, r.2)) hsecond

end Walk

/-! How a walk that finds an entry ends. -/

/-- How a walk that finds an entry ends: the entry decides, and it is written whatever it decides (21 R170, D21). -/
structure WalkDecides (s : State) (sect : Bool) (mva : Word) (size : Nat × BitVec 4 × BitVec 4) (domain : BitVec 4)
    (ap : BitVec 2) (c b : Bool) (pa : Word) (priv write : Bool) (r : Translation × State) : Prop where
  decides : Decides s sect domain ap pa c b priv write r.1
  fills : TlbFilled s r.2 mva size domain ap c b pa

/-- Only the TLB counts for what a walk has written. -/
theorem TlbFilled.of_tlb {s u t : State} {mva pa : Word} {size : Nat × BitVec 4 × BitVec 4} {domain : BitVec 4} {ap : BitVec 2}
    {c b : Bool} (h : TlbFilled u t mva size domain ap c b pa) (htlb : u.tlb = s.tlb) :
    TlbFilled s t mva size domain ap c b pa := by
  obtain ⟨tag, sizes, flags, ram1, base, others, victim, lockdown⟩ := h
  rw [OtherEntriesSame] at others
  rw [htlb] at tag sizes flags ram1 base others victim lockdown
  exact ⟨tag, sizes, flags, ram1, base, others, victim, lockdown⟩

/-- A walk writes its entry at the victim, which moves on. -/
theorem fillTlb_fills {s : State} {mva pa : Word} {size : Nat × BitVec 4 × BitVec 4} {domain : BitVec 4} {ap : BitVec 2}
    {c b : Bool} {tag : BitVec 22} (hbase : tag.toNat * 2 ^ 10 = pa.toNat / 2 ^ size.1 * 2 ^ size.1) :
    TlbFilled s (s.fillTlb (makeEntry mva size.2.1 size.2.2 domain ap c b tag)) mva size domain ap c b pa := by
  have hentry := tlbEntry_fillTlb s (makeEntry mva size.2.1 size.2.2 domain ap c b tag)
  constructor
  case others => exact fun k hk => fillTlb_other _ hk
  case victim => rfl
  case lockdown => exact ⟨rfl, rfl, rfl⟩
  case base => rw [hentry]; exact hbase
  all_goals rw [hentry]
  exacts [rfl, ⟨rfl, rfl⟩, ⟨rfl, rfl⟩, rfl]

/-- A walk that finds an entry of page number `page` (in units of its size) decides as the entry says and writes it. -/
theorem endWalk_found {s u : State} {mva pa : Word} {size : Nat × BitVec 4 × BitVec 4} {sect : Bool} {domain : BitVec 4}
    {ap : BitVec 2} {c b : Bool} {tag : BitVec 22} (priv write : Bool) (page : Nat) (htlb : u.tlb = s.tlb)
    (hsize : size ∈ entrySizes) (hsect : decide (size.1 = 20) = sect)
    (htag : tag.toNat * 2 ^ 10 = page * 2 ^ size.1) (hpa : pa.toNat = page * 2 ^ size.1 + mva.toNat % 2 ^ size.1) :
    WalkDecides s sect mva size domain ap c b pa priv write
      (endWalk s mva priv write (.found (makeEntry mva size.2.1 size.2.2 domain ap c b tag), u)) := by
  have hpos : 0 < 2 ^ size.1 := Nat.two_pow_pos _
  have haddress : entryAddress (makeEntry mva size.2.1 size.2.2 domain ap c b tag) mva = pa := by
    refine BitVec.eq_of_toNat_eq ((toNat_entryAddress mva hsize rfl).trans ?_)
    show tag.toNat * 2 ^ 10 / 2 ^ size.1 * 2 ^ size.1 + _ = _
    rw [htag, Nat.mul_div_cancel _ hpos, hpa]
  have hbase : tag.toNat * 2 ^ 10 = pa.toNat / 2 ^ size.1 * 2 ^ size.1 := by
    rw [htag, hpa, Nat.mul_comm page, Nat.mul_add_div hpos, Nat.div_eq_of_lt (Nat.mod_lt _ hpos), Nat.add_zero, Nat.mul_comm]
  exact ⟨checkEntry_decides priv write ((entrySection_eq hsize rfl).trans hsect) haddress rfl, (fillTlb_fills hbase).of_tlb htlb⟩

/-- A section is one entry of 1MB. -/
theorem endWalk_section {s u : State} (mva d : Word) (priv write : Bool) (htlb : u.tlb = s.tlb) :
    WalkDecides s true mva (20, 0b1111#4, 0b1000#4) (d.extractLsb' 5 4) (d.extractLsb' 10 2) (d.getLsbD 3) (d.getLsbD 2)
      (d.extractLsb' 20 12 ++ mva.extractLsb' 0 20) priv write
      (endWalk s mva priv write (.found (sectionEntry mva d), u)) :=
  endWalk_found priv write (d.extractLsb' 20 12).toNat htlb (by decide) rfl (toNat_append_zero _ 10)
    (toNat_append_field _ mva 20)

theorem sameAps_iff (d : Word) : sameAps d = true ↔ OnePermission d := by
  simp only [sameAps, Bool.and_eq_true, beq_iff_eq, and_assoc]
  rfl

theorem subpageAp_eq_apField (d : Word) (k : BitVec 2) : subpageAp d k = apField d k := by
  rcases pair_cases k with rfl | rfl | rfl | rfl <;> rfl

/-- Where the subpages agree, each has the permission of the first. -/
theorem apField_of_onePermission {d : Word} (h : OnePermission d) (k : BitVec 2) : apField d k = apField d 0#2 := by
  obtain ⟨h1, h2, h3⟩ := h
  rcases pair_cases k with rfl | rfl | rfl | rfl
  exacts [rfl, h1.symm, h2.symm, h3.symm]

/-! The entries of level two descriptors. -/

theorem pageEntry_fault {mva d : Word} {domain : BitVec 4} {coarse : Bool} (h : d.extractLsb' 0 2 = 0b00#2) :
    pageEntry mva domain coarse d = .pageFault domain := by
  unfold pageEntry
  rw [h]
  rfl

theorem pageEntry_large {mva d : Word} {domain : BitVec 4} {coarse : Bool} (h : d.extractLsb' 0 2 = 0b01#2) :
    pageEntry mva domain coarse d =
      if sameAps d then
        .found (makeEntry mva 0b0111#4 0b0100#4 domain (apField d (mva.extractLsb' 14 2)) (d.getLsbD 3) (d.getLsbD 2)
          (d.extractLsb' 16 16 ++ 0#6))
      else
        .found (makeEntry mva 0b0011#4 0b0010#4 domain (apField d (mva.extractLsb' 14 2)) (d.getLsbD 3) (d.getLsbD 2)
          (d.extractLsb' 16 16 ++ mva.extractLsb' 14 2 ++ 0#4)) := by
  rw [← subpageAp_eq_apField]
  unfold pageEntry
  rw [h]
  rfl

theorem pageEntry_small {mva d : Word} {domain : BitVec 4} {coarse : Bool} (h : d.extractLsb' 0 2 = 0b10#2) :
    pageEntry mva domain coarse d =
      if sameAps d then
        .found (makeEntry mva 0b0001#4 0b0000#4 domain (apField d (mva.extractLsb' 10 2)) (d.getLsbD 3) (d.getLsbD 2)
          (d.extractLsb' 12 20 ++ 0#2))
      else
        .found (makeEntry mva 0b0000#4 0b0001#4 domain (apField d (mva.extractLsb' 10 2)) (d.getLsbD 3) (d.getLsbD 2)
          (d.extractLsb' 12 20 ++ mva.extractLsb' 10 2)) := by
  rw [← subpageAp_eq_apField]
  unfold pageEntry
  rw [h]
  rfl

theorem pageEntry_tiny {mva d : Word} {domain : BitVec 4} {coarse : Bool} (h : d.extractLsb' 0 2 = 0b11#2) :
    pageEntry mva domain coarse d =
      if coarse then .tinyInCoarse
      else .found (makeEntry mva 0b0000#4 0b0001#4 domain (d.extractLsb' 4 2) (d.getLsbD 3) (d.getLsbD 2)
        (d.extractLsb' 10 22)) := by
  unfold pageEntry
  rw [h]
  rfl

/-! How a walk ends at a page. -/

section Pages
variable {s u : State} (mva d : Word) (domain : BitVec 4) (coarse priv write : Bool) (htlb : u.tlb = s.tlb)
include htlb

/-- A large page is one entry of 64KB where its subpages agree, else the entry of a 16KB subpage. -/
theorem endWalk_large (h : d.extractLsb' 0 2 = 0b01#2) :
    WalkDecides s false mva (if sameAps d then (16, 0b0111#4, 0b0100#4) else (14, 0b0011#4, 0b0010#4)) domain
      (apField d (mva.extractLsb' 14 2)) (d.getLsbD 3) (d.getLsbD 2) (d.extractLsb' 16 16 ++ mva.extractLsb' 0 16) priv write
      (endWalk s mva priv write (pageEntry mva domain coarse d, u)) := by
  rw [pageEntry_large h]
  split
  · exact endWalk_found priv write (d.extractLsb' 16 16).toNat htlb (by decide) rfl (toNat_append_zero _ 6)
      (toNat_append_field _ mva 16)
  · exact endWalk_found priv write (d.extractLsb' 16 16 ++ mva.extractLsb' 14 2).toNat htlb (by decide) rfl
      (toNat_append_zero _ 4) (toNat_append_subpage _ mva 14 2)

/-- A small page is one entry of 4KB where its subpages agree, else the entry of a 1KB subpage. -/
theorem endWalk_small (h : d.extractLsb' 0 2 = 0b10#2) :
    WalkDecides s false mva (if sameAps d then (12, 0b0001#4, 0b0000#4) else (10, 0b0000#4, 0b0001#4)) domain
      (apField d (mva.extractLsb' 10 2)) (d.getLsbD 3) (d.getLsbD 2) (d.extractLsb' 12 20 ++ mva.extractLsb' 0 12) priv write
      (endWalk s mva priv write (pageEntry mva domain coarse d, u)) := by
  rw [pageEntry_small h]
  split
  · exact endWalk_found priv write (d.extractLsb' 12 20).toNat htlb (by decide) rfl (toNat_append_zero _ 2)
      (toNat_append_field _ mva 12)
  · exact endWalk_found priv write (d.extractLsb' 12 20 ++ mva.extractLsb' 10 2).toNat htlb (by decide) rfl rfl
      (toNat_append_subpage _ mva 10 2)

/-- A tiny page in a fine table is an entry of 1KB. -/
theorem endWalk_tiny (h : d.extractLsb' 0 2 = 0b11#2) :
    WalkDecides s false mva (10, 0b0000#4, 0b0001#4) domain (d.extractLsb' 4 2) (d.getLsbD 3) (d.getLsbD 2)
      (d.extractLsb' 10 22 ++ mva.extractLsb' 0 10) priv write
      (endWalk s mva priv write (pageEntry mva domain false d, u)) := by
  rw [pageEntry_tiny h]
  exact endWalk_found priv write (d.extractLsb' 10 22).toNat htlb (by decide) rfl rfl (toNat_append_field _ mva 10)

end Pages

/-- A page whose subpages agree is written as a whole, with their common permission, else the subpage is (21 R171). -/
theorem WalkDecides.fillsPage {s : State} {mva d pa : Word} {whole part : Nat × BitVec 4 × BitVec 4} {domain : BitVec 4}
    {k : BitVec 2} {c b priv write : Bool} {r : Translation × State}
    (h : WalkDecides s false mva (if sameAps d then whole else part) domain (apField d k) c b pa priv write r) :
    (OnePermission d → TlbFilled s r.2 mva whole domain (apField d 0#2) c b pa) ∧
      (¬ OnePermission d → TlbFilled s r.2 mva part domain (apField d k) c b pa) := by
  obtain ⟨-, fills⟩ := h
  constructor <;> intro hone
  · rwa [if_pos ((sameAps_iff d).mpr hone), apField_of_onePermission hone] at fills
  · rwa [if_neg (mt (sameAps_iff d).mp hone)] at fills

/-- How a walk ends at a level two descriptor. -/
theorem endWalk_page {s u : State} (d1 d2 mva : Word) (coarse priv write : Bool) (htlb : u.tlb = s.tlb) :
    PageDecides s d1 d2 mva coarse priv write
        (endWalk s mva priv write (pageEntry mva (d1.extractLsb' 5 4) coarse d2, u)).1 ∧
      PageFills s (endWalk s mva priv write (pageEntry mva (d1.extractLsb' 5 4) coarse d2, u)).2 d1 d2 mva coarse := by
  unfold PageDecides PageFills
  rcases pair_cases (d2.extractLsb' 0 2) with h | h | h | h
  · rw [h, pageEntry_fault h]
    exact ⟨rfl, htlb⟩
  · have hends := endWalk_large mva d2 (d1.extractLsb' 5 4) coarse priv write htlb h
    rw [h]
    exact ⟨hends.decides, hends.fillsPage⟩
  · have hends := endWalk_small mva d2 (d1.extractLsb' 5 4) coarse priv write htlb h
    rw [h]
    exact ⟨hends.decides, hends.fillsPage⟩
  · rw [h]
    cases coarse with
    | true =>
      rw [pageEntry_tiny h]
      exact ⟨rfl, htlb⟩
    | false =>
      have hends := endWalk_tiny mva d2 (d1.extractLsb' 5 4) priv write htlb h
      exact ⟨hends.decides, hends.fills⟩

/-- Settles O48: a miss is a walk (`translate_miss`), whose descriptors are the words of the table (`readDescriptor_alone`,
`readDescriptor_again`); the entry found decides and is written (`endWalk_found`). -/
theorem tableWalks : Obligations.TableWalks := by
  intro s mva d1 d2 priv write table hm alone hmiss hr hd
  rw [translate_miss priv write hm hmiss]
  refine ⟨fun h => ?_, fun h => ?_, fun h htable hr2 hd2 => ?_, fun h htable hr2 hd2 => ?_⟩
  · obtain ⟨u, hwalk, hu⟩ := walk_fault alone hr hd h
    rw [hwalk]
    exact ⟨⟨_, rfl⟩, hu.tlb⟩
  · obtain ⟨u, hwalk, hu⟩ := walk_section alone hr hd h
    rw [hwalk]
    have hends := endWalk_section mva d1 priv write hu.tlb
    exact ⟨hends.decides, hends.fills⟩
  · obtain ⟨u, hwalk, hu⟩ := walk_coarse alone hr hd h htable hr2
    rw [hwalk, ← hd2]
    exact endWalk_page d1 d2 mva true priv write hu.tlb
  · obtain ⟨u, hwalk, hu⟩ := walk_fine alone hr hd h htable hr2
    rw [hwalk, ← hd2]
    exact endWalk_page d1 d2 mva false priv write hu.tlb

end Sys2Proof.Claims
end

section
/-! PROOFS. Encoding: the decoder reads every word as the encoder writes it (30 R236, R261), conditions (30 R232 to R234) and the
shifter operand (30 R241 to R244). -/

namespace Sys2Proof.Laws

theorem decodeTableWord_arm {x : BitVec 32} {i : Instr} (h : decodeArm x = .ok i) :
    decodeTableWord 32 x.toNat = some i := by
  simp [decodeTableWord, h]

theorem decodeTableWord_thumb (x : BitVec 16) : decodeTableWord 16 x.toNat = some (decodeThumb x) := by
  simp [decodeTableWord]

namespace RoundTrip

/-- The law of each row of the opcode table, for all of them. -/
theorem every_row (i : Instr) : Statement i := by
  cases i with
  | andImm => apply andImm | andShift => apply andShift | andRegShift => apply andRegShift | eorImm => apply eorImm
  | eorShift => apply eorShift | eorRegShift => apply eorRegShift | subImm => apply subImm
  | subShift => apply subShift | subRegShift => apply subRegShift | rsbImm => apply rsbImm
  | rsbShift => apply rsbShift | rsbRegShift => apply rsbRegShift | addImm => apply addImm
  | addShift => apply addShift | addRegShift => apply addRegShift | adcImm => apply adcImm
  | adcShift => apply adcShift | adcRegShift => apply adcRegShift | sbcImm => apply sbcImm
  | sbcShift => apply sbcShift | sbcRegShift => apply sbcRegShift | rscImm => apply rscImm
  | rscShift => apply rscShift | rscRegShift => apply rscRegShift | tstImm => apply tstImm
  | tstShift => apply tstShift | tstRegShift => apply tstRegShift | teqImm => apply teqImm
  | teqShift => apply teqShift | teqRegShift => apply teqRegShift | cmpImm => apply cmpImm
  | cmpShift => apply cmpShift | cmpRegShift => apply cmpRegShift | cmnImm => apply cmnImm
  | cmnShift => apply cmnShift | cmnRegShift => apply cmnRegShift | orrImm => apply orrImm
  | orrShift => apply orrShift | orrRegShift => apply orrRegShift | movImm => apply movImm
  | movShift => apply movShift | movRegShift => apply movRegShift | bicImm => apply bicImm
  | bicShift => apply bicShift | bicRegShift => apply bicRegShift | mvnImm => apply mvnImm
  | mvnShift => apply mvnShift | mvnRegShift => apply mvnRegShift | mul => apply mul | mla => apply mla
  | umull => apply umull | umlal => apply umlal | smull => apply smull | smlal => apply smlal | mrs => apply mrs
  | msrImm => apply msrImm | msrReg => apply msrReg | bx => apply bx | ldrImmPre => apply ldrImmPre
  | ldrImmPost => apply ldrImmPost | ldrtImm => apply ldrtImm | ldrRegPre => apply ldrRegPre
  | ldrRegPost => apply ldrRegPost | ldrtReg => apply ldrtReg | ldrbImmPre => apply ldrbImmPre
  | ldrbImmPost => apply ldrbImmPost | ldrbtImm => apply ldrbtImm | ldrbRegPre => apply ldrbRegPre
  | ldrbRegPost => apply ldrbRegPost | ldrbtReg => apply ldrbtReg | strImmPre => apply strImmPre
  | strImmPost => apply strImmPost | strtImm => apply strtImm | strRegPre => apply strRegPre
  | strRegPost => apply strRegPost | strtReg => apply strtReg | strbImmPre => apply strbImmPre
  | strbImmPost => apply strbImmPost | strbtImm => apply strbtImm | strbRegPre => apply strbRegPre
  | strbRegPost => apply strbRegPost | strbtReg => apply strbtReg | ldrhImm => apply ldrhImm
  | ldrhReg => apply ldrhReg | ldrsbImm => apply ldrsbImm | ldrsbReg => apply ldrsbReg | ldrshImm => apply ldrshImm
  | ldrshReg => apply ldrshReg | strhImm => apply strhImm | strhReg => apply strhReg | ldm => apply ldm
  | stm => apply stm | ldmUser => apply ldmUser | ldmRestore => apply ldmRestore | stmUser => apply stmUser
  | swp => apply swp | swpb => apply swpb | b => apply b | bl => apply bl | swi => apply swi | cdp => apply cdp
  | mcr => apply mcr | mrc => apply mrc | ldc => apply ldc | stc => apply stc | undefined => apply undefined
  | mrcId => apply mrcId | mrcControl => apply mrcControl | mcrControl => apply mcrControl | mrcTtb => apply mrcTtb
  | mcrTtb => apply mcrTtb | mrcDacr => apply mrcDacr | mcrDacr => apply mcrDacr | mrcFsr => apply mrcFsr
  | mcrFsr => apply mcrFsr | mrcFar => apply mrcFar | mcrFar => apply mcrFar | mcrInvCache => apply mcrInvCache
  | mcrInvTlbC5 => apply mcrInvTlbC5 | mcrInvTlbEntryC5 => apply mcrInvTlbEntryC5 | mcrInvTlbC6 => apply mcrInvTlbC6
  | mcrInvTlbEntryC6 => apply mcrInvTlbEntryC6 | mcrInvTlbC7 => apply mcrInvTlbC7
  | mcrInvTlbEntryC7 => apply mcrInvTlbEntryC7 | mcrCacheBase0 => apply mcrCacheBase0
  | mcrCacheVictim0 => apply mcrCacheVictim0 | mcrCacheBase1 => apply mcrCacheBase1
  | mcrCacheVictim1 => apply mcrCacheVictim1 | mrcTlbLockdown => apply mrcTlbLockdown
  | mcrTlbLockdown => apply mcrTlbLockdown | mrcPid => apply mrcPid | mcrPid => apply mcrPid
  | mrcProcId => apply mrcProcId | mcrProcId => apply mcrProcId | mcrTestState => apply mcrTestState
  | mrcTestState => apply mrcTestState | mcrC15C => apply mcrC15C | mrcC15C => apply mrcC15C
  | mcrCacheCamRead => apply mcrCacheCamRead | mcrCacheCamWrite => apply mcrCacheCamWrite
  | mcrCacheRamRead => apply mcrCacheRamRead | mcrCacheRamWrite => apply mcrCacheRamWrite
  | mcrCacheCamMatch => apply mcrCacheCamMatch | mrcC15M => apply mrcC15M | mrcC15MAlt => apply mrcC15MAlt
  | mcrTlbCamRead => apply mcrTlbCamRead | mcrTlbCamWrite => apply mcrTlbCamWrite
  | mcrTlbRam1Read => apply mcrTlbRam1Read | mcrTlbRam1Write => apply mcrTlbRam1Write
  | mcrTlbRam2Read => apply mcrTlbRam2Read | mcrTlbRam2Write => apply mcrTlbRam2Write
  | mcrTlbCamMatch => apply mcrTlbCamMatch | mrcDccControl => apply mrcDccControl | mrcDccData => apply mrcDccData
  | mcrDccData => apply mcrDccData | mrcAbortStatus => apply mrcAbortStatus | mcrAbortStatus => apply mcrAbortStatus
  | tLslImm => apply tLslImm | tLsrImm => apply tLsrImm | tAsrImm => apply tAsrImm | tAddReg => apply tAddReg
  | tSubReg => apply tSubReg | tAddImm3 => apply tAddImm3 | tSubImm3 => apply tSubImm3 | tMovImm => apply tMovImm
  | tCmpImm => apply tCmpImm | tAddImm8 => apply tAddImm8 | tSubImm8 => apply tSubImm8 | tAnd => apply tAnd
  | tEor => apply tEor | tLslReg => apply tLslReg | tLsrReg => apply tLsrReg | tAsrReg => apply tAsrReg
  | tAdc => apply tAdc | tSbc => apply tSbc | tRorReg => apply tRorReg | tTst => apply tTst | tNeg => apply tNeg
  | tCmp => apply tCmp | tCmn => apply tCmn | tOrr => apply tOrr | tMul => apply tMul | tBic => apply tBic
  | tMvn => apply tMvn | tAddHi => apply tAddHi | tCmpHi => apply tCmpHi | tMovHi => apply tMovHi | tBx => apply tBx
  | tLdrPc => apply tLdrPc | tStrReg => apply tStrReg | tStrbReg => apply tStrbReg | tLdrReg => apply tLdrReg
  | tLdrbReg => apply tLdrbReg | tStrhReg => apply tStrhReg | tLdrhReg => apply tLdrhReg
  | tLdrsbReg => apply tLdrsbReg | tLdrshReg => apply tLdrshReg | tStrImm => apply tStrImm | tLdrImm => apply tLdrImm
  | tStrbImm => apply tStrbImm | tLdrbImm => apply tLdrbImm | tStrhImm => apply tStrhImm | tLdrhImm => apply tLdrhImm
  | tStrSp => apply tStrSp | tLdrSp => apply tLdrSp | tAddPc => apply tAddPc | tAddSp => apply tAddSp
  | tAddSpImm => apply tAddSpImm | tSubSpImm => apply tSubSpImm | tPush => apply tPush | tPop => apply tPop
  | tStmia => apply tStmia | tLdmia => apply tLdmia | tBeq => apply tBeq | tBne => apply tBne | tBcs => apply tBcs
  | tBcc => apply tBcc | tBmi => apply tBmi | tBpl => apply tBpl | tBvs => apply tBvs | tBvc => apply tBvc
  | tBhi => apply tBhi | tBls => apply tBls | tBge => apply tBge | tBlt => apply tBlt | tBgt => apply tBgt
  | tBle => apply tBle | tUndefCond => apply tUndefCond | tSwi => apply tSwi | tB => apply tB
  | tUndef11101 => apply tUndef11101 | tBlHigh => apply tBlHigh | tBlLow => apply tBlLow | tUndefB1 => apply tUndefB1
  | tUndefB2 => apply tUndefB2 | tUndefB6 => apply tUndefB6 | tUndefB8 => apply tUndefB8 | tUndefBC => apply tUndefBC
  | tBxH1 => apply tBxH1

end RoundTrip

end Sys2Proof.Laws

namespace Sys2Proof.Machine

/-! Conditions. -/

/-- An ARM word begins with a condition, and where that one fails the instruction only advances the PC (30 R232). MCR and MRC
choose among CP15, CP14 and the other coprocessors before they test it. -/
theorem exec_condition_fails {i : Instr} {w : Word} (h : encode i = .arm w) :
    ∃ c : Cond, w.extractLsb' 28 4 = c.toBits ∧
      ∀ s : State, condPassed c s.cpsr = false → exec i s = .next s.advance := by
  cases i with
  | tLslImm | tLsrImm | tAsrImm | tAddReg | tSubReg | tAddImm3 | tSubImm3 | tMovImm | tCmpImm | tAddImm8 | tSubImm8
  | tAnd | tEor | tLslReg | tLsrReg | tAsrReg | tAdc | tSbc | tRorReg | tTst | tNeg | tCmp | tCmn | tOrr | tMul | tBic
  | tMvn | tAddHi | tCmpHi | tMovHi | tBx | tLdrPc | tStrReg | tStrbReg | tLdrReg | tLdrbReg | tStrhReg | tLdrhReg
  | tLdrsbReg | tLdrshReg | tStrImm | tLdrImm | tStrbImm | tLdrbImm | tStrhImm | tLdrhImm | tStrSp | tLdrSp | tAddPc
  | tAddSp | tAddSpImm | tSubSpImm | tPush | tPop | tStmia | tLdmia | tBeq | tBne | tBcs | tBcc | tBmi | tBpl | tBvs
  | tBvc | tBhi | tBls | tBge | tBlt | tBgt | tBle | tUndefCond | tSwi | tB | tUndef11101 | tBlHigh | tBlLow
  | tUndefB1 | tUndefB2 | tUndefB6 | tUndefB8 | tUndefBC | tBxH1 =>
    exact nomatch h
  | mcr | mrc =>
    cases h
    refine ⟨_, ?_, fun s hc => ite_eq_iff'.mpr ⟨fun _ => conditionally_fail hc, fun _ =>
      ite_eq_iff'.mpr ⟨fun _ => conditionally_fail hc, fun _ => conditionally_fail hc⟩⟩⟩
    simp (disch := omega) only [append_field_high, Nat.reduceSub, Nat.sub_self, field_all]
  | _ =>
    cases h
    refine ⟨_, ?_, fun s hc => conditionally_fail hc⟩
    simp (disch := omega) only [append_field_high, Nat.reduceSub, Nat.sub_self, field_all]

/-! Shifts. -/

theorem regLate_eq (s : State) (r : RegNum) : s.regLate r = if r = 15#4 then s.pc + 12#32 else s.reg r := by
  rw [State.regLate, State.reg, State.regOr, State.regOr]
  split_ifs <;> rfl

/-- A shift right by 31 or more leaves the sign in every bit. -/
theorem sshiftRight_bit {n j : Nat} (m : Word) (h : 31 ≤ n) (hj : j < 32) : (m.sshiftRight n).getLsbD j = m.msb := by
  rw [BitVec.getLsbD_sshiftRight, decide_eq_false (by omega), Bool.not_false, Bool.true_and]
  split
  next hlt => rw [show n + j = 31 by omega, BitVec.msb_eq_getLsbD_last]
  next => rfl

theorem sshiftRight_of_le {n : Nat} (m : Word) (h : 31 ≤ n) : m.sshiftRight n = m.sshiftRight 31 :=
  BitVec.eq_of_getLsbD_eq fun _ hj => (sshiftRight_bit m h hj).trans (sshiftRight_bit m le_rfl hj).symm

/-- Bit `k` of a rotated word (00 R10). -/
theorem ror32_bit (m : Word) (n : Nat) {k : Nat} (h : k < 32) : (ror32 m n).getLsbD k = m.getLsbD ((k + n) % 32) := by
  rw [ror32, BitVec.rotateRight_mod_eq_rotateRight, BitVec.getLsbD_rotateRight]
  by_cases hk : k < 32 - n % 32
  · rw [decide_eq_true hk, cond_true]
    congr 1
    omega
  · rw [decide_eq_false hk, decide_eq_true h, cond_false, Bool.true_and]
    congr 1
    omega

theorem ror32_of_mod {n : Nat} (m : Word) (h : n % 32 = 0) : ror32 m n = m := by
  refine BitVec.eq_of_getLsbD_eq fun k hk => ?_
  rw [ror32_bit m n hk, show (k + n) % 32 = k by omega]

/-- LSL by a register with an amount other than 0 (30 R244): one by more than 32 leaves no bit and no carry. -/
theorem shiftReg_lsl {n : BitVec 8} (m : Word) (c : Bool) (h : n.toNat ≠ 0) :
    shiftReg .lsl n m c = { value := m <<< n.toNat, carry := decide (n.toNat ≤ 32) && m.getLsbD (32 - n.toNat) } := by
  simp only [shiftReg, if_neg h]
  split
  · rw [decide_eq_true (by omega), Bool.true_and]
  · rw [BitVec.shiftLeft_eq_zero (by omega)]
    by_cases h32 : n.toNat = 32
    · simp [h32]
    · simp [h32, show ¬ n.toNat ≤ 32 by omega]

/-- LSR by a register with an amount other than 0: one by 32 or more leaves no bit. -/
theorem shiftReg_lsr {n : BitVec 8} (m : Word) (c : Bool) (h : n.toNat ≠ 0) :
    shiftReg .lsr n m c = { value := m >>> n.toNat, carry := m.getLsbD (n.toNat - 1) } := by
  simp only [shiftReg, if_neg h]
  split
  · rfl
  · rw [BitVec.ushiftRight_eq_zero (by omega)]
    by_cases h32 : n.toNat = 32
    · simp [h32]
    · have hbit : m.getLsbD (n.toNat - 1) = false := BitVec.getLsbD_of_ge m _ (by omega)
      simp [h32, hbit]

/-- ASR by a register with an amount other than 0: one by 32 or more leaves the sign in every bit and in the carry. -/
theorem shiftReg_asr {n : BitVec 8} (m : Word) (c : Bool) (h : n.toNat ≠ 0) :
    shiftReg .asr n m c = { value := m.sshiftRight n.toNat, carry := m.getLsbD (min (n.toNat - 1) 31) } := by
  simp only [shiftReg, if_neg h]
  split
  · rw [Nat.min_eq_left (by omega)]
  · rw [Nat.min_eq_right (by omega), sshiftRight_of_le (n := n.toNat) m (by omega)]

/-- ROR by a multiple of 32 is no exception: bit 31 is then the bit rotated out. -/
theorem shiftReg_ror {n : BitVec 8} (m : Word) (c : Bool) (h : n.toNat ≠ 0) :
    shiftReg .ror n m c = { value := ror32 m n.toNat, carry := m.getLsbD ((n.toNat + 31) % 32) } := by
  simp only [shiftReg, if_neg h]
  split
  next h32 => rw [ror32_of_mod m h32, show (n.toNat + 31) % 32 = 31 by omega]
  next h32 => rw [show n.toNat % 32 - 1 = (n.toNat + 31) % 32 by omega]

/-- An immediate amount other than 0 shifts as that amount in a register does (30 R243, R244). -/
theorem shiftImm_eq_shiftReg {n : BitVec 5} (t : ShiftType) (m : Word) (c : Bool) (h : n ≠ 0#5) :
    shiftImm t n m c = shiftReg t (n.setWidth 8) m c := by
  have hn : n.toNat ≠ 0 := fun e => h (BitVec.eq_of_toNat_eq e)
  have hlt : n.toNat < 32 := n.isLt
  have hw : (n.setWidth 8).toNat = n.toNat := by
    rw [BitVec.toNat_setWidth]
    omega
  cases t <;> simp [shiftImm, shiftReg, hw, hn, hlt, Nat.mod_eq_of_lt]

/-- The immediate operand is a rotation by twice its field (30 R241). -/
theorem rotatedImm_eq_shiftReg (rot : BitVec 4) (imm8 : BitVec 8) (c : Bool) :
    rotatedImm rot imm8 c = shiftReg .ror (rot.setWidth 8 <<< 1) (imm8.setWidth 32) c := by
  have hlt : rot.toNat < 16 := rot.isLt
  have hw : (rot.setWidth 8 <<< 1).toNat = 2 * rot.toNat := by
    rw [BitVec.toNat_shiftLeft, BitVec.toNat_setWidth, Nat.shiftLeft_eq]
    omega
  by_cases h : rot = 0#4
  · subst h
    rw [rotatedImm, ror32_of_mod _ rfl]
    rfl
  · have hn : rot.toNat ≠ 0 := fun e => h (BitVec.eq_of_toNat_eq e)
    rw [shiftReg_ror _ _ (by omega), hw, rotatedImm, if_neg h, BitVec.msb_eq_getLsbD_last,
      ror32_bit _ _ (by omega), Nat.add_comm]

end Sys2Proof.Machine

namespace Sys2Proof.Claims

open Sys2Proof.Machine

/-- Settles O1: the law of the instruction's row, for an ARM word and for a Thumb halfword. -/
theorem decodeInvertsEncode : Obligations.DecodeInvertsEncode := by
  intro i hwf
  have hdecode : decode (encode i) = .ok i := Laws.RoundTrip.every_row i hwf
  split
  next w hw =>
    rw [hw] at hdecode
    exact Laws.decodeTableWord_arm hdecode
  next x hx =>
    rw [hx] at hdecode
    rw [Laws.decodeTableWord_thumb]
    exact congrArg some (Except.ok.inj hdecode)

/-- Settles O2: the words are decoded, by evaluation. -/
theorem sampleWordsDecode : Obligations.SampleWordsDecode := by
  and_intros <;> rfl

/-- Settles O5: the condition field of the word is the condition that the instruction tests (`exec_condition_fails`). -/
theorem failedConditionOnlyAdvances : Obligations.FailedConditionOnlyAdvances := by
  intro i w s hw hfails
  obtain ⟨c, hfield, hskips⟩ := exec_condition_fails hw
  rw [hfield, Cond.ofBits_toBits] at hfails
  exact hskips s hfails

/-- Settles O6: the code of each condition is decoded, and its test read as a statement about the flags. -/
theorem conditionCodes : Obligations.ConditionCodes := by
  intro p
  have clear (b : Bool) : (!b) = true ↔ b = false := iff_of_eq (Bool.not_eq_true' b)
  refine ⟨.rfl, clear p.z, .rfl, clear p.c, .rfl, clear p.n, .rfl, clear p.v, ?hi, ?ls, beq_iff_eq, bne_iff_ne,
    ?gt, ?le, rfl, rfl⟩
  case hi => show (p.c && !p.z) = true ↔ _; rw [Bool.and_eq_true, clear]
  case ls => show (!p.c || p.z) = true ↔ _; rw [Bool.or_eq_true, clear]
  case gt => show (!p.z && p.n == p.v) = true ↔ _; rw [Bool.and_eq_true, clear, beq_iff_eq]
  case le => show (p.z || p.n != p.v) = true ↔ _; rw [Bool.or_eq_true, bne_iff_ne]

/-- Settles O12: each shift by an amount other than 0 in one equation (`shiftReg_lsl` to `shiftReg_ror`), to which the immediate
amounts (`shiftImm_eq_shiftReg`) and the rotated immediate (`rotatedImm_eq_shiftReg`) come down. -/
theorem shifterResults : Obligations.ShifterResults := by
  refine ⟨fun _ _ _ => rfl, fun n m c hne => ?_, fun n m c t => shiftImm_eq_shiftReg t m c,
    fun _ _ => ⟨rfl, rfl, rfl, rfl⟩, rotatedImm_eq_shiftReg, fun _ _ _ => rfl, fun _ _ _ _ => rfl, fun s rs t rm => ?_⟩
  · have hn : n.toNat ≠ 0 := fun e => hne (BitVec.eq_of_toNat_eq e)
    rw [shiftReg_lsl m c hn, shiftReg_lsr m c hn, shiftReg_asr m c hn, shiftReg_ror m c hn]
    refine ⟨⟨?_, rfl⟩, ⟨?_, rfl⟩, ⟨?_, rfl⟩, ⟨fun k => ror32_bit m n.toNat, rfl⟩⟩
    · rw [BitVec.toNat_shiftLeft, Nat.shiftLeft_eq]
    · rw [BitVec.toNat_ushiftRight, Nat.shiftRight_eq_div_pow]
    · rw [BitVec.toInt_sshiftRight, Int.shiftRight_eq_div_pow]
      norm_cast
  · rw [State.operandRegShift, regLate_eq]
    rfl

end Sys2Proof.Claims
end

section
/-! PROOFS. Data processing (40 R305, R306, R310 to R325): each instruction is a guard on r15 and the end of an operation that writes
Rd or the flags, and the sums of `AddWithCarry` are the exact ones. -/

namespace Sys2Proof.Machine

/-- A result for another register than r15 is written, with S beside the flags (40 R309). -/
theorem dpWrite_register {sets : Bool} {rd : RegNum} {r : Word} {flags : Psr} {s : State} (h : rd ≠ 15#4) :
    dpWrite sets rd r flags s =
      .next (if sets then Claims.written s rd r flags else (s.setReg rd r).advance) := by
  rw [dpWrite, if_neg h]
  cases sets <;> rfl

/-- A result for r15 without S is a branch (40 R305). -/
theorem dpWrite_pc (r : Word) (flags : Psr) (s : State) :
    dpWrite false 15#4 r flags s = .next { s with pc := alignPc s.cpsr.t r, queue := [] } := rfl

/-- A result for r15 with S is an exception return (40 R306). -/
theorem dpWrite_pc_sets (r : Word) (flags : Psr) (s : State) : dpWrite true 15#4 r flags s = s.exceptionReturn r := rfl

theorem exceptionReturn_some {s : State} {p : Psr} (a : Word) (h : s.spsrOf s.cpsr.m = some p) :
    s.exceptionReturn a = .next { s with cpsr := p, pc := alignPc p.t a, queue := [] } := by
  rw [State.exceptionReturn, h]

theorem exceptionReturn_none {s : State} (a : Word) (h : s.spsrOf s.cpsr.m = none) :
    s.exceptionReturn a = .refused .noSpsr := by
  rw [State.exceptionReturn, h]

end Sys2Proof.Machine

namespace Sys2Proof.Claims

open Sys2Proof.Machine

/-! The sums. -/

/-- The `AddWithCarry` of an operation (40 R312 to R317): a subtraction adds the complement, and borrows where the carry is clear. -/
def ArithOp.sum (a b : Word) (c : Bool) : ArithOp → Sum
  | .sub => addWithCarry a (~~~b) true
  | .rsb => addWithCarry b (~~~a) true
  | .add => addWithCarry a b false
  | .adc => addWithCarry a b c
  | .sbc => addWithCarry a (~~~b) c
  | .rsc => addWithCarry b (~~~a) c

theorem borrow_eq (c : Bool) : borrow c = 1 - (c.toNat : Int) := by cases c <;> rfl

/-- What is added gives the exact signed result, and needs a 33rd bit where the operation carries or does not borrow. -/
theorem ArithOp.sum_exact (op : ArithOp) (a b : Word) (c : Bool) :
    ∃ (x y : Word) (cin : Bool), op.sum a b c = addWithCarry x y cin ∧
      x.toInt + y.toInt + (cin.toNat : Int) = op.exact a.toInt b.toInt c ∧
      decide (2 ^ 32 ≤ x.toNat + y.toNat + cin.toNat) = op.carry a b c := by
  have ha := toNat_complement a
  have hb := toNat_complement b
  have hc := borrow_eq c
  cases op with
  | sub | rsb | add | adc | sbc | rsc =>
    refine ⟨_, _, _, rfl, ?_, decide_eq_decide.mpr ?_⟩
    · simp only [ArithOp.exact, toInt_complement, Bool.toNat_true, Bool.toNat_false]
      omega
    · simp only [ArithOp.exact, Bool.toNat_true, Bool.toNat_false]
      omega

theorem ArithOp.sum_result (op : ArithOp) (a b : Word) (c : Bool) : (op.sum a b c).result = op.value a b c := by
  obtain ⟨x, y, cin, hsum, hexact, -⟩ := op.sum_exact a b c
  rw [hsum, addWithCarry_result, hexact, ArithOp.value]

theorem ArithOp.sum_carry (op : ArithOp) (a b : Word) (c : Bool) : (op.sum a b c).carry = op.carry a b c := by
  obtain ⟨x, y, cin, hsum, -, hcarry⟩ := op.sum_exact a b c
  rw [hsum, ← hcarry, addWithCarry]

theorem ArithOp.sum_overflow (op : ArithOp) (a b : Word) (c : Bool) : (op.sum a b c).overflow = op.overflow a b c := by
  obtain ⟨x, y, cin, hsum, hexact, -⟩ := op.sum_exact a b c
  rw [hsum, addWithCarry, ArithOp.overflow, ← hexact]
  exact congrArg (_ || ·) (decide_eq_decide.mpr (by omega))

/-- The flags of an operation are those of its sum (40 R303). -/
theorem psrArith_sum (op : ArithOp) (a b : Word) (p : Psr) : psrArith p (op.sum a b p.c) = op.flags p a b := by
  rw [psrArith, psrNZ, op.sum_result, op.sum_carry, op.sum_overflow]
  rfl

/-! The instructions. -/

/-- r15 as the shift register (93 U6). -/
def DpForm.shiftsByPc : DpForm → Bool
  | .imm _ _ => false
  | .shift _ _ _ => false
  | .regShift rs _ _ => rs == 15#4

/-- r15 as Rd or as the shift register of a register shift (93 U6). -/
def DpForm.forbids (rd : RegNum) : DpForm → Bool
  | .imm _ _ => false
  | .shift _ _ _ => false
  | .regShift rs _ _ => rs == 15#4 || rd == 15#4

theorem DpForm.shiftsByPc_of_ok {form : DpForm} (h : form.ok) : form.shiftsByPc = false := by
  cases form with
  | imm => rfl
  | shift => rfl
  | regShift => exact beq_false_of_ne h

theorem DpForm.forbids_of_ok {form : DpForm} {rd : RegNum} (h : form.ok) (hrd : rd ≠ 15#4) : form.forbids rd = false := by
  cases form with
  | imm => rfl
  | shift => rfl
  | regShift => exact Bool.or_eq_false_iff.mpr ⟨beq_false_of_ne h, beq_false_of_ne hrd⟩

theorem DpForm.forbids_of_plain {form : DpForm} (rd : RegNum) (h : form.plain) : form.forbids rd = false := by
  cases form with
  | imm => rfl
  | shift => rfl
  | regShift => exact h.elim

theorem DpForm.first_of_plain {form : DpForm} (s : State) (rn : RegNum) (h : form.plain) : form.first s rn = s.reg rn := by
  cases form with
  | imm => rfl
  | shift => rfl
  | regShift => exact h.elim

theorem DpForm.forbids_regShift {rd rs : RegNum} (t : ShiftType) (rm : RegNum) (h : rd = 15#4 ∨ rs = 15#4) :
    (DpForm.regShift rs t rm).forbids rd = true := by
  simpa [DpForm.forbids] using h.symm

/-- A logical operation in any form (40 R310, R311, R322 to R325). -/
theorem exec_logicOp (op : LogicOp) (form : DpForm) {cond : Cond} (sets : Bool) (rn rd : RegNum) {s : State}
    (hc : condPassed cond s.cpsr = true) :
    exec (op.instr cond sets rn rd form) s =
      guardPc (form.forbids rd) (dpWrite sets rd (op.value (form.first s rn) (form.operand s).value)
        (logicFlags s.cpsr (op.value (form.first s rn) (form.operand s).value) (form.operand s).carry) s) := by
  cases op with
  | and | eor | orr | mov | bic | mvn => cases form <;> exact conditionally_pass hc

/-- An arithmetic operation in any form (40 R312 to R317). -/
theorem exec_arithOp (op : ArithOp) (form : DpForm) {cond : Cond} (sets : Bool) (rn rd : RegNum) {s : State}
    (hc : condPassed cond s.cpsr = true) :
    exec (op.instr cond sets rn rd form) s =
      guardPc (form.forbids rd) (dpWrite sets rd (op.value (form.first s rn) (form.operand s).value s.cpsr.c)
        (op.flags s.cpsr (form.first s rn) (form.operand s).value) s) := by
  rw [← op.sum_result, ← psrArith_sum]
  cases op with
  | sub | rsb | add | adc | sbc | rsc => cases form <;> exact conditionally_pass hc

/-- The operations that write flags only, in any form (40 R318 to R321). -/
theorem exec_comparisons (form : DpForm) {cond : Cond} (rn : RegNum) {s : State} (hc : condPassed cond s.cpsr = true) :
    exec (tstInstr cond rn form) s = guardPc form.shiftsByPc (opTst (form.first s rn) (form.operand s) s) ∧
    exec (teqInstr cond rn form) s = guardPc form.shiftsByPc (opTeq (form.first s rn) (form.operand s) s) ∧
    exec (cmpInstr cond rn form) s = guardPc form.shiftsByPc (opCmp (form.first s rn) (form.operand s) s) ∧
    exec (cmnInstr cond rn form) s = guardPc form.shiftsByPc (opCmn (form.first s rn) (form.operand s) s) := by
  cases form with
  | imm | shift | regShift =>
    exact ⟨conditionally_pass hc, conditionally_pass hc, conditionally_pass hc, conditionally_pass hc⟩

/-- Settles O8: the guard passes and the result is no branch. -/
theorem logicalOperationsWriteRd : Obligations.LogicalOperationsWriteRd := by
  intro op form cond sets rn rd s hc ok hrd
  rw [exec_logicOp op form sets rn rd hc, guardPc_pass (DpForm.forbids_of_ok ok hrd), dpWrite_register hrd]
  rfl

/-- Settles O9: as O8, with the flags of the exact result (`psrArith_sum`). -/
theorem arithmeticOperationsWriteRd : Obligations.ArithmeticOperationsWriteRd := by
  intro op form cond sets rn rd s hc ok hrd
  rw [exec_arithOp op form sets rn rd hc, guardPc_pass (DpForm.forbids_of_ok ok hrd), dpWrite_register hrd]
  rfl

/-- Settles O10: CMP and CMN write the flags of the sums of SUB and ADD. -/
theorem comparisonsWriteFlagsOnly : Obligations.ComparisonsWriteFlagsOnly := by
  intro form cond rn s hc ok
  obtain ⟨htst, hteq, hcmp, hcmn⟩ := exec_comparisons form rn hc
  simp only [htst, hteq, hcmp, hcmn, guardPc_pass (DpForm.shiftsByPc_of_ok ok), ← psrArith_sum]
  exact ⟨rfl, rfl, rfl, rfl⟩

/-- Settles O11: a plain form with r15 as Rd ends in `dpWrite`, whatever the operation. -/
theorem dataProcessingOfR15 : Obligations.DataProcessingOfR15 := by
  intro form cond rn s i v hc plain hi
  have hguard := DpForm.forbids_of_plain 15#4 plain
  have hfirst := DpForm.first_of_plain s rn plain
  have hwrites : ∃ flags : Psr, ∀ sets : Bool, exec (i sets) s = dpWrite sets 15#4 v flags s := by
    rcases hi with ⟨op, rfl, rfl⟩ | ⟨op, rfl, rfl⟩
    · refine ⟨logicFlags s.cpsr (op.value (s.reg rn) (form.operand s).value) (form.operand s).carry, fun sets => ?_⟩
      rw [exec_logicOp op form sets rn _ hc, guardPc_pass hguard, hfirst]
    · refine ⟨op.flags s.cpsr (s.reg rn) (form.operand s).value, fun sets => ?_⟩
      rw [exec_arithOp op form sets rn _ hc, guardPc_pass hguard, hfirst]
  obtain ⟨flags, hexec⟩ := hwrites
  rw [hexec, hexec, dpWrite_pc, dpWrite_pc_sets]
  exact ⟨rfl, fun _ => exceptionReturn_some v, exceptionReturn_none v⟩

end Sys2Proof.Claims
end

section
/-! PROOFS. Operands that are refused (93 U4 to U7, U16, U20, U21): what each guard refuses, and the guards of each instruction. -/

namespace Sys2Proof.Machine

/-! The guards. -/

theorem guardPc_refuses {b : Bool} {body : Result} (h : b = true) : guardPc b body = .refused .pcOperand := if_pos h

theorem guardClash_refuses {b : Bool} {body : Result} (h : b = true) : guardClash b body = .refused .registerClash := if_pos h

/-- r15 is looked for before a clash. -/
theorem guards_clash {pc clash : Bool} {body : Result} (hpc : pc = false) (h : clash = true) :
    guardPc pc (guardClash clash body) = .refused .registerClash :=
  (guardPc_pass hpc).trans (guardClash_refuses h)

theorem guardLong_clash {rdHi rdLo rs rm : RegNum} {body : Result} (hhi : rdHi ≠ 15#4) (hlo : rdLo ≠ 15#4)
    (hs : rs ≠ 15#4) (hm : rm ≠ 15#4) (h : rdHi = rdLo ∨ rdHi = rm ∨ rdLo = rm) :
    guardLong rdHi rdLo rs rm body = .refused .registerClash :=
  guards_clash (by simp [hhi, hlo, hs, hm]) (by simpa [or_assoc] using h)

theorem guardLong_pc {rdHi rdLo rs rm : RegNum} {body : Result}
    (h : rdHi = 15#4 ∨ rdLo = 15#4 ∨ rs = 15#4 ∨ rm = 15#4) : guardLong rdHi rdLo rs rm body = .refused .pcOperand :=
  guardPc_refuses (by simpa [or_assoc] using h)

theorem guardSwap_pc {rn rd rm : RegNum} {body : Result} (h : rn = 15#4 ∨ rd = 15#4 ∨ rm = 15#4) :
    guardSwap rn rd rm body = .refused .pcOperand :=
  guardPc_refuses (by simpa [or_assoc] using h)

theorem guardSwap_clash {rn rd rm : RegNum} {body : Result} (hn : rn ≠ 15#4) (hd : rd ≠ 15#4) (hm : rm ≠ 15#4)
    (h : rn = rd ∨ rn = rm) : guardSwap rn rd rm body = .refused .registerClash :=
  guards_clash (by simp [hn, hd, hm]) (by simpa using h)

/-- The guards of a single transfer refuse r15 as an operand and as a base that is written back. -/
theorem guardBase_pc {pc : Bool} {m : Addressing} {rn rd : RegNum} {body : Result}
    (h : pc = true ∨ (m.writeback = true ∧ rn = 15#4)) : guardPc pc (guardBase m rn rd body) = .refused .pcOperand := by
  rcases h with hpc | ⟨hw, hbase⟩
  · exact guardPc_refuses hpc
  · have hrefused : guardBase m rn rd body = .refused .pcOperand := guardPc_refuses (by simp [hw, hbase])
    rw [hrefused, guardPc, ite_self]

/-- They refuse a base that is written back and is Rd as a clash. -/
theorem guardBase_clash {pc : Bool} {m : Addressing} {rn rd : RegNum} {body : Result} (hpc : pc = false)
    (hw : m.writeback = true) (hrd : rd ≠ 15#4) (h : rn = rd) :
    guardPc pc (guardBase m rn rd body) = .refused .registerClash :=
  (guardPc_pass hpc).trans (guards_clash (by simp [h, hrd]) (by simp [hw, h]))

theorem guardBlock_pc {rn : RegNum} {regs : List RegNum} {body : Result} (h : rn = 15#4) :
    guardBlock rn regs body = .refused .pcOperand := guardPc_refuses (beq_iff_eq.mpr h)

theorem guardBlock_empty {rn : RegNum} {regs : List RegNum} {body : Result} (h15 : rn ≠ 15#4) (h : regs = []) :
    guardBlock rn regs body = .refused .registerClash :=
  guards_clash (beq_false_of_ne h15) (List.isEmpty_iff.mpr h)

/-- The User bank forms refuse the empty list and write-back alike. -/
theorem guardBlock_clash {rn : RegNum} {regs : List RegNum} {w : Bool} {body : Result} (h15 : rn ≠ 15#4)
    (h : regs = [] ∨ w = true) : guardBlock rn regs (guardClash w body) = .refused .registerClash := by
  rcases h with hempty | hw
  · exact guardBlock_empty h15 hempty
  · rw [guardClash_refuses hw, guardBlock, guardPc_pass (beq_false_of_ne h15), guardClash, ite_self]

theorem guardHalfForm_refuses {p w : Bool} {body : Result} (hp : p = false) (hw : w = true) :
    guardHalfForm p w body = .refused .undefinedNotTrapped := by
  rw [guardHalfForm, hp, hw]
  rfl

theorem guardHalfForm_pass {p w : Bool} {body : Result} (h : ¬ (p = false ∧ w = true)) : guardHalfForm p w body = body := by
  refine if_neg fun hform => h ?_
  simpa using hform

theorem guardUserBank_refuses {s : State} {body : Result} (h : s.cpsr.m = modeUsr ∨ s.cpsr.m = modeSys) :
    guardUserBank s body = .refused .userBankInUserMode := if_pos h

theorem spsrOf_user {s : State} {m : BitVec 5} (h : m = modeUsr ∨ m = modeSys) : s.spsrOf m = none := by
  rcases h with rfl | rfl <;> rfl

theorem guardSpsr_refuses {s : State} {body : Result} (h : s.cpsr.m = modeUsr ∨ s.cpsr.m = modeSys) :
    guardSpsr s body = .refused .noSpsr := by
  rw [guardSpsr, spsrOf_user h]

/-! Register lists. -/

theorem mem_regList {regs : BitVec 16} {k : Nat} (h : regs.getLsbD k = true) : BitVec.ofNat 4 k ∈ regList regs :=
  List.mem_map_of_mem (List.mem_filter.mpr ⟨List.mem_range.mpr (BitVec.lt_of_getLsbD h), h⟩)

theorem regList_ne_nil {regs : BitVec 16} (h : regs ≠ 0#16) : regList regs ≠ [] := by
  intro hnil
  refine h (BitVec.eq_of_getLsbD_eq fun k _ => ?_)
  rw [BitVec.getLsbD_zero]
  by_contra hbit
  exact List.not_mem_nil (hnil ▸ mem_regList (Bool.eq_true_of_not_eq_false hbit))

/-- The list of a User bank load has r0 to r14. -/
theorem userList_ne_nil {regs : BitVec 15} (h : regs ≠ 0#15) : regList (0#1 ++ regs) ≠ [] := by
  refine regList_ne_nil fun hzero => h ?_
  have hlow := congrArg (BitVec.extractLsb' 0 15) hzero
  rwa [append_field_low _ _ _ _ (by omega), field_all] at hlow

/-- The list of a load that restores the CPSR has r15. -/
theorem restoreList_ne_nil (regs : BitVec 15) : regList (1#1 ++ regs) ≠ [] :=
  List.ne_nil_of_mem (mem_regList (k := 15) (append_bit_high _ _ _ (by omega)))

/-! An odd halfword address. -/

theorem dataRead_oddHalfword {s : State} {a : Word} (priv lock : Bool) (live : s.debugSpeed = false) (ha : s.cp15.a = false)
    (hodd : (s.relocate a).getLsbD 0 = true) : dataRead s a .half priv lock = .refused .oddHalfword := by
  have hmis : s.misaligned .half (s.relocate a) = false := by rw [State.misaligned, ha]; rfl
  simp only [dataRead, live, hmis, hodd]
  rfl

theorem dataWrite_oddHalfword {s : State} {a : Word} (v : Word) (priv lock : Bool) (live : s.debugSpeed = false)
    (ha : s.cp15.a = false) (hodd : (s.relocate a).getLsbD 0 = true) :
    dataWrite s a .half v priv lock = .refused .oddHalfword := by
  have hmis : s.misaligned .half (s.relocate a) = false := by rw [State.misaligned, ha]; rfl
  simp only [dataWrite, live, hmis, hodd]
  rfl

end Sys2Proof.Machine

namespace Sys2Proof.Claims

open Sys2Proof.Machine

/-! Multiplies. -/

/-- The guards of a long multiply. -/
theorem exec_longOp (op : LongOp) {cond : Cond} (sets : Bool) (rdHi rdLo rs rm : RegNum) {s : State}
    (hc : condPassed cond s.cpsr = true) :
    ∃ body : Result, exec (op.instr cond sets rdHi rdLo rs rm) s = guardLong rdHi rdLo rs rm body := by
  cases op with
  | umull | umlal | smull | smlal => exact ⟨_, conditionally_pass hc⟩

/-! Single transfers. -/

/-- r15 where a transfer forbids it beside the base: as the offset register, and as Rd if `noPc`. -/
def WordForm.forbids (noPc : Bool) (rd : RegNum) : WordForm → Bool
  | .immPre _ _ _ _ => noPc && rd == 15#4
  | .immPost _ _ _ => noPc && rd == 15#4
  | .immUser _ _ _ => noPc && rd == 15#4
  | .regPre _ _ _ _ _ rm => if noPc then rm == 15#4 || rd == 15#4 else rm == 15#4
  | .regPost _ _ _ _ rm => if noPc then rm == 15#4 || rd == 15#4 else rm == 15#4
  | .regUser _ _ _ _ rm => if noPc then rm == 15#4 || rd == 15#4 else rm == 15#4

theorem WordForm.forbids_iff (form : WordForm) (noPc : Bool) (rd : RegNum) :
    form.forbids noPc rd = true ↔ form.offset15 ∨ (noPc = true ∧ rd = 15#4) := by
  cases form <;> cases noPc <;> simp [WordForm.forbids, WordForm.offset15]

theorem WordForm.writeback_iff (form : WordForm) (s : State) : (form.addressing s).writeback = true ↔ form.writes := by
  cases form with
  | immPre | regPre => exact Iff.rfl
  | immPost | immUser | regPost | regUser => exact iff_of_true rfl trivial

/-- A single load (42 R398, R399, R402, R403): LDRB and the T forms refuse r15 as Rd. -/
theorem exec_loadInstr (form : WordForm) (byte : Bool) {cond : Cond} (rd : RegNum) {s : State}
    (hc : condPassed cond s.cpsr = true) :
    exec (loadInstr cond rd byte form) s = guardPc (form.forbids (byte || form.user) rd)
      (checkedLoad (byteOrWord byte) false (form.priv s) (form.addressing s) form.base rd s) := by
  cases form with
  | immPre | immPost | immUser | regPre | regPost | regUser => cases byte <;> exact conditionally_pass hc

/-- A single store (42 R400, R401, R404, R405): STRB refuses r15 as Rd. -/
theorem exec_storeInstr (form : WordForm) (byte : Bool) {cond : Cond} (rd : RegNum) {s : State}
    (hc : condPassed cond s.cpsr = true) :
    exec (storeInstr cond rd byte form) s = guardPc (form.forbids byte rd)
      (checkedStore (byteOrWord byte) (form.priv s) (form.addressing s) form.base rd s) := by
  cases form with
  | immPre | immPost | immUser | regPre | regPost | regUser => cases byte <;> exact conditionally_pass hc

/-- What the guards of a single transfer refuse as r15. -/
theorem WordForm.refuses_pc {form : WordForm} {noPc : Bool} {rd : RegNum} {s : State} {body : Result}
    (h : form.offset15 ∨ (noPc = true ∧ rd = 15#4) ∨ (form.writes ∧ form.base = 15#4)) :
    guardPc (form.forbids noPc rd) (guardBase (form.addressing s) form.base rd body) = .refused .pcOperand :=
  guardBase_pc ((or_assoc.mpr h).imp (form.forbids_iff noPc rd).mpr (And.imp_left (form.writeback_iff s).mpr))

/-- What they refuse as a clash. -/
theorem WordForm.refuses_clash {form : WordForm} {noPc : Bool} {rd : RegNum} {s : State} {body : Result}
    (hoffset : ¬ form.offset15) (hrd : rd ≠ 15#4) (hwrites : form.writes) (hbase : form.base = rd) :
    guardPc (form.forbids noPc rd) (guardBase (form.addressing s) form.base rd body) = .refused .registerClash := by
  have hpass : form.forbids noPc rd = false :=
    Bool.eq_false_iff.mpr (mt (form.forbids_iff noPc rd).mp (not_or.mpr ⟨hoffset, fun h => hrd h.2⟩))
  exact guardBase_clash hpass ((form.writeback_iff s).mpr hwrites) hrd hbase

/-! Halfword and signed transfers. -/

/-- The guards of a halfword or signed transfer (42 R406): the form, r15, and the base. -/
def HalfForm.guarded (form : HalfForm) (rd : RegNum) (s : State) (body : Result) : Result :=
  match form with
  | .imm p _ w rn _ _ => guardHalfForm p w (guardPc (rd == 15#4) (guardBase (form.addressing s) rn rd body))
  | .reg p _ w rn rm => guardHalfForm p w (guardPc (rd == 15#4 || rm == 15#4) (guardBase (form.addressing s) rn rd body))

/-- The load extends the sign. -/
def HalfLoad.signed : HalfLoad → Bool
  | .ldrh => false
  | .ldrsb => true
  | .ldrsh => true

/-- LDRH, LDRSB and LDRSH (42 R407 to R409). -/
theorem exec_halfLoad (op : HalfLoad) (form : HalfForm) {cond : Cond} (rd : RegNum) {s : State}
    (hc : condPassed cond s.cpsr = true) :
    exec (op.instr cond rd form) s =
      form.guarded rd s (loadSingle op.size op.signed s.privileged (form.addressing s) form.base rd s) := by
  cases op with
  | ldrh | ldrsb | ldrsh => cases form <;> exact conditionally_pass hc

/-- STRH (42 R410). -/
theorem exec_strhInstr (form : HalfForm) {cond : Cond} (rd : RegNum) {s : State} (hc : condPassed cond s.cpsr = true) :
    exec (strhInstr cond rd form) s =
      form.guarded rd s (storeSingle .half s.privileged (form.addressing s) form.base (s.regLate rd) s) := by
  cases form with
  | imm | reg => exact conditionally_pass hc

theorem HalfForm.writeback_iff (form : HalfForm) (s : State) : (form.addressing s).writeback = true ↔ form.writes := by
  cases form with
  | imm p | reg p => cases p <;> simp [HalfForm.addressing, HalfForm.writes, indexed, preIndexed, postIndexed]

/-- A form that is a transfer has the guards of r15 and of the base. -/
theorem HalfForm.guarded_defined {form : HalfForm} (rd : RegNum) (s : State) (body : Result) (h : ¬ form.undefined) :
    ∃ pc : Bool, (pc = true ↔ form.offset15 ∨ rd = 15#4) ∧
      form.guarded rd s body = guardPc pc (guardBase (form.addressing s) form.base rd body) := by
  cases form with
  | imm => exact ⟨_, by simp [HalfForm.offset15], guardHalfForm_pass h⟩
  | reg => exact ⟨_, by simp [HalfForm.offset15, or_comm], guardHalfForm_pass h⟩

theorem HalfForm.guarded_undefined {form : HalfForm} {rd : RegNum} {s : State} {body : Result} (h : form.undefined) :
    form.guarded rd s body = .refused .undefinedNotTrapped := by
  cases form with
  | imm | reg => exact guardHalfForm_refuses h.1 h.2

theorem HalfForm.guarded_pc {form : HalfForm} {rd : RegNum} {s : State} {body : Result} (hdef : ¬ form.undefined)
    (h : form.offset15 ∨ rd = 15#4 ∨ (form.writes ∧ form.base = 15#4)) :
    form.guarded rd s body = .refused .pcOperand := by
  obtain ⟨pc, hpc, hguards⟩ := HalfForm.guarded_defined rd s body hdef
  rw [hguards]
  exact guardBase_pc ((or_assoc.mpr h).imp hpc.mpr (And.imp_left (form.writeback_iff s).mpr))

theorem HalfForm.guarded_clash {form : HalfForm} {rd : RegNum} {s : State} {body : Result} (hdef : ¬ form.undefined)
    (hoffset : ¬ form.offset15) (hrd : rd ≠ 15#4) (hwrites : form.writes) (hbase : form.base = rd) :
    form.guarded rd s body = .refused .registerClash := by
  obtain ⟨pc, hpc, hguards⟩ := HalfForm.guarded_defined rd s body hdef
  have hpass : pc = false := Bool.eq_false_iff.mpr (mt hpc.mp (not_or.mpr ⟨hoffset, hrd⟩))
  rw [hguards]
  exact guardBase_clash hpass ((form.writeback_iff s).mpr hwrites) hrd hbase

/-- No guard stops a form with operands that are allowed. -/
theorem HalfForm.guarded_pass {form : HalfForm} {rd : RegNum} {s : State} {body : Result} (ok : form.ok rd)
    (hrd : rd ≠ 15#4) : form.guarded rd s body = body := by
  have hok : ¬ form.undefined ∧ ¬ form.offset15 ∧ (form.writes → form.base ≠ 15#4 ∧ form.base ≠ rd) := by
    cases form with
    | imm p _ w =>
      obtain ⟨hform, hbase⟩ := ok
      refine ⟨fun ⟨hp, hw⟩ => ?_, id, hbase⟩
      simp [hp, hw] at hform
    | reg p _ w =>
      obtain ⟨hoffset, hform, hbase⟩ := ok
      refine ⟨fun ⟨hp, hw⟩ => ?_, hoffset, hbase⟩
      simp [hp, hw] at hform
  obtain ⟨hdef, hoffset, hbase⟩ := hok
  obtain ⟨pc, hpc, hguards⟩ := HalfForm.guarded_defined rd s body hdef
  rw [hguards, guardPc_pass (Bool.eq_false_iff.mpr (mt hpc.mp (not_or.mpr ⟨hoffset, hrd⟩))),
    guardBase_pass fun hw => hbase ((form.writeback_iff s).mp hw)]

/-- A transfer of a halfword at an odd address is refused (93 U16). -/
theorem halfTransfer_odd {op : HalfLoad} {form : HalfForm} {cond : Cond} {rd : RegNum} {s : State} {i : Instr}
    (hc : condPassed cond s.cpsr = true) (hi : i = op.instr cond rd form ∨ i = strhInstr cond rd form) (ok : form.ok rd)
    (hrd : rd ≠ 15#4) (hsize : i = op.instr cond rd form → op.size = .half) (live : s.debugSpeed = false)
    (ha : s.cp15.a = false) (hodd : (s.relocate (form.addressing s).addr).getLsbD 0 = true) :
    exec i s = .refused .oddHalfword := by
  rcases hi with rfl | rfl
  · rw [exec_halfLoad op form rd hc, HalfForm.guarded_pass ok hrd, hsize rfl, loadSingle,
      dataRead_oddHalfword _ _ live ha hodd]
  · rw [exec_strhInstr form rd hc, HalfForm.guarded_pass ok hrd, storeSingle, dataWrite_oddHalfword _ _ _ live ha hodd]

/-- A halfword or signed transfer is its guards and what they let pass. -/
theorem exec_halfTransfer {op : HalfLoad} {form : HalfForm} {cond : Cond} {rd : RegNum} {s : State} {i : Instr}
    (hc : condPassed cond s.cpsr = true) (hi : i = op.instr cond rd form ∨ i = strhInstr cond rd form) :
    ∃ body : Result, exec i s = form.guarded rd s body := by
  rcases hi with rfl | rfl
  · exact ⟨_, exec_halfLoad op form rd hc⟩
  · exact ⟨_, exec_strhInstr form rd hc⟩

/-- Settles O14: the guards of each instruction stand before its effect, and each refuses what it names. -/
theorem forbiddenOperandsAreRefused : Obligations.ForbiddenOperandsAreRefused := by
  refine ⟨?mul, ?mla, ?long, ?logic, ?arith, ?compare, ?single, ?half, ?block, ?thumbBlock, ?swap,
    fun _ _ _ => ⟨rfl, rfl, rfl⟩, fun _ _ => rfl⟩
  case mul =>
    intro cond sets rd rs rm s hc
    exact ⟨fun h => (conditionally_pass hc).trans (guardPc_refuses (by simpa [or_assoc] using h)),
      fun hd hs hm => (conditionally_pass hc).trans (guards_clash (by simp [hd, hs, ← hm]) (beq_iff_eq.mpr hm))⟩
  case mla =>
    intro cond sets rd rn rs rm s hc
    exact ⟨fun h => (conditionally_pass hc).trans (guardPc_refuses (by simpa [or_assoc] using h)),
      fun hd hn hs hm => (conditionally_pass hc).trans (guards_clash (by simp [hd, hn, hs, ← hm]) (beq_iff_eq.mpr hm))⟩
  case long =>
    intro op cond sets rdHi rdLo rs rm s hc
    obtain ⟨body, hexec⟩ := exec_longOp op sets rdHi rdLo rs rm hc
    rw [hexec]
    exact ⟨guardLong_pc, guardLong_clash⟩
  case logic =>
    intro op cond sets rn rd rs rm t s hc h
    exact (exec_logicOp op _ sets rn rd hc).trans (guardPc_refuses (DpForm.forbids_regShift t rm h))
  case arith =>
    intro op cond sets rn rd rs rm t s hc h
    exact (exec_arithOp op _ sets rn rd hc).trans (guardPc_refuses (DpForm.forbids_regShift t rm h))
  case compare =>
    intro cond rn rm t s hc
    exact exec_comparisons (.regShift 15#4 t rm) rn hc
  case single =>
    intro form cond byte rd s hc
    rw [exec_loadInstr form byte rd hc, exec_storeInstr form byte rd hc]
    refine ⟨fun h => WordForm.refuses_pc ?_, WordForm.refuses_pc, fun hoffset hrd hwrites hbase =>
      ⟨WordForm.refuses_clash hoffset hrd hwrites hbase, WordForm.refuses_clash hoffset hrd hwrites hbase⟩⟩
    rwa [Bool.or_eq_true]
  case half =>
    intro op form cond rd s i hc hi
    obtain ⟨body, hexec⟩ := exec_halfTransfer hc hi
    refine ⟨?_, ?_, ?_, halfTransfer_odd hc hi⟩ <;> rw [hexec]
    · exact HalfForm.guarded_undefined
    · exact HalfForm.guarded_pc
    · exact HalfForm.guarded_clash
  case block =>
    intro cond p u w rn regs regs15 s hc
    refine ⟨fun h15 i hi => ?_, fun h15 => ⟨?_, ?_⟩, fun h15 h => ?_, fun h15 h => ?_,
      fun h15 hw hm => ⟨fun hne => ?_, fun hne => ?_⟩, fun h15 hm => ?_⟩
    · simp only [List.mem_cons, List.not_mem_nil, or_false] at hi
      rcases hi with rfl | rfl | rfl | rfl | rfl <;> exact (conditionally_pass hc).trans (guardBlock_pc h15)
    · exact (conditionally_pass hc).trans (guardBlock_empty h15 rfl)
    · exact (conditionally_pass hc).trans (guardBlock_empty h15 rfl)
    · refine (conditionally_pass hc).trans (guardBlock_clash h15 (h.imp_left ?_))
      rintro rfl
      rfl
    · refine (conditionally_pass hc).trans (guardBlock_clash h15 (h.imp_left ?_))
      rintro rfl
      rfl
    · exact (conditionally_pass hc).trans ((guardBlock_pass h15 (userList_ne_nil hne)).trans
        ((guardClash_pass hw).trans (guardUserBank_refuses hm)))
    · exact (conditionally_pass hc).trans ((guardBlock_pass h15 (regList_ne_nil hne)).trans
        ((guardClash_pass hw).trans (guardUserBank_refuses hm)))
    · exact (conditionally_pass hc).trans ((guardBlock_pass h15 (restoreList_ne_nil regs15)).trans (guardSpsr_refuses hm))
  case thumbBlock =>
    intro rb s
    show execTPush false 0#8 s = _ ∧ execTPop false 0#8 s = _ ∧ _
    exact ⟨guardBlock_empty sp_ne_fifteen (rfl : pushList false 0#8 = []),
      guardBlock_empty sp_ne_fifteen (rfl : popList false 0#8 = []),
      guardBlock_empty (low_ne_fifteen rb) rfl, guardBlock_empty (low_ne_fifteen rb) rfl⟩
  case swap =>
    intro cond rn rd rm s hc
    exact ⟨fun h => ⟨(conditionally_pass hc).trans (guardSwap_pc h), (conditionally_pass hc).trans (guardSwap_pc h)⟩,
      fun hn hd hm h => ⟨(conditionally_pass hc).trans (guardSwap_clash hn hd hm h),
        (conditionally_pass hc).trans (guardSwap_clash hn hd hm h)⟩⟩

end Sys2Proof.Claims
end

section
/-! PROOFS. The multiplies (41 R351 to R356, 44 R491): the word or doubleword each writes, and the flags it leaves free. -/

namespace Sys2Proof.Machine

/-- A product of words is the exact product modulo 2^32 (41 R351). -/
theorem mul_eq_ofNat (a b : Word) : a * b = BitVec.ofNat 32 (a.toNat * b.toNat) := by
  rw [BitVec.ofNat_mul, BitVec.ofNat_toNat, BitVec.ofNat_toNat, BitVec.setWidth_eq, BitVec.setWidth_eq]

/-- A product and a word added to it, modulo 2^32 (41 R352). -/
theorem mul_add_eq_ofNat (a b c : Word) : a * b + c = BitVec.ofNat 32 (a.toNat * b.toNat + c.toNat) := by
  rw [mul_eq_ofNat, BitVec.ofNat_add, BitVec.ofNat_toNat 32 c, BitVec.setWidth_eq]

/-- The number in the two destinations of a long multiply, as its 64-bit value (41 R354, R356). -/
theorem append_eq_ofInt (hi lo : Word) : hi ++ lo = BitVec.ofInt 64 (hi.toNat * 2 ^ 32 + lo.toNat) := by
  have hlo : lo.toNat < 2 ^ 32 := lo.isLt
  have hnat : hi ++ lo = BitVec.ofNat 64 (hi.toNat * 2 ^ 32 + lo.toNat) := by
    refine BitVec.eq_of_toNat_eq ?_
    rw [BitVec.toNat_append, ← Nat.shiftLeft_add_eq_or_of_lt hlo, Nat.shiftLeft_eq, BitVec.toNat_ofNat]
    omega
  rw [hnat, ← BitVec.ofInt_natCast]
  norm_cast

/-- No guard stops a long multiply of four registers that may be used together (41 R350). -/
theorem guardLong_pass {rdHi rdLo rs rm : RegNum} {body : Result} (hhi : rdHi ≠ 15#4) (hlo : rdLo ≠ 15#4)
    (hs : rs ≠ 15#4) (hm : rm ≠ 15#4) (hd : rdHi ≠ rdLo) (hhm : rdHi ≠ rm) (hlm : rdLo ≠ rm) :
    guardLong rdHi rdLo rs rm body = body :=
  (guardPc_pass (by simp [hhi, hlo, hs, hm])).trans (guardClash_pass (by simp [hd, hhm, hlm]))

/-- Without S a long multiply writes its two registers only (41 R353). -/
theorem mulLongWrite_registers (rdHi rdLo : RegNum) (r : BitVec 64) (s : State) :
    mulLongWrite false rdHi rdLo r s =
      .next ((s.setReg rdLo (r.extractLsb' 0 32)).setReg rdHi (r.extractLsb' 32 32)).advance := rfl

/-- With S it draws one free value, whose two low bits are C and V (41 R353, U22). -/
theorem mulLongWrite_flags (rdHi rdLo : RegNum) (r : BitVec 64) (s : State) :
    mulLongWrite true rdHi rdLo r s =
      .next (Claims.written (s.setReg rdLo (r.extractLsb' 0 32)) rdHi (r.extractLsb' 32 32)
        { s.cpsr with n := r.msb, z := decide (r = 0), c := s.drawn.getLsbD 0, v := s.drawn.getLsbD 1 }).drew := rfl

end Sys2Proof.Machine

namespace Sys2Proof.Claims

open Sys2Proof.Machine

/-- An instruction that ends in `mulWrite` multiplies; the C it leaves is the bit drawn (41 R351, U22). -/
theorem MultipliesTo.of_mulWrite {i : Instr} {sets : Bool} {rd : RegNum} {r : Word} {s : State}
    (h : exec i s = mulWrite sets rd r s) : MultipliesTo i sets rd r s := by
  cases sets with
  | true => exact ⟨s.drawn.getLsbD 0, h⟩
  | false => exact h

/-- A long multiply behind its guards writes the value on the integers (41 R353 to R356). -/
theorem exec_longOp_value (op : LongOp) {cond : Cond} (sets : Bool) (rdHi rdLo rs rm : RegNum) {s : State}
    (hc : condPassed cond s.cpsr = true) :
    exec (op.instr cond sets rdHi rdLo rs rm) s = guardLong rdHi rdLo rs rm
      (mulLongWrite sets rdHi rdLo (op.value (s.reg rm) (s.reg rs) (s.reg rdHi) (s.reg rdLo)) s) := by
  have hunsigned (a b : Word) : BitVec.ofInt 64 (a.toNat * b.toNat) = unsignedProduct a b := by
    rw [unsignedProduct, ← BitVec.ofInt_natCast, Int.natCast_mul]
  cases op with
  | umull =>
    rw [LongOp.value, hunsigned]
    exact conditionally_pass hc
  | umlal =>
    rw [LongOp.value, BitVec.ofInt_add, hunsigned, ← append_eq_ofInt]
    exact conditionally_pass hc
  | smull => exact conditionally_pass hc
  | smlal =>
    rw [LongOp.value, BitVec.ofInt_add, ← append_eq_ofInt]
    exact conditionally_pass hc

/-- Settles O13: no guard stops the instructions, and each ends in `mulWrite` or `mulLongWrite`. -/
theorem multipliesWriteTheProduct : Obligations.MultipliesWriteTheProduct := by
  refine ⟨?mul, ?mla, ?thumb, ?long⟩
  case mul =>
    intro cond sets rd rs rm s hc hd hs hm hdm
    rw [← mul_eq_ofNat]
    exact .of_mulWrite ((conditionally_pass hc).trans
      ((guardPc_pass (by simp [hd, hs, hm])).trans (guardClash_pass (beq_false_of_ne hdm))))
  case mla =>
    intro cond sets rd rn rs rm s hc hd hn hs hm hdm
    rw [← mul_add_eq_ofNat]
    exact .of_mulWrite ((conditionally_pass hc).trans
      ((guardPc_pass (by simp [hd, hn, hs, hm])).trans (guardClash_pass (beq_false_of_ne hdm))))
  case thumb =>
    intro rs rd s
    rw [← mul_eq_ofNat]
    exact .of_mulWrite rfl
  case long =>
    intro op cond rdHi rdLo rs rm s r hc hhi hlo hs hm hd hhm hlm hr
    have hexec (sets : Bool) : exec (op.instr cond sets rdHi rdLo rs rm) s = mulLongWrite sets rdHi rdLo r s := by
      rw [exec_longOp_value op sets rdHi rdLo rs rm hc, guardLong_pass hhi hlo hs hm hd hhm hlm, hr]
    rw [hexec, hexec, mulLongWrite_registers, mulLongWrite_flags]
    exact ⟨rfl, _, _, rfl⟩

end Sys2Proof.Claims
end

section
/-! PROOFS. MRS and MSR (41 R358 to R362): the bits of a status register, and the bytes of it that a field mask selects. -/

namespace Sys2Proof.Machine

/-! Status registers as words. -/

/-- Where the fields of a status register are in its word (10 R35, R41). -/
theorem psrToWord_fields (p : Psr) :
    (psrToWord p).getLsbD 31 = p.n ∧ (psrToWord p).getLsbD 30 = p.z ∧ (psrToWord p).getLsbD 29 = p.c ∧
      (psrToWord p).getLsbD 28 = p.v ∧ (psrToWord p).extractLsb' 8 20 = 0#20 ∧ (psrToWord p).getLsbD 7 = p.i ∧
      (psrToWord p).getLsbD 6 = p.f ∧ (psrToWord p).getLsbD 5 = p.t ∧ (psrToWord p).extractLsb' 0 5 = p.m := by
  unfold psrToWord
  and_intros <;>
    simp (disch := omega) only [append_bit_high, append_bit_low, append_field_high, append_field_low, Nat.reduceSub,
      Nat.sub_self, ofBool_bit, field_all]

/-- A bit of a merged word is the new one where the mask selects it. -/
theorem merged_bit (old new mask : Word) {k : Nat} (hk : k < 32) :
    ((old &&& ~~~mask) ||| (new &&& mask)).getLsbD k = if mask.getLsbD k then new.getLsbD k else old.getLsbD k := by
  rw [BitVec.getLsbD_or, BitVec.getLsbD_and, BitVec.getLsbD_and, BitVec.getLsbD_not, decide_eq_true hk]
  cases mask.getLsbD k <;> simp

/-- A field of a merged word whose bits the mask treats alike. -/
theorem merged_field {k n : Nat} {b : Bool} {mask : Word} (old new : Word) (hkn : k + n ≤ 32)
    (h : ∀ j : Nat, j < n → mask.getLsbD (k + j) = b) :
    ((old &&& ~~~mask) ||| (new &&& mask)).extractLsb' k n =
      if b then new.extractLsb' k n else old.extractLsb' k n := by
  refine BitVec.eq_of_getLsbD_eq fun j hj => ?_
  rw [BitVec.getLsbD_extractLsb', decide_eq_true hj, Bool.true_and, merged_bit old new mask (by omega), h j hj]
  cases b <;> simp [hj]

/-- Merging bytes into a status register mixes it: only whether the flags byte and the control byte are selected counts, for
the other bits are not implemented (10 R41). -/
theorem mergePsr_eq_mixedPsr (p : Psr) {mask : Word} (v : Word) {flags control : Bool}
    (hflags : ∀ k : Nat, 28 ≤ k → k < 32 → mask.getLsbD k = flags) (hcontrol : ∀ k : Nat, k < 8 → mask.getLsbD k = control) :
    mergePsr p mask v = Claims.mixedPsr p flags control v := by
  obtain ⟨hn, hz, hc, hv, -, hi, hf, ht, hm⟩ := psrToWord_fields p
  have hfield := merged_field (psrToWord p) v (k := 0) (n := 5) (by omega) fun j hj => hcontrol (0 + j) (by omega)
  simp only [mergePsr, psrOfWord, Claims.mixedPsr, hfield, merged_bit, Nat.reduceLT, Nat.reduceLeDiff, hflags, hcontrol,
    hn, hz, hc, hv, hi, hf, ht, hm]

/-! The field mask. -/

theorem wholeByte_bit (b : Bool) {j : Nat} (hj : j < 8) : (if b then 0xFF#8 else 0#8).getLsbD j = b := by
  cases b
  · exact BitVec.getLsbD_zero
  · exact BitVec.getLsbD_allOnes.trans (decide_eq_true hj)

/-- Bits [31:28] are selected by bit 3 of the field mask (41 R359). -/
theorem fieldBytes_flags (mask : BitVec 4) {k : Nat} (h28 : 28 ≤ k) (h32 : k < 32) :
    (fieldBytes mask).getLsbD k = mask.getLsbD 3 := by
  simp (disch := omega) only [fieldBytes, append_bit_high, wholeByte_bit]

/-- Bits [7:0] are selected by bit 0 of the field mask (41 R359). -/
theorem fieldBytes_control (mask : BitVec 4) {k : Nat} (h : k < 8) : (fieldBytes mask).getLsbD k = mask.getLsbD 0 := by
  simp (disch := omega) only [fieldBytes, append_bit_low, wholeByte_bit]

/-- MSR of the CPSR mixes it: the control byte is selected only where the whole register may be written (41 R361). -/
theorem mergePsr_fieldBytes (p : Psr) (mask : BitVec 4) (v : Word) (whole : Bool) :
    mergePsr p (if whole then fieldBytes mask else fieldBytes mask &&& 0xFF000000#32) v =
      Claims.mixedPsr p (mask.getLsbD 3) (whole && mask.getLsbD 0) v := by
  cases whole with
  | true => exact mergePsr_eq_mixedPsr p v (fun _ => fieldBytes_flags mask) fun _ => fieldBytes_control mask
  | false =>
    have hhigh : ∀ k : Nat, k < 32 → 28 ≤ k → (0xFF000000#32).getLsbD k = true := by decide
    have hlow : ∀ k : Nat, k < 8 → (0xFF000000#32).getLsbD k = false := by decide
    refine mergePsr_eq_mixedPsr p v (fun k h28 h32 => ?_) fun k h8 => ?_
    · rw [if_neg Bool.false_ne_true, BitVec.getLsbD_and, fieldBytes_flags mask h28 h32, hhigh k h32 h28, Bool.and_true]
    · rw [if_neg Bool.false_ne_true, BitVec.getLsbD_and, hlow k h8, Bool.and_false, Bool.false_and]

/-! The transfers. -/

/-- MSR of the CPSR keeps T or is refused (41 R359 to R361, U1). -/
theorem writeStatus_cpsr {control : Bool} {mask : BitVec 4} {v : Word} {s : State}
    (hcontrol : ((s.privileged || s.dbg.halted) && mask.getLsbD 0) = control) :
    writeStatus false mask v s =
      if control = true → v.getLsbD 5 = s.cpsr.t then
        .next { s with cpsr := Claims.mixedPsr s.cpsr (mask.getLsbD 3) control v }.advance
      else .refused .changesThumbBit := by
  have hmixed := mergePsr_fieldBytes s.cpsr mask v (s.privileged || s.dbg.halted)
  rw [hcontrol] at hmixed
  have ht : (Claims.mixedPsr s.cpsr (mask.getLsbD 3) control v).t = s.cpsr.t ↔
      (control = true → v.getLsbD 5 = s.cpsr.t) := by
    cases control <;> simp [Claims.mixedPsr]
  simp only [writeStatus, Bool.false_eq_true, if_false, hmixed, ht]
  rfl

/-- MSR of an SPSR that the mode has (41 R362). -/
theorem writeStatus_spsr {mask : BitVec 4} {v : Word} {s : State} {p : Psr} (h : s.spsrOf s.cpsr.m = some p) :
    writeStatus true mask v s =
      .next (s.setSpsrOf s.cpsr.m (Claims.mixedPsr p (mask.getLsbD 3) (mask.getLsbD 0) v)).advance := by
  rw [writeStatus, if_pos rfl, h, ← Bool.true_and (mask.getLsbD 0), ← mergePsr_fieldBytes]
  rfl

theorem writeStatus_noSpsr {mask : BitVec 4} {v : Word} {s : State} (h : s.spsrOf s.cpsr.m = none) :
    writeStatus true mask v s = .refused .noSpsr := by
  rw [writeStatus, if_pos rfl, h]

/-- MRS of a status register that the mode has (41 R358). -/
theorem exec_mrs_some {cond : Cond} {r : Bool} {rd : RegNum} {s : State} {p : Psr} (hc : condPassed cond s.cpsr = true)
    (hrd : rd ≠ 15#4) (h : readStatus r s = some p) : exec (.mrs cond r rd) s = .next (s.setReg rd (psrToWord p)).advance := by
  show execMrs cond r rd s = _
  rw [execMrs, conditionally_pass hc, guardPc_pass (beq_false_of_ne hrd), h]

theorem exec_mrs_none {cond : Cond} {r : Bool} {rd : RegNum} {s : State} (hc : condPassed cond s.cpsr = true)
    (hrd : rd ≠ 15#4) (h : readStatus r s = none) : exec (.mrs cond r rd) s = .refused .noSpsr := by
  show execMrs cond r rd s = _
  rw [execMrs, conditionally_pass hc, guardPc_pass (beq_false_of_ne hrd), h]

end Sys2Proof.Machine

namespace Sys2Proof.Claims

open Sys2Proof.Machine

/-- MSR in either operand form (41 R359). -/
theorem exec_msr (form : MsrForm) {cond : Cond} (r : Bool) (mask : BitVec 4) {s : State}
    (hc : condPassed cond s.cpsr = true) :
    exec (form.instr cond r mask) s = writeStatus r mask (form.operand s) s := by
  cases form with
  | imm rot imm8 =>
    rw [MsrForm.operand, ← BitVec.rotateRight_mod_eq_rotateRight]
    exact conditionally_pass hc
  | reg rm => exact conditionally_pass hc

/-- Settles O15: MRS by what `readStatus` answers, MSR by `writeStatus`, whose merge of bytes is `mixedPsr`
(`mergePsr_fieldBytes`). -/
theorem statusRegisterTransfers : Obligations.StatusRegisterTransfers := by
  refine ⟨psrToWord_fields, ?mrs, ?mrsPc, ?msr⟩
  case mrs =>
    intro cond rd s hc hrd
    exact ⟨exec_mrs_some hc hrd rfl, fun _ hp => exec_mrs_some hc hrd hp, fun hm => exec_mrs_none hc hrd (spsrOf_user hm)⟩
  case mrsPc =>
    intro cond r s hc
    exact (conditionally_pass hc).trans (guardPc_refuses rfl)
  case msr =>
    rintro form cond mask s v hc rfl
    simp only [exec_msr form _ mask hc]
    refine ⟨fun hpriv ht => ?_, fun hpriv hmask ht => ?_, fun hm hrun => ?_, fun _ => writeStatus_spsr, writeStatus_noSpsr⟩
    · rw [writeStatus_cpsr (control := mask.getLsbD 0) (by rw [hpriv, Bool.true_or, Bool.true_and]), if_pos ht]
    · rw [writeStatus_cpsr (control := true) (by rw [hpriv, hmask, Bool.true_or, Bool.true_and]),
        if_neg fun h => ht (h rfl)]
    · have huser : s.privileged = false := by rw [State.privileged, hm, bne_self_eq_false]
      rw [writeStatus_cpsr (control := false) (by rw [huser, hrun, Bool.or_false, Bool.false_and]),
        if_pos fun h => absurd h Bool.false_ne_true]

end Sys2Proof.Claims
end

section
/-! PROOFS. Branches, SWI and the undefined encodings (41 R365 to R375, 45 R535 to R543): offsets on the integers, and where each
branch goes. -/

namespace Sys2Proof.Machine

/-! Offsets. -/

/-- An offset field with zeros below it, extended, is a multiple of the signed field. -/
theorem signExtend_append_zero {n k : Nat} {m : Int} (off : BitVec n) (hm : 2 ^ k = m) :
    (off ++ 0#k).signExtend 32 = BitVec.ofInt 32 (m * off.toInt) := by
  rw [BitVec.signExtend, BitVec.toInt_append, hm]
  split
  next h0 =>
    obtain rfl : n = 0 := eq_of_beq h0
    rw [BitVec.eq_nil off]
    simp
  next => simp

/-- The two halves of the offset of a Thumb BL: the first one in units of 4096 bytes, the second one in halfwords (45 R537,
R538). -/
theorem ofInt_blOffset (hi lo : BitVec 11) :
    BitVec.ofInt 32 (4096 * hi.toInt) + BitVec.ofNat 32 (2 * lo.toNat) = BitVec.ofInt 32 (2 * (hi ++ lo).toInt) := by
  rw [← BitVec.ofInt_natCast, ← BitVec.ofInt_add, BitVec.toInt_append, if_neg (by decide)]
  congr 1
  push_cast
  ring

/-- The offset of the second half of a Thumb BL. -/
theorem setWidth_append_zero (off11 : BitVec 11) : (off11 ++ 0#1).setWidth 32 = BitVec.ofNat 32 (2 * off11.toNat) := by
  refine BitVec.eq_of_toNat_eq ?_
  rw [BitVec.toNat_setWidth, BitVec.toNat_append, BitVec.toNat_ofNat, Nat.zero_mod, Nat.or_zero, Nat.shiftLeft_eq, pow_one,
    Nat.mul_comm, BitVec.toNat_ofNat]

/-! The PC. -/

/-- A branch in Thumb state ignores bit 0 of the address (10 R29). -/
theorem branchTo_thumb {s : State} (ht : s.cpsr.t = true) (a : Word) :
    s.branchTo a = { s with pc := a &&& 0xFFFFFFFE#32, queue := [] } := by
  rw [State.branchTo, alignPc, if_pos ht]

theorem advance_thumb {s : State} (ht : s.cpsr.t = true) : s.advance = { s with pc := s.pc + 2#32, queue := s.queue.tail } := by
  rw [State.advance, State.instrBytes, if_pos ht]

theorem branchExchange_eq (v : Word) (s : State) : branchExchange v s = .next (Claims.exchanged s v) := rfl

/-- The last of two writes to a register stays. -/
theorem setReg_setReg (s : State) (r : RegNum) (v w : Word) : (s.setReg r v).setReg r w = s.setReg r w := by
  simp only [State.setReg, Vector.set_set]

/-! The Thumb branches. -/

/-- The conditional branches differ in their conditions alone (45 R535). -/
theorem exec_thumbBranches {off8 : BitVec 8} {p : Instr × Cond} (h : p ∈ Claims.thumbBranches off8) (s : State) :
    exec p.1 s = thumbCondBranch p.2 off8 s := by
  simp only [Claims.thumbBranches, List.mem_cons, List.not_mem_nil, or_false] at h
  rcases h with rfl | rfl | rfl | rfl | rfl | rfl | rfl | rfl | rfl | rfl | rfl | rfl | rfl | rfl <;> rfl

theorem thumbCondBranch_eq {c : Cond} {off8 : BitVec 8} {s : State} (ht : s.cpsr.t = true) :
    thumbCondBranch c off8 s =
      .next (if condPassed c s.cpsr then
          { s with pc := (s.pc + 4#32 + BitVec.ofInt 32 (2 * off8.toInt)) &&& 0xFFFFFFFE#32, queue := [] }
        else { s with pc := s.pc + 2#32, queue := s.queue.tail }) := by
  rw [thumbCondBranch, branchTo_thumb ht, advance_thumb ht, signExtend_append_zero off8 (pow_one 2)]
  split <;> rfl

/-- The first half of a Thumb BL leaves the upper part of the target in r14 (45 R537). -/
theorem exec_tBlHigh (hi : BitVec 11) (s : State) :
    exec (.tBlHigh hi) s = .next (s.setReg 14#4 (s.pc + 4#32 + BitVec.ofInt 32 (4096 * hi.toInt))).advance := by
  rw [← signExtend_append_zero (k := 12) hi (by norm_num)]
  rfl

/-- The second half adds its offset to r14 and leaves the return address there (45 R538). -/
theorem exec_tBlLow (lo : BitVec 11) {s : State} (ht : s.cpsr.t = true) :
    exec (.tBlLow lo) s =
      .next { s.setReg 14#4 ((s.pc + 2#32) ||| 1#32) with
        pc := (s.reg 14#4 + BitVec.ofNat 32 (2 * lo.toNat)) &&& 0xFFFFFFFE#32, queue := [] } := by
  rw [← setWidth_append_zero, ← branchTo_thumb (by exact ht)]
  rfl

/-- The halves in sequence (45 R537, R538): r14 carries the upper part from the one to the other. -/
theorem exec_tBlLow_after_tBlHigh (hi lo : BitVec 11) {s t : State} (ht : s.cpsr.t = true) (hs : s.bankHazard = false)
    (hhigh : exec (.tBlHigh hi) s = .next t) :
    exec (.tBlLow lo) t =
      .next { s.setReg 14#4 ((s.pc + 4#32) ||| 1#32) with
        pc := (s.pc + 4#32 + BitVec.ofInt 32 (2 * (hi ++ lo).toInt)) &&& 0xFFFFFFFE#32, queue := [] } := by
  rw [exec_tBlHigh] at hhigh
  obtain rfl := Host.Outcome.next.inj hhigh
  have hlink (v : Word) : (s.setReg 14#4 v).advance.reg 14#4 = v :=
    (reg_gpr (s := (s.setReg 14#4 v).advance) (by decide) hs).trans (setReg_gpr_same v rfl)
  have hpc (v : Word) : (s.setReg 14#4 v).advance.pc + 2#32 = s.pc + 4#32 := by
    rw [advance_thumb (by exact ht)]
    exact BitVec.add_assoc ..
  rw [exec_tBlLow lo (by exact ht), hlink, hpc, BitVec.add_assoc (s.pc + 4#32), ofInt_blOffset,
    ← setReg_setReg s 14#4 (s.pc + 4#32 + BitVec.ofInt 32 (4096 * hi.toInt)) ((s.pc + 4#32) ||| 1#32)]
  rfl

end Sys2Proof.Machine

namespace Sys2Proof.Claims

open Sys2Proof.Machine

/-- Settles O16: each branch is a `branchTo` or a `branchExchange`, with its offset read on the integers
(`signExtend_append_zero`, `ofInt_blOffset`). -/
theorem branches : Obligations.Branches := by
  refine ⟨fun cond off24 rm s hc => ?arm, fun s ht => ?thumb⟩
  case arm =>
    rw [← signExtend_append_zero (k := 2) off24 (by norm_num)]
    exact ⟨conditionally_pass hc, conditionally_pass hc, (conditionally_pass hc).trans (branchExchange_eq _ s)⟩
  case thumb =>
    refine ⟨fun off8 p hp => (exec_thumbBranches hp s).trans (thumbCondBranch_eq ht), fun off11 => ?_,
      fun h2 rs => branchExchange_eq _ s, fun hi => exec_tBlHigh hi s,
      fun hi lo hs => ⟨exec_tBlLow lo ht, fun t => exec_tBlLow_after_tBlHigh hi lo ht hs⟩⟩
    rw [← signExtend_append_zero off11 (pow_one 2), ← branchTo_thumb ht]
    rfl

/-- Settles O18: in ARM state the condition passes, in Thumb state there is none. -/
theorem swiAndUndefinedTrap : Obligations.SwiAndUndefinedTrap := by
  refine ⟨fun _ _ _ hc => conditionally_pass hc, fun _ _ _ _ hc => conditionally_pass hc, fun _ _ => rfl,
    fun x y z w i s hi => ?_⟩
  simp only [List.mem_cons, List.not_mem_nil, or_false] at hi
  rcases hi with rfl | rfl | rfl | rfl | rfl | rfl | rfl <;> rfl

end Sys2Proof.Claims
end

section
/-! PROOFS. Single, halfword and signed transfers, Thumb transfers, SWP, LDC and STC (42 R391 to R410, R420, R421; 43 R447, R448; 45
R511 to R527): where the access completes, and where it aborts. -/

namespace Sys2Proof.Machine

/-! Values and addresses. -/

/-- A word load rotates by the offset of its address in the word (42 R392). -/
theorem wordValue_eq (a v : Word) : wordValue a v = v.rotateRight (8 * (a.toNat % 4)) := by
  have hoffset : (a.extractLsb' 0 2).toNat = a.toNat % 4 := by rw [BitVec.extractLsb'_toNat, Nat.shiftRight_zero]
  rw [wordValue, ror32, hoffset, Nat.mod_eq_of_lt (by omega)]

/-- A field times four, as an offset (30 R262). -/
theorem wordOffset_eq {n : Nat} (x : BitVec n) (hn : n ≤ 30) : wordOffset x = BitVec.ofNat 32 (4 * x.toNat) := by
  refine BitVec.eq_of_toNat_eq ?_
  have hx : x.toNat < 2 ^ 30 := x.isLt.trans_le (Nat.pow_le_pow_right (by decide) hn)
  rw [wordOffset, BitVec.toNat_shiftLeft, BitVec.toNat_setWidth, BitVec.toNat_ofNat, Nat.shiftLeft_eq]
  omega

/-- A field times two, as an offset (30 R262). -/
theorem halfOffset_eq (x : BitVec 5) : halfOffset x = BitVec.ofNat 32 (2 * x.toNat) := by
  refine BitVec.eq_of_toNat_eq ?_
  have hx := x.isLt
  rw [halfOffset, BitVec.toNat_shiftLeft, BitVec.toNat_setWidth, BitVec.toNat_ofNat, Nat.shiftLeft_eq]
  omega

/-! How a transfer ends. -/

theorem loadSingle_done {size : Size} {signed priv : Bool} {m : Addressing} {rn rd : RegNum} {s t : State} {v : Word}
    (h : dataRead s m.addr size priv false = .done v t) : loadSingle size signed priv m rn rd s =
      .next ((t.writeBack m rn).writeResult rd (loadValue size signed m.addr v)) := by rw [loadSingle, h]

theorem loadSingle_abort {size : Size} {signed priv : Bool} {m : Addressing} {rn rd : RegNum} {s t : State}
    (h : dataRead s m.addr size priv false = .abort t) :
    loadSingle size signed priv m rn rd s = .next ((t.writeBack m rn).takeException .dataAbort) := by rw [loadSingle, h]

theorem storeSingle_done {size : Size} {priv : Bool} {m : Addressing} {rn : RegNum} {v w : Word} {s t : State}
    (h : dataWrite s m.addr size v priv false = .done w t) :
    storeSingle size priv m rn v s = .next (t.writeBack m rn).advance := by rw [storeSingle, h]

theorem storeSingle_abort {size : Size} {priv : Bool} {m : Addressing} {rn : RegNum} {v : Word} {s t : State}
    (h : dataWrite s m.addr size v priv false = .abort t) :
    storeSingle size priv m rn v s = .next ((t.writeBack m rn).takeException .dataAbort) := by rw [storeSingle, h]

theorem swapWith_readAbort {size : Size} {rn rd rm : RegNum} {s t : State}
    (h : dataRead s (s.reg rn) size s.privileged true = .abort t) :
    swapWith size rn rd rm s = .next (t.takeException .dataAbort) := by
  unfold swapWith
  dsimp only
  rw [h]

theorem swapWith_writeAbort {size : Size} {rn rd rm : RegNum} {s t u : State} {v : Word}
    (hread : dataRead s (s.reg rn) size s.privileged true = .done v t)
    (hwrite : dataWrite t (s.reg rn) size (s.reg rm) s.privileged true = .abort u) :
    swapWith size rn rd rm s = .next (u.takeException .dataAbort) := by
  unfold swapWith
  dsimp only
  rw [hread]
  dsimp only
  rw [hwrite]

theorem swapWith_done {size : Size} {rn rd rm : RegNum} {s t u : State} {v w : Word}
    (hread : dataRead s (s.reg rn) size s.privileged true = .done v t)
    (hwrite : dataWrite t (s.reg rn) size (s.reg rm) s.privileged true = .done w u) :
    swapWith size rn rd rm s = .next (u.setReg rd (loadValue size false (s.reg rn) v)).advance := by
  unfold swapWith
  dsimp only
  rw [hread]
  dsimp only
  rw [hwrite]

/-- A load whose base is not written back. -/
theorem thumbLoad_abort {size : Size} {signed : Bool} {a : Word} {rd : LowReg} {s t : State}
    (h : dataRead s a size s.privileged false = .abort t) :
    thumbLoad size signed a rd s = .next (t.takeException .dataAbort) :=
  loadSingle_abort (m := { addr := a, offAddr := a, writeback := false }) h

theorem thumbStore_abort {size : Size} {a : Word} {rd : LowReg} {s t : State}
    (h : dataWrite s a size (s.lowReg rd) s.privileged false = .abort t) :
    thumbStore size a rd s = .next (t.takeException .dataAbort) :=
  storeSingle_abort (m := { addr := a, offAddr := a, writeback := false }) h

theorem guardSwap_pass {rn rd rm : RegNum} {body : Result} (hn : rn ≠ 15#4) (hd : rd ≠ 15#4) (hm : rm ≠ 15#4)
    (hnd : rn ≠ rd) (hnm : rn ≠ rm) : guardSwap rn rd rm body = body :=
  (guardPc_pass (by simp [hn, hd, hm])).trans (guardClash_pass (by simp [hnd, hnm]))

/-! LDC and STC at their first word. -/

theorem withCoprocessor_accept {cp : BitVec 4} {s : State} {first : Word} {more : List Word}
    (body : Word → List Word → State → Result) (hcp : cp = 4#4 ∨ cp = 5#4 ∨ cp = 6#4 ∨ cp = 7#4)
    (h : copResponse s.copros cp s.sampledTrans = .accept first more) :
    withCoprocessor cp s body = body first more { s with copros := copAnswered s.copros cp } := by
  have hexternal : isExternal cp = true := by rcases hcp with rfl | rfl | rfl | rfl <;> rfl
  unfold withCoprocessor
  rw [if_pos hexternal, h]

/-- The base of an LDC or STC is r15 only where it is not written back (93 U6). -/
theorem copAddressing_base {p u w : Bool} {rn : RegNum} {off8 : BitVec 8} {s : State}
    (h : rn = 15#4 → p = true ∧ w = false) : ((copAddressing p u w rn off8 s).writeback && rn == 15#4) = false := by
  by_cases hrn : rn = 15#4
  · obtain ⟨rfl, rfl⟩ := h hrn
    rfl
  · rw [beq_false_of_ne hrn, Bool.and_false]

theorem copLoads_abort {cp : BitVec 4} {priv : Bool} {first a : Word} {more : List Word} {s t : State}
    (h : dataRead s a .word priv false = .abort t) : copLoads cp priv (acceptedWords first more) a s = .aborted t := by
  rw [acceptedWords, copLoads, h]

theorem copStores_abort {priv : Bool} {first a : Word} {more : List Word} {s t : State}
    (h : dataWrite s a .word first priv false = .abort t) :
    copStores priv (acceptedWords first more) a s = .aborted t := by
  rw [acceptedWords, copStores, h]

end Sys2Proof.Machine

namespace Sys2Proof.Claims

open Sys2Proof.Machine

/-! The instructions. -/

/-- No guard stops a word or byte transfer with operands that are allowed. -/
theorem WordForm.guards_pass {form : WordForm} {noPc : Bool} {rd : RegNum} {s : State} {body : Result} (ok : form.ok rd)
    (hrd : noPc = true → rd ≠ 15#4) :
    guardPc (form.forbids noPc rd) (guardBase (form.addressing s) form.base rd body) = body := by
  have hoffset : ¬ form.offset15 := by
    cases form with
    | immPre | immPost | immUser => exact id
    | regPre | regPost | regUser => exact ok.1
  have hpass : form.forbids noPc rd = false :=
    Bool.eq_false_iff.mpr (mt (form.forbids_iff noPc rd).mp (not_or.mpr ⟨hoffset, fun h => hrd h.1 h.2⟩))
  rw [guardPc_pass hpass, guardBase_pass (WordForm.ok.base ok)]

/-- A word or byte load that no restriction stops (42 R398, R399, R402, R403). -/
theorem exec_loadInstr_ok {form : WordForm} {cond : Cond} {byte : Bool} {rd : RegNum} {s : State}
    (hc : condPassed cond s.cpsr = true) (ok : form.ok rd) (hrd : (byte = true ∨ form.user = true) → rd ≠ 15#4) :
    exec (loadInstr cond rd byte form) s =
      loadSingle (byteOrWord byte) false (form.priv s) (form.addressing s) form.base rd s :=
  (exec_loadInstr form byte rd hc).trans (WordForm.guards_pass ok fun h => hrd ((Bool.or_eq_true ..).mp h))

/-- A word or byte store that no restriction stops (42 R400, R401, R404, R405). -/
theorem exec_storeInstr_ok {form : WordForm} {cond : Cond} {byte : Bool} {rd : RegNum} {s : State}
    (hc : condPassed cond s.cpsr = true) (ok : form.ok rd) (hrd : byte = true → rd ≠ 15#4) :
    exec (storeInstr cond rd byte form) s = storeSingle (byteOrWord byte) (form.priv s) (form.addressing s) form.base
      (if rd = 15#4 then s.pc + 12#32 else s.reg rd) s := by
  rw [← regLate_eq]
  exact (exec_storeInstr form byte rd hc).trans (WordForm.guards_pass ok hrd)

/-- A halfword or signed load that no restriction stops (42 R407 to R409). -/
theorem exec_halfLoad_ok {op : HalfLoad} {form : HalfForm} {cond : Cond} {rd : RegNum} {s : State}
    (hc : condPassed cond s.cpsr = true) (ok : form.ok rd) (hrd : rd ≠ 15#4) :
    exec (op.instr cond rd form) s = loadSingle op.size op.signed s.privileged (form.addressing s) form.base rd s :=
  (exec_halfLoad op form rd hc).trans (HalfForm.guarded_pass ok hrd)

/-- A halfword store that no restriction stops (42 R410). -/
theorem exec_strhInstr_ok {form : HalfForm} {cond : Cond} {rd : RegNum} {s : State} (hc : condPassed cond s.cpsr = true)
    (ok : form.ok rd) (hrd : rd ≠ 15#4) :
    exec (strhInstr cond rd form) s = storeSingle .half s.privileged (form.addressing s) form.base (s.reg rd) s := by
  rw [exec_strhInstr form rd hc, HalfForm.guarded_pass ok hrd, regLate_eq, if_neg hrd]

/-- SWP and SWPB that no restriction stops (42 R420, R421). -/
theorem exec_swap_ok {cond : Cond} {rn rd rm : RegNum} {s : State} (byte : Bool) (hc : condPassed cond s.cpsr = true)
    (hn : rn ≠ 15#4) (hd : rd ≠ 15#4) (hm : rm ≠ 15#4) (hnd : rn ≠ rd) (hnm : rn ≠ rm) :
    exec (if byte then .swpb cond rn rd rm else .swp cond rn rd rm) s = swapWith (byteOrWord byte) rn rd rm s := by
  cases byte with
  | false | true => exact (conditionally_pass hc).trans (guardSwap_pass hn hd hm hnd hnm)

/-- A Thumb load is a load at its address (45 R511 to R527). -/
theorem exec_thumbLoads {ro rb rd : LowReg} {imm5 : BitVec 5} {word8 : BitVec 8} {s : State} {p : Instr × Word × Size}
    (h : p ∈ thumbLoads ro rb rd imm5 word8 s) : ∃ signed : Bool, exec p.1 s = thumbLoad p.2.2 signed p.2.1 rd s := by
  simp only [thumbLoads, List.mem_cons, List.not_mem_nil, or_false, ← wordOffset_eq word8 (by decide),
    ← wordOffset_eq imm5 (by decide), ← halfOffset_eq, BitVec.ofNat_toNat] at h
  rcases h with rfl | rfl | rfl | rfl | rfl | rfl | rfl | rfl | rfl | rfl <;> exact ⟨_, rfl⟩

/-- A Thumb store is a store at its address. -/
theorem exec_thumbStores {ro rb rd : LowReg} {imm5 : BitVec 5} {word8 : BitVec 8} {s : State} {p : Instr × Word × Size}
    (h : p ∈ thumbStores ro rb rd imm5 word8 s) : exec p.1 s = thumbStore p.2.2 p.2.1 rd s := by
  simp only [thumbStores, List.mem_cons, List.not_mem_nil, or_false, ← wordOffset_eq word8 (by decide),
    ← wordOffset_eq imm5 (by decide), ← halfOffset_eq, BitVec.ofNat_toNat] at h
  rcases h with rfl | rfl | rfl | rfl | rfl | rfl | rfl <;> rfl

/-- An LDC that its coprocessor accepts (43 R447). -/
theorem exec_ldc_accept {cond : Cond} {p u n w : Bool} {rn : RegNum} {crd cp : BitVec 4} {off8 : BitVec 8} {s : State}
    {first : Word} {more : List Word} (hc : condPassed cond s.cpsr = true)
    (hcp : cp = 4#4 ∨ cp = 5#4 ∨ cp = 6#4 ∨ cp = 7#4) (h : copResponse s.copros cp s.sampledTrans = .accept first more)
    (hbase : rn = 15#4 → p = true ∧ w = false) :
    exec (.ldc cond p u n w rn crd cp off8) s = copFinish (copAddressing p u w rn off8 s) rn
      (copLoads cp s.privileged (acceptedWords first more) (copAddressing p u w rn off8 s).addr
        { s with copros := copAnswered s.copros cp }) :=
  (conditionally_pass hc).trans ((withCoprocessor_accept _ hcp h).trans (guardPc_pass (copAddressing_base hbase)))

/-- An STC that its coprocessor accepts (43 R448). -/
theorem exec_stc_accept {cond : Cond} {p u n w : Bool} {rn : RegNum} {crd cp : BitVec 4} {off8 : BitVec 8} {s : State}
    {first : Word} {more : List Word} (hc : condPassed cond s.cpsr = true)
    (hcp : cp = 4#4 ∨ cp = 5#4 ∨ cp = 6#4 ∨ cp = 7#4) (h : copResponse s.copros cp s.sampledTrans = .accept first more)
    (hbase : rn = 15#4 → p = true ∧ w = false) :
    exec (.stc cond p u n w rn crd cp off8) s = copFinish (copAddressing p u w rn off8 s) rn
      (copStores s.privileged (acceptedWords first more) (copAddressing p u w rn off8 s).addr
        { s with copros := copAnswered s.copros cp }) :=
  (conditionally_pass hc).trans ((withCoprocessor_accept _ hcp h).trans (guardPc_pass (copAddressing_base hbase)))

/-! The statements. -/

/-- What a word or byte load writes. -/
theorem loadValue_byteOrWord (byte : Bool) (s : State) (a : Word) :
    loadValue (byteOrWord byte) false a (readValue s a (byteOrWord byte)) =
      if byte then readValue s a .byte else (readValue s a .word).rotateRight (8 * (a.toNat % 4)) := by
  cases byte with
  | false => exact wordValue_eq a _
  | true => rfl

/-- What a halfword or signed load writes (42 R407 to R409). -/
theorem loadValue_halfLoad (op : HalfLoad) (a v : Word) : loadValue op.size op.signed a v = op.value v := by
  cases op with
  | ldrh | ldrsb | ldrsh => rfl

/-- A result that goes to r15 is a branch. -/
theorem writeResult_eq (s : State) (r : RegNum) (v : Word) :
    s.writeResult r v = if r = 15#4 then s.branchTo v else (s.setReg r v).advance := rfl

/-- Settles O22: a ready access completes (`dataRead_quiet`, `dataWrite_quiet`), with the base written back before Rd. -/
theorem singleTransfers : Obligations.SingleTransfers := by
  refine ⟨?load, ?store⟩
  case load =>
    rintro form cond byte rd s v hc ok hrd q ready rfl
    rw [exec_loadInstr_ok hc ok hrd, loadSingle_done (dataRead_quiet _ _ q ready), loadValue_byteOrWord, writeResult_eq]
  case store =>
    intro form cond byte rd s hc ok hrd q ready
    rw [exec_storeInstr_ok hc ok hrd, storeSingle_done (dataWrite_quiet _ _ _ q ready)]

/-- Settles O23, as O22. -/
theorem halfwordAndSignedTransfers : Obligations.HalfwordAndSignedTransfers := by
  refine ⟨?load, ?store⟩
  case load =>
    intro op form cond rd s hc ok hrd q ready
    rw [exec_halfLoad_ok hc ok hrd, loadSingle_done (dataRead_quiet _ _ q ready), loadValue_halfLoad, writeResult_eq,
      if_neg hrd]
  case store =>
    intro form cond rd s hc ok hrd q ready
    rw [exec_strhInstr_ok hc ok hrd, storeSingle_done (dataWrite_quiet _ _ _ q ready)]

/-- The two accesses of a swap complete: the read leaves the address ready for the write. -/
theorem swapWith_quiet {size : Size} {rn : RegNum} (rd rm : RegNum) {s : State} (q : Quiet s) (ready : Ready s (s.reg rn) size) :
    swapWith size rn rd rm s =
      .next ((afterWrite (afterRead s (s.reg rn) size s.privileged true) (s.reg rn) size (s.reg rm) s.privileged true).setReg rd
        (loadValue size false (s.reg rn) (readValue s (s.reg rn) size))).advance := by
  have hstep := afterRead_step s (s.reg rn) size s.privileged true
  exact swapWith_done (dataRead_quiet _ _ q ready) (dataWrite_quiet _ _ _ (q.step hstep) (ready.step hstep))

/-- Settles O31: both accesses complete (`swapWith_quiet`). -/
theorem swapReadsThenWrites : Obligations.SwapReadsThenWrites := by
  intro cond rn rd rm s hc hn hd hm hnd hnm q
  have hexec := fun byte => exec_swap_ok byte hc hn hd hm hnd hnm
  refine ⟨fun ready => (hexec false).trans ?word, fun ready => (hexec true).trans ?byte⟩
  case word =>
    rw [← wordValue_eq]
    exact swapWith_quiet rd rm q ready
  case byte => exact swapWith_quiet rd rm q ready

/-- Settles O27: each meaning ends in the data abort where its access does (`loadSingle_abort`, `storeSingle_abort`,
`swapWith_readAbort`, `swapWith_writeAbort`, `copLoads_abort`, `copStores_abort`). -/
theorem abortedTransfersTakeTheDataAbort : Obligations.AbortedTransfersTakeTheDataAbort := by
  refine ⟨?single, ?half, ?thumb, ?swap, ?coprocessor⟩
  case single =>
    intro form cond byte rd s t hc ok
    exact ⟨fun hrd h => (exec_loadInstr_ok hc ok hrd).trans (loadSingle_abort h),
      fun hrd h => (exec_storeInstr_ok hc ok hrd).trans (storeSingle_abort h)⟩
  case half =>
    intro op form cond rd s t hc ok hrd
    exact ⟨fun h => (exec_halfLoad_ok hc ok hrd).trans (loadSingle_abort h),
      fun h => (exec_strhInstr_ok hc ok hrd).trans (storeSingle_abort h)⟩
  case thumb =>
    intro ro rb rd imm5 word8 s t p
    refine ⟨fun hp h => ?_, fun hp h => (exec_thumbStores hp).trans (thumbStore_abort h)⟩
    obtain ⟨signed, hexec⟩ := exec_thumbLoads hp
    exact hexec.trans (thumbLoad_abort h)
  case swap =>
    intro cond rn rd rm byte s t u v hc hn hd hm hnd hnm
    rw [exec_swap_ok byte hc hn hd hm hnd hnm]
    exact ⟨swapWith_readAbort, swapWith_writeAbort⟩
  case coprocessor =>
    intro cond p u n w rn crd cp off8 s t first more hc hcp haccept hbase
    rw [exec_ldc_accept hc hcp haccept hbase, exec_stc_accept hc hcp haccept hbase]
    exact ⟨fun h => by rw [copLoads_abort h]; rfl, fun h => by rw [copStores_abort h]; rfl⟩

end Sys2Proof.Claims
end

section
/-! PROOFS. Block transfers that complete: what a ready access leaves beside memory and the general registers. -/

namespace Sys2Proof.Machine

/-- Updating the cache changes the cache only. -/
theorem updateCache_changes (s : State) (mva : Word) (size : Size) (v : Word) :
    ∃ c : Cache, s.updateCache mva size v = { s with cache := c } :=
  foldl_relates (R := fun s t => ∃ c : Cache, t = { s with cache := c }) (fun s => ⟨s.cache, rfl⟩)
    (fun _ _ _ ⟨_, h⟩ ⟨c, k⟩ => ⟨c, by rw [k, h]⟩) (fun _ _ => ⟨_, rfl⟩) s _

end Sys2Proof.Machine

namespace Sys2Proof.Claims

open Sys2Proof.Machine

/-- A read that completes at once changes the write buffer, memory, the bus, and what the comparators and the outputs show. -/
theorem afterRead_changes (s : State) (a : Word) (size : Size) (priv lock : Bool) : ∃ w m b x i tr,
    afterRead s a size priv lock =
      { s with writeBuffer := w, mem := m, bus := b, masters := x, ice := i, trace := tr } := by
  unfold afterRead
  generalize dataObserved a (readWord s a) size false priv = o
  generalize BusTransfer.mk _ _ _ _ _ _ _ _ _ = x
  obtain ⟨w, m, b, ms, hdrain⟩ := drainAll_changes s
  obtain ⟨i, tr, hobserve⟩ := observe_changes (s.drainAll.onBus x) o
  rw [hobserve, hdrain]
  exact ⟨w, _, _, _, i, tr, rfl⟩

/-- A write that does changes the cache too. -/
theorem afterWrite_changes (s : State) (a : Word) (size : Size) (v : Word) (priv lock : Bool) : ∃ c w m b x i tr,
    afterWrite s a size v priv lock =
      { s with cache := c, writeBuffer := w, mem := m, bus := b, masters := x, ice := i, trace := tr } := by
  unfold afterWrite
  obtain ⟨c, hcache⟩ := updateCache_changes s (s.relocate a) size (replicateLanes size v)
  rw [hcache]
  obtain ⟨w, m, b, x, hdrain⟩ := drainAll_changes { s with cache := c }
  rw [hdrain]
  generalize BufferedWrite.mk _ _ _ _ _ = e
  obtain ⟨m', b', x', hwrite⟩ :=
    busWrite_changes { s with cache := c, writeBuffer := w, mem := m, bus := b, masters := x } e lock
  rw [hwrite]
  obtain ⟨i, tr, hobserve⟩ := observe_changes
    { s with cache := c, writeBuffer := w, mem := m', bus := b', masters := x' }
    (dataObserved a (replicateLanes size v) size true priv)
  exact ⟨c, w, m', b', x', i, tr, hobserve⟩

/-- What the transfers of a block leave when each completes at once. -/
structure Undisturbed (s t : State) : Prop where
  step : BlockStep s t
  cp15 : t.cp15 = s.cp15
  tlb : t.tlb = s.tlb
  draws : t.draws = s.draws

theorem Undisturbed.refl (s : State) : Undisturbed s s := ⟨.refl s, rfl, rfl, rfl⟩

theorem Undisturbed.trans {s t u : State} (h : Undisturbed s t) (k : Undisturbed t u) : Undisturbed s u :=
  ⟨h.step.trans k.step, k.cp15.trans h.cp15, k.tlb.trans h.tlb, k.draws.trans h.draws⟩

theorem afterRead_undisturbed (s : State) (a : Word) (size : Size) (priv lock : Bool) :
    Undisturbed s (afterRead s a size priv lock) := by
  have hstep := afterRead_step s a size priv lock
  obtain ⟨w, m, b, x, i, tr, h⟩ := afterRead_changes s a size priv lock
  rw [h] at hstep ⊢
  exact ⟨.of_memory hstep, rfl, rfl, rfl⟩

theorem afterWrite_undisturbed (s : State) (a : Word) (size : Size) (v : Word) (priv lock : Bool) :
    Undisturbed s (afterWrite s a size v priv lock) := by
  have hstep := afterWrite_step s a size v priv lock
  obtain ⟨c, w, m, b, x, i, tr, h⟩ := afterWrite_changes s a size v priv lock
  rw [h] at hstep ⊢
  exact ⟨.of_memory hstep, rfl, rfl, rfl⟩

theorem afterRead_cache (s : State) (a : Word) (size : Size) (priv lock : Bool) :
    (afterRead s a size priv lock).cache = s.cache := by
  obtain ⟨w, m, b, x, i, tr, h⟩ := afterRead_changes s a size priv lock
  rw [h]

theorem basedBy_undisturbed (s : State) (w : Bool) (rn : RegNum) (after : Word) :
    Undisturbed s (s.basedBy w rn after) := by
  refine ⟨basedBy_blockStep s w rn after, basedBy_cp15 s w rn after, ?_, ?_⟩ <;> cases w <;> rfl

theorem otherParts_blockStep {s t : State} (h : BlockStep s t) : otherParts t = otherParts s := by
  obtain ⟨u, g, hu, rfl⟩ := h
  have k := congrArg (fun x : State => otherParts x) hu.fixed
  exact k

theorem BlockReady.blockStep {s t : State} {a : Word} {n : Nat} (h : BlockReady s a n) (k : BlockStep s t) :
    BlockReady t a n := fun j hj => (h j hj).blockStep k

/-- The words of a block after the first. -/
theorem BlockReady.tail {s : State} {a : Word} {n : Nat} (h : BlockReady s a (n + 1)) : BlockReady s (a + 4#32) n :=
  fun k hk => by
    rw [blockAddress_succ]
    exact h (k + 1) (Nat.succ_lt_succ hk)

/-- The first word of a block. -/
theorem BlockReady.head {s : State} {a : Word} {n : Nat} (h : BlockReady s a (n + 1)) : Ready s a .word := by
  have hfirst := h 0 (Nat.succ_pos n)
  rwa [blockAddress_zero] at hfirst

end Sys2Proof.Claims
end

section
/-! PROOFS. LDM in every form, POP and LDMIA with the MMU off (42 R411, R412, R414, R416; 45 R529, R531). -/

namespace Sys2Proof.Machine

/-! Lists of registers. -/

theorem mem_regList_iff {regs : BitVec 16} {r : RegNum} : r ∈ regList regs ↔ regs.getLsbD r.toNat = true := by
  refine ⟨fun h => ?_, fun h => ?_⟩
  · obtain ⟨k, hk, rfl⟩ := List.mem_map.mp h
    obtain ⟨hrange, hbit⟩ := List.mem_filter.mp hk
    rwa [BitVec.toNat_ofNat, Nat.mod_eq_of_lt (List.mem_range.mp hrange)]
  · have hr := mem_regList h
    rwa [BitVec.ofNat_toNat, BitVec.setWidth_eq] at hr

/-- The list of a User bank load has no r15. -/
theorem fifteen_not_mem_userList (regs : BitVec 15) : 15#4 ∉ regList (0#1 ++ regs) := by
  rw [mem_regList_iff, append_bit_high _ _ _ (by decide)]
  exact Bool.false_ne_true

/-- The list of a load that restores the CPSR has it. -/
theorem fifteen_mem_restoreList (regs : BitVec 15) : 15#4 ∈ regList (1#1 ++ regs) := by
  rw [mem_regList_iff, append_bit_high _ _ _ (by decide)]
  rfl

/-- r15 is the last register of a list. -/
theorem getElem?_last_of_fifteen_mem {regs : List RegNum} (ascends : regs.Pairwise (· < ·)) (h : 15#4 ∈ regs) :
    regs[regs.length - 1]? = some 15#4 := by
  obtain ⟨k, hk, hr⟩ := List.getElem_of_mem h
  have hlast : k = regs.length - 1 := by
    by_contra hne
    exact ne_fifteen_of_lt
      (List.pairwise_iff_getElem.mp ascends k (regs.length - 1) hk (by omega) (by omega)) hr
  rw [← hlast]
  exact List.getElem?_eq_some_iff.mpr ⟨hk, hr⟩

/-! One transfer. -/

/-- A loaded word that is not for the PC goes to its register. -/
def loadedReg (user : Bool) (s : State) (r : RegNum) (v : Word) : State := if r = 15#4 then s else blockLoadReg user s r v

theorem loadWords_done {user priv : Bool} {r : RegNum} {rest : List RegNum} {a v : Word} {s u : State} {pc : Option Word}
    (h : dataRead s a .word priv false = .done v u) :
    loadWords user priv (r :: rest) a { state := s, aborted := false, pcValue := pc } =
      loadWords user priv rest (a + 4#32)
        { state := loadedReg user u r v, aborted := false, pcValue := if r = 15#4 then some v else pc } := by
  rw [loadWords, h]
  dsimp only
  rw [if_neg Bool.false_ne_true, loadedReg]
  split <;> rfl

theorem loadedReg_getElem (user : Bool) (s : State) (r : RegNum) (v : Word) (i : Fin 30) :
    (loadedReg user s r v).gpr[i] = if r ≠ 15#4 ∧ blockPlace user s.cpsr.m r = i then v else s.gpr[i] := by
  unfold loadedReg
  split
  next h => exact (if_neg fun hr => hr.1 h).symm
  next h =>
    rw [blockLoadReg_getElem]
    exact if_congr (iff_and_self.mpr fun _ => h) rfl rfl

theorem loadedReg_changes (user : Bool) (s : State) (r : RegNum) (v : Word) :
    ∃ g : Vector Word 30, loadedReg user s r v = { s with gpr := g } := by
  unfold loadedReg
  split
  · exact ⟨s.gpr, rfl⟩
  · exact ⟨_, blockLoadReg_eq user s r v⟩

end Sys2Proof.Machine

namespace Sys2Proof.Claims

open Sys2Proof.Machine

/-- What the loads of a block leave beside the registers. -/
structure OnlyRead (s t : State) : Prop where
  undisturbed : Undisturbed s t
  settled : Settled s t
  cache : t.cache = s.cache

theorem OnlyRead.refl (s : State) : OnlyRead s s := ⟨.refl s, .refl s, rfl⟩

theorem OnlyRead.trans {s t u : State} (h : OnlyRead s t) (k : OnlyRead t u) : OnlyRead s u :=
  ⟨h.undisturbed.trans k.undisturbed, h.settled.trans k.settled, k.cache.trans h.cache⟩

/-- Writing general registers is no part of it. -/
theorem OnlyRead.of_gpr {s t : State} (h : ∃ g : Vector Word 30, t = { s with gpr := g }) : OnlyRead s t := by
  obtain ⟨g, rfl⟩ := h
  exact ⟨⟨(BlockStep.refl s).setGpr g, rfl, rfl, rfl⟩, .of_eq rfl rfl rfl rfl, rfl⟩

theorem afterRead_onlyRead (s : State) (a : Word) (size : Size) (priv lock : Bool) :
    OnlyRead s (afterRead s a size priv lock) :=
  ⟨afterRead_undisturbed s a size priv lock, afterRead_settled s a size priv lock, afterRead_cache s a size priv lock⟩

/-- The registers of a list but r15 hold the values, the others what they held. -/
structure WordsLoaded (user : Bool) (m : BitVec 5) (regs : List RegNum) (value : Nat → Word) (s t : State) : Prop where
  loaded : ∀ (k : Nat) (r : RegNum), regs[k]? = some r → r ≠ 15#4 → t.gpr[blockPlace user m r] = value k
  others : ∀ i : Fin 30, (∀ r ∈ regs, r ≠ 15#4 → blockPlace user m r ≠ i) → t.gpr[i] = s.gpr[i]

/-- One more register is loaded first. -/
theorem WordsLoaded.cons {user : Bool} {m : BitVec 5} {r : RegNum} {rest : List RegNum} {value : Nat → Word} {s u t : State}
    (hr : r ∉ rest)
    (hu : ∀ i : Fin 30, u.gpr[i] = if r ≠ 15#4 ∧ blockPlace user m r = i then value 0 else s.gpr[i])
    (h : WordsLoaded user m rest (fun k => value (k + 1)) u t) : WordsLoaded user m (r :: rest) value s t := by
  refine ⟨fun k x hx h15 => ?_, fun i hi => ?_⟩
  · cases k with
    | zero =>
      obtain rfl := Option.some.inj hx
      rw [h.others _ fun y hy hy15 he => hr (blockPlace_inj hy15 h15 he ▸ hy), hu, if_pos ⟨h15, rfl⟩]
    | succ k => exact h.loaded k x hx h15
  · obtain ⟨hfirst, hrest⟩ := List.forall_mem_cons.mp hi
    rw [h.others i hrest, hu, if_neg fun hwritten => hfirst hwritten.1 hwritten.2]

/-- The word that the transfers of a list load for the PC. -/
structure PcLoaded (regs : List RegNum) (value : Nat → Word) (before after : Option Word) : Prop where
  unlisted : 15#4 ∉ regs → after = before
  listed : ∀ k : Nat, regs[k]? = some 15#4 → after = some (value k)

theorem PcLoaded.cons {r : RegNum} {rest : List RegNum} {value : Nat → Word} {before after : Option Word} (hr : r ∉ rest)
    (h : PcLoaded rest (fun k => value (k + 1)) (if r = 15#4 then some (value 0) else before) after) :
    PcLoaded (r :: rest) value before after := by
  refine ⟨fun h15 => ?_, fun k hk => ?_⟩
  · obtain ⟨hne, hrest⟩ := not_or.mp (mt List.mem_cons.mpr h15)
    rw [h.unlisted hrest, if_neg (Ne.symm hne)]
  · cases k with
    | zero =>
      obtain rfl := Option.some.inj hk
      rw [h.unlisted hr, if_pos rfl]
    | succ k => exact h.listed k hk

/-- The loads of a block whose words are all ready. -/
theorem loadWords_quiet {user : Bool} (priv : Bool) {regs : List RegNum} {a : Word} {s : State} (before : Option Word)
    (ascends : regs.Pairwise (· < ·)) (q : Quiet s) (ready : BlockReady s a regs.length) :
    ∃ (t : State) (after : Option Word),
      loadWords user priv regs a { state := s, aborted := false, pcValue := before } =
        .ok { state := t, aborted := false, pcValue := after } ∧
      OnlyRead s t ∧ WordsLoaded user s.cpsr.m regs (blockWord s a) s t ∧ PcLoaded regs (blockWord s a) before after := by
  induction regs generalizing a s before with
  | nil => exact ⟨s, before, rfl, .refl s, ⟨nofun, fun _ _ => rfl⟩, fun _ => rfl, nofun⟩
  | cons r rest ih =>
    obtain ⟨hlt, hascends⟩ := List.pairwise_cons.mp ascends
    have hr : r ∉ rest := fun h => BitVec.lt_irrefl _ (hlt r h)
    have hdone := dataRead_quiet priv false q ready.head
    have hread := afterRead_onlyRead s a .word priv false
    have hfirst : OnlyRead s (loadedReg user (afterRead s a .word priv false) r (readValue s a .word)) :=
      hread.trans (.of_gpr (loadedReg_changes user _ r _))
    have hstep := hfirst.undisturbed.step
    obtain ⟨t, after, hrun, hrest, hwords, hpc⟩ := ih (a := a + 4#32)
      (if r = 15#4 then some (readValue s a .word) else before) hascends (q.blockStep hstep) (ready.tail.blockStep hstep)
    have hvalue : blockWord (loadedReg user (afterRead s a .word priv false) r (readValue s a .word)) (a + 4#32) =
        fun k => blockWord s a (k + 1) := by
      funext k
      rw [blockWord_settled hfirst.settled q.alone hstep, blockWord_succ]
    have hzero : blockWord s a 0 = readValue s a .word := by rw [blockWord, blockAddress_zero]
    rw [hvalue, hstep.cpsr] at hwords
    rw [hvalue, ← hzero] at hpc
    refine ⟨t, after, (loadWords_done hdone).trans hrun, hfirst.trans hrest, hwords.cons hr fun i => ?_, hpc.cons hr⟩
    rw [loadedReg_getElem, hread.undisturbed.step.cpsr, (afterRead_step s a .word priv false).gpr, hzero]

/-! The whole transfer. -/

theorem WordsLoaded.blockLoaded {user w : Bool} {rn : RegNum} {after start : Word} {regs : List RegNum} {s t : State}
    (h : WordsLoaded user s.cpsr.m regs (blockWord s start) (s.basedBy w rn after) t) (h15 : rn ≠ 15#4)
    (huser : user = true → w = false) (k : OnlyRead s t) (alone : s.masters = []) :
    BlockLoaded (blockPlace user s.cpsr.m) w rn after regs start s t := by
  refine ⟨h.loaded, fun hw hrn => ?_, fun i hi hbase => ?_, k.settled.byte alone, k.undisturbed.cp15,
    ⟨k.cache, k.undisturbed.tlb⟩, otherParts_blockStep k.undisturbed.step⟩
  · obtain rfl : user = false := Bool.eq_false_iff.mpr fun hu => by simp [huser hu] at hw
    rw [h.others _ fun r hr hr15 he => hrn (physIndex_inj hr15 h15 he ▸ hr), basedBy_getElem, if_pos ⟨hw, rfl⟩]
  · rw [h.others i hi, basedBy_getElem, if_neg fun hwritten => hbase hwritten.1 hwritten.2.symm]

/-- The end of an LDM writes the PC, the status, the queue and the slot of 70 R757 only. -/
theorem BlockLoaded.ended {place : RegNum → Fin 30} {w : Bool} {rn : RegNum} {after start : Word} {regs : List RegNum}
    {s t : State} (h : BlockLoaded place w rn after regs start s t) (alone : t.masters = []) (p : Psr) (pc : Word)
    (q : List FetchSlot) (hazard : Bool) : BlockLoaded place w rn after regs start s
      { t with cpsr := p, pc := pc, queue := q, bankHazardNext := hazard } := by
  have kept : Settled t { t with cpsr := p, pc := pc, queue := q, bankHazardNext := hazard } := .of_eq rfl rfl rfl rfl
  obtain ⟨loaded, base, others, memory, cp15, caches, rest⟩ := h
  exact ⟨loaded, base, others, fun a => (kept.byte alone a).trans (memory a), cp15, caches, rest⟩

/-- An LDM whose words are all ready, up to its end. -/
theorem loadBlock_quiet {user : Bool} (restore : Bool) {p u w : Bool} {rn : RegNum} {regs : List RegNum} {s : State}
    (ascends : regs.Pairwise (· < ·)) (h15 : rn ≠ 15#4) (huser : user = true → w = false) (q : Quiet s)
    (ready : BlockReady s (blockStart p u (s.reg rn) regs.length) regs.length) :
    ∃ (t : State) (pc : Option Word) (base : Word),
      loadBlock user restore p u w rn regs s =
        finishLoad user restore rn base { state := t, aborted := false, pcValue := pc } ∧
      BlockStep s t ∧
      BlockLoaded (blockPlace user s.cpsr.m) w rn (blockEnd u (s.reg rn) regs.length) regs
        (blockStart p u (s.reg rn) regs.length) s t ∧
      PcLoaded regs (blockWord s (blockStart p u (s.reg rn) regs.length)) none pc := by
  generalize hstart : blockStart p u (s.reg rn) regs.length = start at ready ⊢
  generalize hafter : blockEnd u (s.reg rn) regs.length = after
  have hbased : OnlyRead s (s.basedBy w rn after) := .of_gpr (by cases w <;> exact ⟨_, rfl⟩)
  have hstep := hbased.undisturbed.step
  obtain ⟨t, pc, hrun, hread, hwords, hpc⟩ := loadWords_quiet (user := user) s.privileged none ascends (q.blockStep hstep)
    (ready.blockStep hstep)
  have hvalue : blockWord (s.basedBy w rn after) start = blockWord s start :=
    funext (blockWord_settled hbased.settled q.alone hstep start)
  rw [hvalue, hstep.cpsr] at hwords
  rw [hvalue] at hpc
  refine ⟨t, pc, if w then after else s.gpr[physIndex s.cpsr.m rn], ?_, (hbased.trans hread).undisturbed.step,
    hwords.blockLoaded h15 huser (hbased.trans hread) q.alone, hpc⟩
  unfold loadBlock
  dsimp only
  rw [hstart, hafter, ← State.basedBy, hrun]

/-- An LDM of the current mode's registers (42 R412). -/
theorem loadBlock_completes {p u w : Bool} {rn : RegNum} {regs : List RegNum} {s : State} (ascends : regs.Pairwise (· < ·))
    (h15 : rn ≠ 15#4) (q : Quiet s) (ready : BlockReady s (blockStart p u (s.reg rn) regs.length) regs.length) :
    ∃ t : State, loadBlock false false p u w rn regs s = .next t ∧
      BlockLoaded (physIndex s.cpsr.m) w rn (blockEnd u (s.reg rn) regs.length) regs
        (blockStart p u (s.reg rn) regs.length) s t ∧
      t.cpsr = s.cpsr ∧
      (15#4 ∉ regs → t.pc = s.pc + s.instrBytes) ∧
      (∀ k : Nat, regs[k]? = some 15#4 →
        t.pc = alignPc s.cpsr.t (blockWord s (blockStart p u (s.reg rn) regs.length) k)) := by
  obtain ⟨t, pc, base, hrun, hstep, hloaded, hpc⟩ := loadBlock_quiet (user := false) false ascends h15 nofun q ready
  have hcpsr := hstep.cpsr
  cases pc with
  | none =>
    refine ⟨t.advance, hrun, hloaded.ended (hstep.alone q.alone) _ _ _ _, hcpsr, fun _ => ?_, fun k hk => ?_⟩
    · rw [← hstep.pc, State.instrBytes, ← hcpsr]
      rfl
    · cases hpc.listed k hk
  | some v =>
    refine ⟨t.branchTo v, hrun, hloaded.ended (hstep.alone q.alone) _ _ _ _, hcpsr, fun hk => ?_, fun k hk => ?_⟩
    · cases hpc.unlisted hk
    · obtain rfl := Option.some.inj (hpc.listed k hk)
      rw [← hcpsr]
      rfl

/-- An LDM whose meaning is the block load. -/
theorem loadsBlock_of {i : Instr} {p u w : Bool} {rn : RegNum} {regs : List RegNum} (ascends : regs.Pairwise (· < ·))
    (hi : ∀ s : State, rn ≠ 15#4 → regs ≠ [] → exec i s = loadBlock false false p u w rn regs s) :
    LoadsBlock i p u w rn regs := by
  intro s h15 hne q ready
  rw [hi s h15 hne]
  exact loadBlock_completes ascends h15 q ready

/-- An LDM of the User bank (42 R414). -/
theorem loadBlock_user_completes {p u : Bool} {rn : RegNum} {regs : List RegNum} {s : State}
    (ascends : regs.Pairwise (· < ·)) (h15 : rn ≠ 15#4) (hpc : 15#4 ∉ regs) (q : Quiet s)
    (ready : BlockReady s (blockStart p u (s.reg rn) regs.length) regs.length) :
    ∃ t : State, loadBlock true false p u false rn regs s = .next t ∧
      BlockLoaded userIndex false rn 0#32 regs (blockStart p u (s.reg rn) regs.length) s t ∧
      t.cpsr = s.cpsr ∧ t.pc = s.pc + s.instrBytes := by
  obtain ⟨t, pc, base, hrun, hstep, hloaded, hnone⟩ :=
    loadBlock_quiet (user := true) (w := false) false ascends h15 (fun _ => rfl) q ready
  obtain rfl := hnone.unlisted hpc
  have hended := hloaded.ended (hstep.alone q.alone) t.cpsr (t.pc + t.instrBytes) t.queue.tail true
  refine ⟨(t.leaveHazard true).advance, hrun, { hended with base := nofun }, hstep.cpsr, ?_⟩
  rw [← hstep.pc, State.instrBytes, ← hstep.cpsr]
  rfl

/-- An LDM with r15 and the SPSR (42 R416). -/
theorem loadBlock_restore_completes {p u w : Bool} {rn : RegNum} {regs : List RegNum} {s : State} {psr : Psr}
    (ascends : regs.Pairwise (· < ·)) (h15 : rn ≠ 15#4) (hpc : 15#4 ∈ regs) (hpsr : s.spsrOf s.cpsr.m = some psr)
    (q : Quiet s) (ready : BlockReady s (blockStart p u (s.reg rn) regs.length) regs.length) :
    ∃ t : State, loadBlock false true p u w rn regs s = .next t ∧
      BlockLoaded (physIndex s.cpsr.m) w rn (blockEnd u (s.reg rn) regs.length) regs
        (blockStart p u (s.reg rn) regs.length) s t ∧
      t.cpsr = psr ∧
      t.pc = alignPc psr.t (blockWord s (blockStart p u (s.reg rn) regs.length) (regs.length - 1)) := by
  obtain ⟨t, pc, base, hrun, hstep, hloaded, hsome⟩ := loadBlock_quiet (user := false) (w := w) true ascends h15 nofun q
    ready
  obtain rfl := hsome.listed _ (getElem?_last_of_fifteen_mem ascends hpc)
  have hspsr : t.spsrOf t.cpsr.m = some psr := by
    rw [hstep.cpsr, ← hpsr]
    have hrest := congrArg (fun x : State => x.spsrOf s.cpsr.m) hloaded.rest
    exact hrest
  generalize blockWord s (blockStart p u (s.reg rn) regs.length) (regs.length - 1) = v at hrun
  have hreturn : t.exceptionReturn v = .next { t with cpsr := psr, pc := alignPc psr.t v, queue := [] } := by
    rw [State.exceptionReturn, hspsr]
  exact ⟨_, hrun.trans hreturn, hloaded.ended (hstep.alone q.alone) psr (alignPc psr.t v) [] t.bankHazardNext, rfl, rfl⟩

/-- Settles O28: the loads of a block run to their end (`loadWords_quiet`), which writes the PC and, with r15 and the SPSR, the
CPSR. -/
theorem loadMultiple : Obligations.LoadMultiple := by
  refine ⟨?ldm, fun r regs => ?pop, fun rb regs => ?ldmia, ?user, ?restore⟩
  case ldm =>
    intro cond p u w rn regs s hc h15 hne q ready
    have hexec : exec (.ldm cond p u w rn regs) s = loadBlock false false p u w rn (regList regs) s :=
      (conditionally_pass hc).trans (guardBlock_pass h15 hne)
    rw [hexec]
    exact loadBlock_completes (regList_ascends _) h15 q ready
  case pop => exact loadsBlock_of (regList_ascends _) fun s h15 hne => guardBlock_pass h15 hne
  case ldmia => exact loadsBlock_of (regList_ascends _) fun s h15 hne => guardBlock_pass h15 hne
  case user =>
    intro cond p u rn regs s hc h15 hne husr hsys q ready
    have hexec : exec (.ldmUser cond p u false rn regs) s = loadBlock true false p u false rn (regList (0#1 ++ regs)) s :=
      (conditionally_pass hc).trans ((guardBlock_pass h15 (userList_ne_nil hne)).trans
        ((guardClash_pass rfl).trans (guardUserBank_pass husr hsys)))
    rw [hexec]
    exact loadBlock_user_completes (regList_ascends _) h15 (fifteen_not_mem_userList regs) q ready
  case restore =>
    intro cond p u w rn regs s psr hc h15 hpsr q ready
    have hexec : exec (.ldmRestore cond p u w rn regs) s = loadBlock false true p u w rn (regList (1#1 ++ regs)) s :=
      (conditionally_pass hc).trans ((guardBlock_pass h15 (restoreList_ne_nil regs)).trans
        (guardSpsr_pass (by rw [hpsr]; exact Option.some_ne_none psr)))
    rw [hexec]
    exact loadBlock_restore_completes (regList_ascends _) h15 (fifteen_mem_restoreList regs) hpsr q ready

end Sys2Proof.Claims
end

section
/-! PROOFS. STM in every form, PUSH and STMIA with the MMU off (42 R411, R413, R415; 45 R528, R530). -/

namespace Sys2Proof.Machine

/-- The value an STM stores depends on the registers, the PC, CPSR, and in the slot of log 37 on the free values. -/
theorem blockStoreValue_registers {user : Bool} {s t : State} (hgpr : t.gpr = s.gpr) (hpc : t.pc = s.pc)
    (hcpsr : t.cpsr = s.cpsr) (hazard : t.bankHazard = s.bankHazard) (hdraws : t.draws = s.draws) (r : RegNum) :
    blockStoreValue user t r = blockStoreValue user s r := by
  have hread : ∀ k : Fin 30, t.readPhys k = s.readPhys k := fun k => by
    simp only [State.readPhys, hgpr, hazard, hdraws]
  simp only [blockStoreValue, State.regLate, State.regOr, hread, hpc, hcpsr]

end Sys2Proof.Machine

namespace Sys2Proof.Claims

open Sys2Proof.Machine

/-- The base is the one register that a transfer and the write-back change. -/
theorem basedBy_gpr {s u : State} (w : Bool) (rn : RegNum) (after : Word) (h : MemoryStep s u) :
    (u.basedBy w rn after).gpr = (s.basedBy w rn after).gpr := by
  cases w
  · exact h.gpr
  · show u.gpr.set _ _ = s.gpr.set _ _
    simp only [h.gpr, h.cpsr]

/-- After the first transfer of an STM the values stored are those of its state, in the slot of log 37 too. -/
theorem storedAt_afterWrite {user w : Bool} {rn : RegNum} {after : Word} {s u : State} (h : MemoryStep s u)
    (hdraws : u.draws = s.draws) (r : RegNum) (rest : List RegNum) (k : Nat) :
    storedAt user false rn after (u.basedBy w rn after) rest k = storedAt user w rn after s (r :: rest) (k + 1) := by
  have hs := basedBy_undisturbed s w rn after
  have hu := basedBy_undisturbed u w rn after
  unfold storedAt
  rw [show (w && k + 1 != 0) = w by cases w <;> rfl]
  exact blockStoreValue_registers (basedBy_gpr w rn after h) ((hu.step.pc.trans h.pc).trans hs.step.pc.symm)
    ((hu.step.cpsr.trans h.cpsr).trans hs.step.cpsr.symm) ((hu.step.hazard.trans h.hazard).trans hs.step.hazard.symm)
    ((hu.draws.trans hdraws).trans hs.draws.symm) _

/-- The value stored for a register. With write-back the slot of log 37 is left out. -/
theorem storedAt_eq {user w : Bool} {rn : RegNum} {after : Word} {s : State} (regs : List RegNum) (k : Nat)
    (h15 : rn ≠ 15#4) (huser : user = true → w = false) (hazard : w = true → s.bankHazard = false) :
    storedAt user w rn after s regs k = blockStored user w rn after s k (regs.getD k 0#4) := by
  cases w with
  | true =>
    obtain rfl : user = false := Bool.eq_false_iff.mpr fun hu => by cases huser hu
    exact storedAt_eq_blockStored after regs k h15 (hazard rfl)
  | false =>
    show blockStoreValue user s _ = _
    cases user <;> simp only [blockStoreValue, blockStored, State.regLate, State.regOr, Bool.false_eq_true, false_and,
      if_false, if_true]

/-- The stores of a block whose words are all ready. -/
theorem storeWords_quiet (user priv : Bool) {w : Bool} (rn : RegNum) (after : Word) {regs : List RegNum} {a : Word}
    {s : State} (hlen : regs.length ≤ 16) (hne : w = true → regs ≠ []) (q : Quiet s) (hw : cellsWf s.mem = true)
    (ready : BlockReady s a regs.length) :
    ∃ t : State,
      storeWords user priv rn (if w then some after else none) regs a { state := s, aborted := false, pcValue := none } =
        .ok { state := t, aborted := false, pcValue := none } ∧
      Undisturbed s t ∧ t.gpr = (s.basedBy w rn after).gpr ∧
      ReadyStored regs.length (storedAt user w rn after s regs) a s t := by
  induction regs generalizing a s w with
  | nil =>
    obtain rfl : w = false := Bool.eq_false_iff.mpr fun h => hne h rfl
    exact ⟨s, rfl, .refl s, rfl, ⟨fun k hk => absurd hk (Nat.not_lt_zero k), fun _ _ => rfl⟩⟩
  | cons r rest ih =>
    have hdone := dataWrite_quiet (blockStoreValue user s r) priv false q ready.head
    have hwrite := afterWrite_step s a .word (blockStoreValue user s r) priv false
    have hundisturbed := afterWrite_undisturbed s a .word (blockStoreValue user s r) priv false
    have hstored : WordTransferred a (blockStoreValue user s r) s
        (afterWrite s a .word (blockStoreValue user s r) priv false) :=
      ⟨fun hr => afterWrite_stores _ _ _ hw q.alone hr.ram, fun hn => absurd ready.head hn⟩
    generalize afterWrite s a .word (blockStoreValue user s r) priv false = u at hdone hwrite hundisturbed hstored
    have hfirst := hundisturbed.trans (basedBy_undisturbed u w rn after)
    obtain ⟨t, hrun, hrest, hgpr, hwords⟩ := ih (w := false) (Nat.le_of_succ_le hlen) nofun (q.blockStep hfirst.step)
      (hfirst.step.wf hw) (ready.tail.blockStep hfirst.step)
    refine ⟨t, (storeWords_done hdone).trans hrun, hfirst.trans hrest, hgpr.trans (basedBy_gpr w rn after hwrite),
      ReadyStored.cons hlen ?_ hfirst.step ?_⟩
    · rw [show storedAt user w rn after s (r :: rest) 0 = blockStoreValue user s r by cases w <;> rfl]
      exact hstored.settled (basedBy_settled u w rn after) (hwrite.alone q.alone)
    · rw [← funext fun k => storedAt_afterWrite hwrite hundisturbed.draws r rest k]
      exact hwords

/-- Where every word of a block is ready, each is stored. -/
theorem ReadyStored.wordsStored {n : Nat} {values : Nat → Word} {start : Word} {s t : State}
    (h : ReadyStored n values start s t) (ready : BlockReady s start n) : WordsStored n values start s t :=
  ⟨fun k hk => h.stored k hk (ready k hk), fun a ha => h.others a fun k hk _ => ha k hk⟩

/-- The next instruction finds memory as it is. -/
theorem WordsStored.advance {n : Nat} {values : Nat → Word} {start : Word} {s t : State} (h : WordsStored n values start s t)
    (alone : t.masters = []) : WordsStored n values start s t.advance := by
  have kept : ∀ a : Word, t.advance.settledByte a = t.settledByte a := Settled.byte (.of_eq rfl rfl rfl rfl) alone
  exact ⟨fun k hk j hj => (kept _).trans (h.stored k hk j hj), fun a ha => (kept a).trans (h.others a ha)⟩

/-- An STM whose words are all ready (42 R413, R415). -/
theorem storeBlock_completes {user p u w : Bool} {rn : RegNum} {regs : List RegNum} {s : State} (hlen : regs.length ≤ 16)
    (h15 : rn ≠ 15#4) (hne : regs ≠ []) (huser : user = true → w = false) (hazard : w = true → s.bankHazard = false)
    (hw : cellsWf s.mem = true) (q : Quiet s)
    (ready : BlockReady s (blockStart p u (s.reg rn) regs.length) regs.length) :
    ∃ t : State, storeBlock user p u w rn regs s = .next t ∧
      WordsStored regs.length
        (fun k => blockStored user w rn (blockEnd u (s.reg rn) regs.length) s k (regs.getD k 0#4))
        (blockStart p u (s.reg rn) regs.length) s t ∧
      t.gpr = (if w then s.gpr.set (physIndex s.cpsr.m rn) (blockEnd u (s.reg rn) regs.length) else s.gpr) ∧
      t.cpsr = s.cpsr ∧ t.pc = s.pc + s.instrBytes ∧ t.cp15 = s.cp15 ∧ t.tlb = s.tlb ∧ otherParts t = otherParts s := by
  obtain ⟨t, hrun, ⟨hstep, hcp15, htlb, -⟩, hgpr, hstored⟩ := storeWords_quiet user s.privileged (w := w) rn
    (blockEnd u (s.reg rn) regs.length) hlen (fun _ => hne) q hw ready
  have hparts := otherParts_blockStep hstep
  refine ⟨t.advance, ?_, ?_, hgpr.trans (by cases w <;> rfl), hstep.cpsr, ?_, hcp15, htlb, hparts⟩
  · unfold storeBlock
    dsimp only
    rw [hrun]
    rfl
  · rw [← funext fun k => storedAt_eq regs k h15 huser hazard]
    exact (hstored.wordsStored ready).advance (hstep.alone q.alone)
  · rw [← hstep.pc, State.instrBytes, ← hstep.cpsr]
    rfl

/-- Without write-back the written-back base does not matter. -/
theorem blockStored_kept (user : Bool) (rn : RegNum) (after after' : Word) (s : State) (k : Nat) (r : RegNum) :
    blockStored user false rn after s k r = blockStored user false rn after' s k r := rfl

/-- An STM whose meaning is the block store. -/
theorem storesBlock_of {i : Instr} {p u w : Bool} {rn : RegNum} {regs : List RegNum} (hlen : regs.length ≤ 16)
    (hi : ∀ s : State, rn ≠ 15#4 → regs ≠ [] → exec i s = storeBlock false p u w rn regs s) :
    StoresBlock i false p u w rn regs := by
  intro s h15 hne hazard hw q ready
  rw [hi s h15 hne]
  exact storeBlock_completes hlen h15 hne nofun hazard hw q ready

/-- Settles O29: the stores of a block run to their end (`storeWords_quiet`), each with the value its register has by then
(`storedAt_eq`). -/
theorem storeMultiple : Obligations.StoreMultiple := by
  refine ⟨?stm, ?user, fun r regs => ?push, fun rb regs => ?stmia⟩
  case stm =>
    intro cond p u w rn regs s hc h15 hne hazard hw q ready
    have hexec : exec (.stm cond p u w rn regs) s = storeBlock false p u w rn (regList regs) s :=
      (conditionally_pass hc).trans (guardBlock_pass h15 hne)
    rw [hexec]
    exact storeBlock_completes (regList_length regs) h15 hne nofun hazard hw q ready
  case user =>
    intro cond p u rn regs s hc h15 hne husr hsys hw q ready
    have hexec : exec (.stmUser cond p u false rn regs) s = storeBlock true p u false rn (regList regs) s :=
      (conditionally_pass hc).trans ((guardBlock_pass h15 hne).trans
        ((guardClash_pass rfl).trans (guardUserBank_pass husr hsys)))
    rw [hexec]
    simp only [blockStored_kept true rn 0#32 (blockEnd u (s.reg rn) (regList regs).length)]
    exact storeBlock_completes (regList_length regs) h15 hne (fun _ => rfl) nofun hw q ready
  case push => exact storesBlock_of (regList_length _) fun s h15 hne => guardBlock_pass h15 hne
  case stmia => exact storesBlock_of (regList_length _) fun s h15 hne => guardBlock_pass h15 hne

end Sys2Proof.Claims
end

section
/-! PROOFS. The handshake of the coprocessor instructions (43 R441 to R449). -/

namespace Sys2Proof.Machine

/-! The handshake. -/

/-- The numbers of external coprocessors (43 R440). -/
theorem isExternal_of_number {cp : BitVec 4} (h : cp = 4#4 ∨ cp = 5#4 ∨ cp = 6#4 ∨ cp = 7#4) : isExternal cp = true := by
  rcases h with rfl | rfl | rfl | rfl <;> rfl

/-- With no coprocessor attached nothing answers, whatever the number (43 R441). -/
theorem withCoprocessor_unattached {s : State} (h : s.copros = []) (cp : BitVec 4)
    (body : Word → List Word → State → Result) : withCoprocessor cp s body = .next (s.takeException .undefined) := by
  have hanswered : ({ s with copros := copAnswered s.copros cp } : State) = s := by rw [h, copAnswered, ← h]
  unfold withCoprocessor
  dsimp only
  rw [hanswered, h, copResponse]
  exact ite_self _

/-- An external coprocessor that answers as if absent (43 R441). -/
theorem withCoprocessor_absent {cp : BitVec 4} {s : State} (body : Word → List Word → State → Result)
    (hcp : isExternal cp = true) (h : copResponse s.copros cp s.sampledTrans = .absent) : withCoprocessor cp s body =
      .next (State.takeException { s with copros := copAnswered s.copros cp } .undefined) := by
  unfold withCoprocessor
  rw [if_pos hcp, h]

/-- A busy coprocessor keeps the core at the instruction (43 R443). -/
theorem withCoprocessor_busy {cp : BitVec 4} {s : State} (body : Word → List Word → State → Result)
    (hcp : isExternal cp = true) (h : copResponse s.copros cp s.sampledTrans = .busy) :
    withCoprocessor cp s body = .next { s with copros := copAnswered s.copros cp } := by
  unfold withCoprocessor
  rw [if_pos hcp, h]

/-- The next answer of the coprocessor at the head of the list, with CPnTRANS taken into account (43 R449). -/
theorem copResponse_head {c : Copro} {rest : List Copro} {a : CoproAnswer} {script : List CoproAnswer}
    (h : c.script = a :: script) (privileged : Bool) :
    copResponse (c :: rest) c.number privileged = a.to privileged := by
  rw [copResponse, if_pos rfl, h]

theorem CoproAnswer.to_eq (a : CoproAnswer) (privileged : Bool) :
    a.to privileged = if a.privilegedOnly = true ∧ privileged = false then .absent else a.response := by
  rw [CoproAnswer.to]
  exact if_congr (by rw [Bool.and_eq_true, Bool.not_eq_true']) rfl rfl

/-! CPnTRANS as a slot carries it. -/

/-- An access to memory stays in the mode it began in. -/
theorem MemoryStep.privileged {s t : State} (h : MemoryStep s t) : t.privileged = s.privileged := by
  rw [State.privileged, h.cpsr, State.privileged]

theorem fetchSlot_priv (s : State) (a : Word) : (fetchSlot s a).1.priv = s.privileged := by
  unfold fetchSlot
  dsimp only
  have ht := translate_step s (s.relocate (wordAlign a)) s.privileged false
  split
  · exact ht.privileged
  · exact ht.privileged
  · exact (ht.trans (externalOrCached_step _ _ _ _ _ _ _)).privileged

theorem nextSlot_priv (s : State) (a : Word) : (nextSlot s a).1.priv = s.privileged := by
  unfold nextSlot
  split
  · split
    · rfl
    · exact fetchSlot_priv s a
  · exact fetchSlot_priv s a

end Sys2Proof.Machine

namespace Sys2Proof.Claims

open Sys2Proof.Machine

/-! The instructions. -/

/-- An instruction that is executed by offering it to coprocessor `cp` (43 R441). -/
def OfferedTo (cp : BitVec 4) (i : Instr) (s : State) : Prop :=
  ∃ body : Word → List Word → State → Result, exec i s = withCoprocessor cp s body

/-- What an offered instruction does where the handshake alone decides. -/
theorem OfferedTo.exec_eq {cp : BitVec 4} {i : Instr} {s : State} {result : Result} (h : OfferedTo cp i s)
    (k : ∀ body, withCoprocessor cp s body = result) : exec i s = result := by
  obtain ⟨body, hexec⟩ := h
  exact hexec.trans (k body)

theorem mrcWrite_eq (rd : RegNum) (v : Word) (s : State) : mrcWrite rd (v, s) = .next (mrcState s rd v) := by
  unfold mrcWrite mrcState
  split <;> rfl

section
variable {cond : Cond} {s : State} (hc : condPassed cond s.cpsr = true)
include hc

/-- A CDP is offered, and once accepted done (43 R444). -/
theorem exec_cdp (op1 crn crd cp : BitVec 4) (op2 : BitVec 3) (crm : BitVec 4) :
    exec (.cdp cond op1 crn crd cp op2 crm) s = withCoprocessor cp s fun _ _ t => .next t.advance := conditionally_pass hc

/-- An MCR that CP14 and CP15 do not claim (43 R445). -/
theorem exec_mcr {cp : BitVec 4} (h14 : cp ≠ 14#4) (h15 : cp ≠ 15#4) (op1 : BitVec 3) (crn : BitVec 4) (rd : RegNum)
    (op2 : BitVec 3) (crm : BitVec 4) : exec (.mcr cond op1 crn rd cp op2 crm) s = withCoprocessor cp s fun _ _ t =>
      .next (State.advance { t with copros := copReceives t.copros cp (s.regLate rd) }) :=
  (if_neg h15).trans ((if_neg h14).trans (conditionally_pass hc))

/-- An MRC that CP14 and CP15 do not claim (43 R446). -/
theorem exec_mrc {cp : BitVec 4} (h14 : cp ≠ 14#4) (h15 : cp ≠ 15#4) (op1 : BitVec 3) (crn : BitVec 4) (rd : RegNum)
    (op2 : BitVec 3) (crm : BitVec 4) : exec (.mrc cond op1 crn rd cp op2 crm) s = withCoprocessor cp s fun first _ t =>
      mrcWrite rd (first, t) :=
  (if_neg h15).trans ((if_neg h14).trans (conditionally_pass hc))

theorem offered_ldc (p u n w : Bool) (rn : RegNum) (crd cp : BitVec 4) (off8 : BitVec 8) :
    OfferedTo cp (.ldc cond p u n w rn crd cp off8) s := ⟨_, conditionally_pass hc⟩

theorem offered_stc (p u n w : Bool) (rn : RegNum) (crd cp : BitVec 4) (off8 : BitVec 8) :
    OfferedTo cp (.stc cond p u n w rn crd cp off8) s := ⟨_, conditionally_pass hc⟩

end

/-- Settles O32: each of the five instructions is offered to its coprocessor (`exec_cdp`, `exec_mcr`, `exec_mrc`, `offered_ldc`,
`offered_stc`), whose answer decides. -/
theorem coprocessorHandshake : Obligations.CoprocessorHandshake := by
  refine ⟨?unattached, ?attached, ?answer, ?sampled, nextSlot_priv⟩
  case unattached =>
    intro cond s hc h
    have hexec : ∀ {cp i}, OfferedTo cp i s → exec i s = .next (s.takeException .undefined) :=
      fun offered => offered.exec_eq (withCoprocessor_unattached h _)
    exact ⟨fun _ _ _ _ _ _ => hexec ⟨_, exec_cdp hc ..⟩,
      fun _ _ _ _ _ _ _ _ => ⟨hexec (offered_ldc hc ..), hexec (offered_stc hc ..)⟩,
      fun _ _ _ _ _ _ h14 h15 => ⟨hexec ⟨_, exec_mcr hc h14 h15 ..⟩, hexec ⟨_, exec_mrc hc h14 h15 ..⟩⟩⟩
  case attached =>
    rintro cond cp s _ hc hcp rfl
    have h14 : cp ≠ 14#4 := by rcases hcp with rfl | rfl | rfl | rfl <;> decide
    have h15 : cp ≠ 15#4 := by rcases hcp with rfl | rfl | rfl | rfl <;> decide
    refine ⟨fun first more haccept => ⟨fun _ _ _ _ _ => ?cdp, fun _ _ rd _ _ => ⟨?mcr, ?mrc⟩⟩, ?refused⟩
    case cdp => rw [exec_cdp hc, withCoprocessor_accept _ hcp haccept]
    case mcr => rw [exec_mcr hc h14 h15, withCoprocessor_accept _ hcp haccept, regLate_eq]
    case mrc => rw [exec_mrc hc h14 h15, withCoprocessor_accept _ hcp haccept, mrcWrite_eq]
    case refused =>
      intro result op1 crn crd op3 rd rn op2 crm p u n w off8 i hanswer hi
      have hdecided : ∀ body, withCoprocessor cp s body = .next result := fun body => by
        rcases hanswer with ⟨hbusy, rfl⟩ | ⟨habsent, rfl⟩
        · exact withCoprocessor_busy body (isExternal_of_number hcp) hbusy
        · exact withCoprocessor_absent body (isExternal_of_number hcp) habsent
      have hoffered : OfferedTo cp i s := by
        simp only [List.mem_cons, List.not_mem_nil, or_false] at hi
        rcases hi with rfl | rfl | rfl | rfl | rfl
        · exact ⟨_, exec_cdp hc ..⟩
        · exact ⟨_, exec_mcr hc h14 h15 ..⟩
        · exact ⟨_, exec_mrc hc h14 h15 ..⟩
        · exact offered_ldc hc ..
        · exact offered_stc hc ..
      exact hoffered.exec_eq hdecided
  case answer =>
    intro c rest a script privileged h
    rw [copResponse_head h, CoproAnswer.to_eq]
  case sampled =>
    intro s q rest h
    rw [State.sampledTrans, h]

end Sys2Proof.Claims
end

section
/-! PROOFS. LDC and STC with the MMU off and a coprocessor that accepts (43 R447, R448). -/

namespace Sys2Proof.Machine

/-- The coprocessors after one of them has received `n` words (43 R447). -/
def copReceivesWords (cp : BitVec 4) (value : Nat → Word) (n : Nat) (cs : List Copro) : List Copro :=
  (List.range n).foldl (fun cs k => copReceives cs cp (value k)) cs

/-- The first word is received before the others. -/
theorem copReceivesWords_succ (cp : BitVec 4) (value : Nat → Word) (n : Nat) (cs : List Copro) :
    copReceivesWords cp value (n + 1) cs =
      copReceivesWords cp (fun k => value (k + 1)) n (copReceives cs cp (value 0)) := by
  rw [copReceivesWords, List.range_succ_eq_map, List.foldl_cons, List.foldl_map]
  rfl

theorem copLoads_done {cp : BitVec 4} {priv : Bool} {x a v : Word} {rest : List Word} {s t : State}
    (h : dataRead s a .word priv false = .done v t) : copLoads cp priv (x :: rest) a s =
      copLoads cp priv rest (a + 4#32) { t with copros := copReceives t.copros cp v } := by rw [copLoads, h]

theorem copStores_done {priv : Bool} {x a v : Word} {rest : List Word} {s t : State}
    (h : dataWrite s a .word x priv false = .done v t) :
    copStores priv (x :: rest) a s = copStores priv rest (a + 4#32) t := by rw [copStores, h]

/-- The coprocessors have no part in memory. -/
theorem withCopros_settled (s : State) (cs : List Copro) : Settled s { s with copros := cs } := .of_eq rfl rfl rfl rfl

theorem settled_withCopros (s : State) (cs : List Copro) : Settled { s with copros := cs } s := .of_eq rfl rfl rfl rfl

/-- An access to memory from a state with other coprocessors is an access from the state itself, and leaves them. -/
theorem exists_withCopros {s t : State} {cs : List Copro} (h : MemoryStep { s with copros := cs } t) :
    ∃ u : State, t = { u with copros := cs } ∧ MemoryStep s u := by
  obtain rfl : t.copros = cs := h.copros
  exact ⟨{ t with copros := s.copros }, rfl, h.onCopros _⟩

/-- The base that is written back is the register that the mode names. -/
theorem writeBack_gpr {s t : State} (m : Addressing) (rn : RegNum) (hgpr : t.gpr = s.gpr) (hcpsr : t.cpsr = s.cpsr) :
    (t.writeBack m rn).gpr = (s.writeBack m rn).gpr := by simp only [writeBack_eq, hgpr, hcpsr]

end Sys2Proof.Machine

namespace Sys2Proof.Claims

open Sys2Proof.Machine

/-! One transfer. -/

theorem Quiet.withCopros {s : State} (q : Quiet s) (cs : List Copro) : Quiet { s with copros := cs } := by
  obtain ⟨mmuOff, running, normal, alone, unit0, unit1, noBreak⟩ := q
  exact ⟨mmuOff, running, normal, alone, unit0, unit1, noBreak⟩

theorem Ready.withCopros {s : State} {a : Word} {size : Size} (r : Ready s a size) (cs : List Copro) :
    Ready { s with copros := cs } a size := by
  obtain ⟨aligned, even, ram⟩ := r
  exact ⟨aligned, even, ram⟩

/-- A word read does not depend on the coprocessors. -/
theorem blockWord_withCopros {s : State} (alone : s.masters = []) (cs : List Copro) (a : Word) (k : Nat) :
    blockWord { s with copros := cs } a k = blockWord s a k := by
  have hb : (State.drainAll { s with copros := cs }).cp15.b = s.drainAll.cp15.b := by
    rw [(drainAll_step s).bigEndian]
    exact (drainAll_step { s with copros := cs }).bigEndian
  unfold blockWord readValue readWord State.memoryWord State.byteAt
  rw [((withCopros_settled s cs).store alone).mem, hb]
  rfl

/-- A ready word is read, whatever the coprocessors hold. -/
theorem dataRead_withCopros {s : State} {a : Word} (priv : Bool) (cs : List Copro) (q : Quiet s) (r : Ready s a .word) :
    ∃ u : State, dataRead { s with copros := cs } a .word priv false = .done (blockWord s a 0) { u with copros := cs } ∧
      MemoryStep s u ∧ u.cp15 = s.cp15 ∧ Settled s u := by
  have hdone := dataRead_quiet priv false (q.withCopros cs) (r.withCopros cs)
  have hvalue : readValue { s with copros := cs } a .word = blockWord s a 0 := by
    rw [← blockWord_withCopros q.alone cs, blockWord, blockAddress_zero]
  obtain ⟨u, hu, hstep⟩ := exists_withCopros (afterRead_step { s with copros := cs } a .word priv false)
  have hread := afterRead_onlyRead { s with copros := cs } a .word priv false
  rw [hvalue] at hdone
  rw [hu] at hdone hread
  exact ⟨u, hdone, hstep, hread.undisturbed.cp15,
    (withCopros_settled s cs).trans (hread.settled.trans (settled_withCopros u cs))⟩

/-- A ready word is written, whatever the coprocessors hold. -/
theorem dataWrite_withCopros {s : State} {a : Word} (v : Word) (priv : Bool) (cs : List Copro) (q : Quiet s)
    (hw : cellsWf s.mem = true) (r : Ready s a .word) :
    ∃ u : State, dataWrite { s with copros := cs } a .word v priv false = .done 0 { u with copros := cs } ∧
      MemoryStep s u ∧ u.cp15 = s.cp15 ∧ WordTransferred a v s u := by
  have hdone := dataWrite_quiet v priv false (q.withCopros cs) (r.withCopros cs)
  obtain ⟨u, hu, hstep⟩ := exists_withCopros (afterWrite_step { s with copros := cs } a .word v priv false)
  have hkept := (afterWrite_undisturbed { s with copros := cs } a .word v priv false).cp15
  have hstored := afterWrite_stores (s := { s with copros := cs }) v priv false hw q.alone (r.withCopros cs).ram
  rw [hu] at hdone hkept hstored
  have hbytes := (hstored.before (withCopros_settled s cs) q.alone rfl).settled (settled_withCopros u cs)
    (hstep.alone q.alone)
  exact ⟨u, hdone, hstep, hkept, fun _ => hbytes, fun hn => absurd r hn⟩

/-! The transfers. -/

/-- The loads of an LDC whose words are all ready: the coprocessor receives each. -/
theorem copLoads_quiet (cp : BitVec 4) (priv : Bool) {words : List Word} {a : Word} {s : State} (cs : List Copro)
    (q : Quiet s) (ready : BlockReady s a words.length) :
    ∃ u : State,
      copLoads cp priv words a { s with copros := cs } =
        .finished { u with copros := copReceivesWords cp (blockWord s a) words.length cs } ∧
      MemoryStep s u ∧ u.cp15 = s.cp15 ∧ Settled s u := by
  induction words generalizing a s cs with
  | nil => exact ⟨s, rfl, .refl s, rfl, .refl s⟩
  | cons x rest ih =>
    obtain ⟨u, hdone, hstep, hcp15, hsettled⟩ := dataRead_withCopros priv cs q ready.head
    have hblock := BlockStep.of_memory hstep
    obtain ⟨t, hrun, hrest, hrestCp15, hrestSettled⟩ := ih (copReceives cs cp (blockWord s a 0)) (q.step hstep)
      (ready.tail.blockStep hblock)
    have hvalue : blockWord u (a + 4#32) = fun k => blockWord s a (k + 1) := by
      funext k
      rw [blockWord_settled hsettled q.alone hblock, blockWord_succ]
    rw [hvalue] at hrun
    refine ⟨t, (copLoads_done hdone).trans (hrun.trans ?_), hstep.trans hrest, hrestCp15.trans hcp15,
      hsettled.trans hrestSettled⟩
    rw [List.length_cons, copReceivesWords_succ]

/-- The stores of an STC whose words are all ready. -/
theorem copStores_quiet (priv : Bool) {words : List Word} {a : Word} {s : State} (cs : List Copro)
    (hlen : words.length ≤ 16) (q : Quiet s) (hw : cellsWf s.mem = true) (ready : BlockReady s a words.length) :
    ∃ u : State, copStores priv words a { s with copros := cs } = .finished { u with copros := cs } ∧
      MemoryStep s u ∧ u.cp15 = s.cp15 ∧ ReadyStored words.length (fun k => words.getD k 0#32) a s u := by
  induction words generalizing a s with
  | nil => exact ⟨s, rfl, .refl s, rfl, fun k hk => absurd hk (Nat.not_lt_zero k), fun _ _ => rfl⟩
  | cons x rest ih =>
    obtain ⟨u, hdone, hstep, hcp15, hstored⟩ := dataWrite_withCopros x priv cs q hw ready.head
    have hblock := BlockStep.of_memory hstep
    obtain ⟨t, hrun, hrest, hrestCp15, hwords⟩ := ih (Nat.le_of_succ_le hlen) (q.step hstep) (hstep.memory hw)
      (ready.tail.blockStep hblock)
    exact ⟨t, (copStores_done hdone).trans hrun, hstep.trans hrest, hrestCp15.trans hcp15,
      ReadyStored.cons hlen hstored hblock hwords⟩

/-! The end. -/

/-- What a completed LDC or STC leaves beside memory and the coprocessors. -/
structure CopEnded (m : Addressing) (rn : RegNum) (s t : State) : Prop where
  gpr : t.gpr = (s.writeBack m rn).gpr
  cpsr : t.cpsr = s.cpsr
  pc : t.pc = s.pc + s.instrBytes
  cp15 : t.cp15 = s.cp15
  rest : otherParts t = otherParts s

/-- The end of the transfers: the base, and the next instruction. -/
theorem copFinish_ended (m : Addressing) (rn : RegNum) (cs : List Copro) {s u : State} (h : MemoryStep s u)
    (hcp15 : u.cp15 = s.cp15) : ∃ t : State, copFinish m rn (.finished { u with copros := cs }) = .next t ∧
      CopEnded m rn s t ∧ t.copros = cs ∧ Settled u t := by
  have hrest := otherParts_blockStep (.of_memory h)
  refine ⟨_, rfl, ⟨writeBack_gpr m rn h.gpr h.cpsr, ?cpsr, ?pc, ?cp15, ?rest⟩, ?copros, ?settled⟩ <;> rw [writeBack_eq]
  case cpsr => exact h.cpsr
  case pc =>
    rw [← h.pc, State.instrBytes, ← h.cpsr]
    rfl
  case cp15 => exact hcp15
  case rest => exact hrest
  case copros => rfl
  case settled => exact .of_eq rfl rfl rfl rfl

/-- What follows the stores without touching memory leaves what they have stored. -/
theorem WordsStored.settled {n : Nat} {values : Nat → Word} {start : Word} {s t u : State}
    (h : WordsStored n values start s t) (k : Settled t u) (alone : t.masters = []) : WordsStored n values start s u :=
  ⟨fun i hi j hj => (k.byte alone _).trans (h.stored i hi j hj), fun a ha => (k.byte alone a).trans (h.others a ha)⟩

/-- An accepted instruction moves sixteen words at most (43 R455). -/
theorem acceptedWords_length (first : Word) (more : List Word) : (acceptedWords first more).length ≤ 16 :=
  Nat.succ_le_succ (List.length_take_le 15 more)

/-- Settles O33: the transfers of each run to their end (`copLoads_quiet`, `copStores_quiet`), which writes back the base
(`copFinish_ended`). -/
theorem coprocessorTransfers : Obligations.CoprocessorTransfers := by
  intro cond p u n w rn crd cp off8 s first more ws hc hcp haccept hws hbase hw q ready
  obtain rfl : ws = acceptedWords first more := hws
  rw [exec_ldc_accept hc hcp haccept hbase, exec_stc_accept hc hcp haccept hbase]
  generalize copAddressing p u w rn off8 s = m at ready ⊢
  generalize copAnswered s.copros cp = cs
  refine ⟨?ldc, ?stc⟩
  case ldc =>
    obtain ⟨v, hrun, hstep, hcp15, hread⟩ := copLoads_quiet cp s.privileged cs q ready
    obtain ⟨t, hend, ⟨hgpr, hcpsr, hpc, hkept, hrest⟩, hcopros, hsettled⟩ := copFinish_ended m rn
      (copReceivesWords cp (blockWord s m.addr) (acceptedWords first more).length cs) hstep hcp15
    rw [hrun, hend]
    exact ⟨t, rfl, hcopros, hgpr, hcpsr, hpc, (hread.trans hsettled).byte q.alone, hkept, hrest⟩
  case stc =>
    obtain ⟨v, hrun, hstep, hcp15, hstored⟩ := copStores_quiet s.privileged cs (acceptedWords_length first more) q hw ready
    obtain ⟨t, hend, ⟨hgpr, hcpsr, hpc, hkept, hrest⟩, hcopros, hsettled⟩ := copFinish_ended m rn cs hstep hcp15
    rw [hrun, hend]
    exact ⟨t, rfl, (hstored.wordsStored ready).settled hsettled (hstep.alone q.alone), hgpr, hcpsr, hpc, hcopros, hkept,
      hrest⟩

end Sys2Proof.Claims
end

section
/-! PROOFS. Thumb data processing (44_thumb_alu.md): each instruction on low registers ends as its ARM equivalent with S does (44 R460),
those with a high register as it does without S, and the address additions in a register write. -/

namespace Sys2Proof.Claims

open Sys2Proof.Machine

/-! The ends of the operations. -/

/-- A logical operation into a low register: its carry is that of the second operand. -/
theorem dpLogical_low (rd : LowReg) (r : Word) (o : Shifted) (s : State) :
    dpLogical true (low rd) r o s = .next (logicWritten s (rd.setWidth 4) r o.carry) :=
  dpWrite_register (low_ne_fifteen rd)

/-- An arithmetic operation into a low register, on the integers (`psrArith_sum`). -/
theorem dpArith_low (op : ArithOp) (rd : LowReg) (a b : Word) (s : State) :
    dpArith true (low rd) (op.sum a b s.cpsr.c) s = .next (arithWritten op s (rd.setWidth 4) a b) := by
  rw [dpArith, op.sum_result, psrArith_sum]
  exact dpWrite_register (low_ne_fifteen rd)

theorem dpTest_psrLogical (r : Word) (carry : Bool) (s : State) :
    dpTest (psrLogical s.cpsr r carry) s = .next (flagged s (logicFlags s.cpsr r carry)) := rfl

theorem dpTest_psrArith (op : ArithOp) (a b : Word) (s : State) :
    dpTest (psrArith s.cpsr (op.sum a b s.cpsr.c)) s = .next (flagged s (op.flags s.cpsr a b)) := by
  rw [psrArith_sum]
  rfl

/-- In Thumb state a result without flags is written to its register, or to the PC as the address of a halfword. -/
theorem dpWrite_thumb {s : State} (ht : s.cpsr.t = true) (d : RegNum) (r : Word) (flags : Psr) :
    dpWrite false d r flags s =
      .next (if d = 15#4 then { s with pc := r &&& 0xFFFFFFFE#32, queue := [] } else (s.setReg d r).advance) := by
  by_cases hd : d = 15#4
  · rw [if_pos hd, hd, ← branchTo_thumb ht]
    rfl
  · rw [if_neg hd]
    exact dpWrite_register hd

/-- Format T5 names a high register (44 R486). -/
theorem guardHi_pass {h1 h2 : Bool} (h : h1 = true ∨ h2 = true) (body : Result) : guardHi h1 h2 body = body :=
  if_pos ((Bool.or_eq_true h1 h2).mpr h)

/-- An addition without carry in wraps around (44 R487). -/
theorem addWithCarry_false_result (a b : Word) : (addWithCarry a b false).result = a + b := by
  show BitVec.ofNat 32 (a.toNat + b.toNat) = a + b
  rw [BitVec.ofNat_add, BitVec.ofNat_toNat, BitVec.ofNat_toNat, BitVec.setWidth_eq, BitVec.setWidth_eq]

/-! The instructions. -/

/-- Settles O43: each is a logical operation (`dpLogical_low`), a sum (`dpArith_low`) or a comparison; NEG is a subtraction from 0. -/
theorem thumbDataProcessing : Obligations.ThumbDataProcessing := by
  rintro rs rd rn imm5 imm3 imm8 s _ _ _ _ _ rfl rfl rfl rfl rfl
  exact ⟨
    -- Format T1
    dpLogical_low .., dpLogical_low .., dpLogical_low ..,
    -- Format T2
    dpArith_low .add .., dpArith_low .sub .., dpArith_low .add .., dpArith_low .sub ..,
    -- Format T3: MOV, CMP, ADD, SUB
    dpLogical_low .., dpTest_psrArith .sub .., dpArith_low .add .., dpArith_low .sub ..,
    -- Format T4: AND, EOR and the shifts
    dpLogical_low .., dpLogical_low .., dpLogical_low .., dpLogical_low .., dpLogical_low .., dpLogical_low ..,
    -- ADC, SBC, TST, NEG, CMP, CMN
    dpArith_low .adc .., dpArith_low .sbc .., dpTest_psrLogical .., dpArith_low .sub ..,
    dpTest_psrArith .sub .., dpTest_psrArith .add ..,
    -- ORR, BIC, MVN
    dpLogical_low .., dpLogical_low .., dpLogical_low ..⟩

/-- Settles O44: the guard of format T5 passes and the end is without flags (`dpWrite_thumb`); the offsets of the additions count words
(`wordOffset_eq`). -/
theorem thumbHighRegisters : Obligations.ThumbHighRegisters := by
  refine ⟨?high, ?address⟩
  case high =>
    rintro h1 h2 rs rd s _ _ ht rfl rfl hhigh
    refine ⟨(guardHi_pass hhigh _).trans ?add, (guardHi_pass hhigh _).trans (dpTest_psrArith .sub ..),
      (guardHi_pass hhigh _).trans (dpWrite_thumb ht ..)⟩
    rw [opAdd, dpArith, addWithCarry_false_result]
    exact dpWrite_thumb ht ..
  case address =>
    intro rd word8 word7 s
    rw [← wordOffset_eq word8 (by decide), ← wordOffset_eq word7 (by decide)]
    exact ⟨rfl, rfl, rfl, rfl⟩

end Sys2Proof.Claims
end

section
/-! PROOFS. Thumb single transfers that complete (45_thumb_mem_branch.md R511 to R520, R526, R527): a load or store that leaves its base
alone (45 R510), and the word a load reads relative to the PC, which is never rotated. -/

namespace Sys2Proof.Machine

/-! Addresses that are words. -/

/-- A word load from an aligned address does not rotate (42 R392). -/
theorem wordValue_aligned {a : Word} (h : a.toNat % 4 = 0) (v : Word) : wordValue a v = v := by
  rw [wordValue_eq, h]
  exact ror32_of_mod (n := 0) v rfl

/-- A PC relative address is that of a word: bit 1 of the PC is cleared, and the offset counts words (45 R511). -/
theorem pcRelative_aligned (s : State) {n : Nat} (x : BitVec n) (hn : n ≤ 30) :
    (s.thumbPcBase + wordOffset x).toNat % 4 = 0 := by
  rw [State.thumbPcBase, wordOffset_eq x hn, BitVec.toNat_add, toNat_wordAlign, BitVec.toNat_ofNat]
  omega

/-! How a Thumb transfer ends. -/

theorem thumbLoad_done {size : Size} {signed : Bool} {a : Word} {rd : LowReg} {s t : State} {v : Word}
    (h : dataRead s a size s.privileged false = .done v t) :
    thumbLoad size signed a rd s = .next (t.setReg (low rd) (loadValue size signed a v)).advance :=
  (loadSingle_done (m := { addr := a, offAddr := a, writeback := false }) h).trans
    (congrArg _ (if_neg (low_ne_fifteen rd)))

theorem thumbStore_done {size : Size} {a : Word} {rd : LowReg} {s t : State} {w : Word}
    (h : dataWrite s a size (s.lowReg rd) s.privileged false = .done w t) :
    thumbStore size a rd s = .next t.advance :=
  storeSingle_done (m := { addr := a, offAddr := a, writeback := false }) h

end Sys2Proof.Machine

namespace Sys2Proof.Claims

open Sys2Proof.Machine

/-- An instruction that is a Thumb load at an address completes with what a load of its size and sign writes. -/
theorem thumbLoads_of {i : Instr} {a : State → Word} {size : Size} {v : State → Word → Word} {rd : LowReg} (signed : Bool)
    (hexec : ∀ s, exec i s = thumbLoad size signed (a s) rd s) (hvalue : ∀ s w, loadValue size signed (a s) w = v s w) :
    ThumbLoads i a size v rd := by
  intro s q ready
  rw [hexec, thumbLoad_done (dataRead_quiet _ _ q ready), hvalue]
  rfl

/-- A word load writes the word rotated by the offset of its address (45 R514, R521, R527). -/
theorem thumbLoads_word {i : Instr} {a : State → Word} {rd : LowReg} (hexec : ∀ s, exec i s = thumbLoad .word false (a s) rd s) :
    ThumbLoads i a .word (fun s v => v.rotateRight (8 * ((a s).toNat % 4))) rd :=
  thumbLoads_of false hexec fun s => wordValue_eq (a s)

/-- An instruction that is a Thumb store at an address completes. -/
theorem thumbStores_of {i : Instr} {a : State → Word} {size : Size} {rd : LowReg}
    (hexec : ∀ s, exec i s = thumbStore size (a s) rd s) : ThumbStores i a size rd := by
  intro s q ready
  rw [hexec, thumbStore_done (dataWrite_quiet _ _ _ q ready)]

/-- Settles O45: each is a load or a store at its address (`thumbLoads_of`, `thumbStores_of`), with offsets in words
(`wordOffset_eq`), halfwords (`halfOffset_eq`) or bytes; the PC relative load alone rotates nothing (`pcRelative_aligned`). -/
theorem thumbSingleTransfers : Obligations.ThumbSingleTransfers := by
  rintro ro rb rd imm5 word8 _ rfl
  rw [← wordOffset_eq word8 (by decide), ← wordOffset_eq imm5 (by decide), ← halfOffset_eq, BitVec.ofNat_toNat]
  exact ⟨
    -- LDR relative to the PC
    thumbLoads_of false (fun _ => rfl) fun s => wordValue_aligned (pcRelative_aligned s word8 (by decide)),
    -- LDR, LDRB, LDRH, LDRSB and LDRSH with a register offset
    thumbLoads_word fun _ => rfl, thumbLoads_of false (fun _ => rfl) fun _ _ => rfl,
    thumbLoads_of false (fun _ => rfl) fun _ _ => rfl, thumbLoads_of true (fun _ => rfl) fun _ _ => rfl,
    thumbLoads_of true (fun _ => rfl) fun _ _ => rfl,
    -- LDR, LDRB and LDRH with an immediate offset, and LDR relative to SP
    thumbLoads_word fun _ => rfl, thumbLoads_of false (fun _ => rfl) fun _ _ => rfl,
    thumbLoads_of false (fun _ => rfl) fun _ _ => rfl, thumbLoads_word fun _ => rfl,
    -- STR, STRB and STRH with a register offset
    thumbStores_of fun _ => rfl, thumbStores_of fun _ => rfl, thumbStores_of fun _ => rfl,
    -- STR, STRB and STRH with an immediate offset, and STR relative to SP
    thumbStores_of fun _ => rfl, thumbStores_of fun _ => rfl, thumbStores_of fun _ => rfl, thumbStores_of fun _ => rfl⟩

end Sys2Proof.Claims
end

section
/-! PROOFS. The registers of CP15 and CP14 (43 R445, R446; 46 R563 to R581, R599, R605 to R609): what a transfer leaves where it is not
trapped, and the words in which the registers are read. -/

namespace Sys2Proof.Machine

/-! Words of single bits. -/

theorem setWidth_ofBool (b : Bool) : (BitVec.ofBool b).setWidth 32 = if b then 1#32 else 0#32 := by
  cases b <;> rfl

/-- The control register by its bits, as a word. -/
theorem controlBits_eq (c : Cp15) : controlBits c = Claims.controlWord c := by
  unfold controlBits Claims.controlWord
  generalize c.m = m, c.a = a, c.c = d, c.w = w, c.b = b, c.s = s, c.r = r, c.v = v
  revert m a d w b s r v
  decide

theorem dccControl_eq (w r : Bool) : 0b0111#4 ++ 0#26 ++ BitVec.ofBool w ++ BitVec.ofBool r =
    0x70000000#32 ||| (if w then 2#32 else 0) ||| (if r then 1#32 else 0) := by
  cases w <;> cases r <;> rfl

/-! The registers with no row (46 R565, R571, R578, U10). -/

theorem cp15Write_reserved {crn : BitVec 4} (op1 : BitVec 3) (crm : BitVec 4) (op2 : BitVec 3)
    (h : crn = 0#4 ∨ crn = 4#4 ∨ crn = 11#4 ∨ crn = 12#4 ∨ crn = 14#4) : cp15Write op1 crn crm op2 = writeNothing := by
  rcases h with rfl | rfl | rfl | rfl | rfl <;> exact ite_self _

theorem cp15Read_reserved {crn : BitVec 4} (op1 : BitVec 3) (crm : BitVec 4) (op2 : BitVec 3)
    (h : crn = 4#4 ∨ crn = 7#4 ∨ crn = 8#4 ∨ crn = 9#4 ∨ crn = 11#4 ∨ crn = 12#4 ∨ crn = 14#4) :
    cp15Read op1 crn crm op2 = readAny := by
  rcases h with rfl | rfl | rfl | rfl | rfl | rfl | rfl <;> exact ite_self _

theorem cp14Write_unlisted {crn : BitVec 4} (h : crn = 0#4 ∨ 3 ≤ crn.toNat) : cp14Write crn = writeNothing := by
  have hn : crn.toNat = 0 ∨ 3 ≤ crn.toNat := h.imp_left (congrArg BitVec.toNat)
  unfold cp14Write
  split
  · omega
  · omega
  · rfl

theorem cp14Read_unlisted {crn : BitVec 4} (h : 3 ≤ crn.toNat) : cp14Read crn = readAny := by
  unfold cp14Read
  split
  · omega
  · omega
  · omega
  · rfl

/-! Test operations. -/

theorem whenTesting_on {op : CoproWrite} {s : State} (v : Word) (h : s.cp15.testState = true) : whenTesting op v s = op v s :=
  if_pos h

theorem whenTesting_off {op : CoproWrite} {s : State} (v : Word) (h : s.cp15.testState = false) : whenTesting op v s = s :=
  if_neg (by rw [h]; exact Bool.false_ne_true)

end Sys2Proof.Machine

namespace Sys2Proof.Claims

open Sys2Proof.Machine

/-! Transfers. -/

section
variable {cond : Cond} {s : State} (hc : condPassed cond s.cpsr = true) (rd : RegNum)
include hc

theorem transferToCp15_privileged (op : CoproWrite) (hp : s.privileged = true) :
    transferToCp15 cond rd op s = .next (op (if rd = 15#4 then s.pc + 12#32 else s.reg rd) s).advance := by
  rw [transferToCp15, conditionally_pass hc, if_pos hp, regLate_eq]

/-- In the test state a test operation is carried out (46 R589). -/
theorem transferToCp15_testing {v : Word} (op : CoproWrite) (hp : s.privileged = true) (htest : s.cp15.testState = true)
    (hv : v = if rd = 15#4 then s.pc + 12#32 else s.reg rd) :
    transferToCp15 cond rd (whenTesting op) s = .next (op v s).advance := by
  rw [transferToCp15_privileged hc rd _ hp, ← hv, whenTesting_on v htest]

theorem transferFromCp15_privileged (op : CoproRead) (hp : s.privileged = true) :
    transferFromCp15 cond rd op s = .next (mrcState (op s).2 rd (op s).1) := by
  rw [transferFromCp15, conditionally_pass hc, if_pos hp]
  exact mrcWrite_eq rd _ _

theorem transferToCp14_eq (op : CoproWrite) :
    transferToCp14 cond rd op s = .next (op (if rd = 15#4 then s.pc + 12#32 else s.reg rd) s).advance := by
  rw [transferToCp14, conditionally_pass hc, regLate_eq]

theorem transferFromCp14_eq (op : CoproRead) : transferFromCp14 cond rd op s = .next (mrcState (op s).2 rd (op s).1) := by
  rw [transferFromCp14, conditionally_pass hc]
  exact mrcWrite_eq rd _ _

/-- An MRC whose free bits are drawn reads them as any value (46 R563). -/
theorem readsFree_of {i : Instr} {mask v : Word} {op : CoproRead} (hp : s.privileged = true)
    (hexec : exec i s = transferFromCp15 cond rd op s) (hop : op s = freeBits mask v s) : ReadsFree i rd mask v s := by
  refine ⟨s.drawn, ?_⟩
  rw [hexec, transferFromCp15_privileged hc rd op hp, hop]
  rfl

end

/-! The statements. -/

/-- Settles O34 (`cp15Reads` itself names the rows): each row is an MRC of the register it names (`transferFromCp15_privileged`,
`readsFree_of`). -/
theorem cp15Reads_hold : Obligations.Cp15Reads := by
  intro cond rd s hc hp
  have hread := fun op => transferFromCp15_privileged hc rd op hp
  refine ⟨hread readId, ?control, hread readTtb, hread readDacr, ?fsr, hread readFar, hread readTlbLockdown, ?pid,
    hread readProcId, ?testState, hread readC15C, hread readC15M, hread readC15M⟩
  case control => exact readsFree_of hc rd hp (op := readControl) rfl (by rw [← controlBits_eq]; rfl)
  case fsr => exact readsFree_of hc rd hp (op := readFsr) rfl rfl
  case pid => exact readsFree_of hc rd hp (op := readPid) rfl rfl
  case testState => exact readsFree_of hc rd hp (op := readTestState) rfl (by rw [← setWidth_ofBool]; rfl)

/-- Settles O35 (`cp15Writes` itself names the rows): each row is an MCR to the register it names (`transferToCp15_privileged`). -/
theorem cp15Writes_hold : Obligations.Cp15Writes := by
  rintro cond rd s _ hc hp rfl
  have hwrite := fun op => transferToCp15_privileged hc rd op hp
  exact ⟨hwrite writeControl, hwrite writeTtb, hwrite writeDacr, hwrite writeFsr, hwrite writeFar, hwrite writeTlbLockdown,
    hwrite writePid, hwrite writeProcId, hwrite writeTestState, hwrite writeC15C⟩

/-- Each test operation is an MCR that takes effect only in the test state (46 R589). -/
theorem exec_testOperations_whenTesting {cond : Cond} {rd : RegNum} {i : Instr} (h : i ∈ testOperations cond rd) (s : State) :
    ∃ op, exec i s = transferToCp15 cond rd (whenTesting op) s := by
  simp only [testOperations, List.mem_cons, List.not_mem_nil, or_false] at h
  rcases h with rfl | rfl | rfl | rfl | rfl | rfl | rfl | rfl | rfl | rfl | rfl | rfl <;> exact ⟨_, rfl⟩

/-- Settles O41: outside the test state a test operation advances whether its condition passes or fails, and a register with no row
ignores writes and reads any value (`cp15Write_reserved`, `cp15Read_reserved`). -/
theorem reservedCp15Registers : Obligations.ReservedCp15Registers := by
  refine ⟨fun cond rd s i hi hp hoff => ?_, fun cond rd op1 op2 crm crn s hc hp => ⟨fun hcrn => ?_, fun hcrn => ?_⟩⟩
  · obtain ⟨op, hexec⟩ := exec_testOperations_whenTesting hi s
    rw [hexec]
    cases hc : condPassed cond s.cpsr with
    | false => exact conditionally_fail hc
    | true => rw [transferToCp15_privileged hc rd _ hp, whenTesting_off _ hoff]
  · change transferToCp15 cond rd (cp15Write op1 crn crm op2) s = _
    rw [cp15Write_reserved op1 crm op2 hcrn, transferToCp15_privileged hc rd _ hp, writeNothing]
  · refine ⟨s.drawn, ?_⟩
    change transferFromCp15 cond rd (cp15Read op1 crn crm op2) s = _
    rw [cp15Read_reserved op1 crm op2 hcrn, transferFromCp15_privileged hc rd _ hp, readAny]

/-- Settles O42: in every mode a transfer reads or writes the register it names (`transferFromCp14_eq`, `transferToCp14_eq`), and the
registers not listed ignore writes and read any value. -/
theorem cp14Transfers : Obligations.Cp14Transfers := by
  rintro cond op1 rd op2 crm s _ hc rfl
  refine ⟨?control, transferFromCp14_eq hc rd readDccData, transferToCp14_eq hc rd writeDccData, ?status,
    transferToCp14_eq hc rd writeAbortStatus, fun crn hcrn => ?writes, fun crn hcrn => ?reads⟩
  case control =>
    rw [← dccControl_eq]
    exact transferFromCp14_eq hc rd readDccControl
  case status =>
    rw [← setWidth_ofBool]
    exact transferFromCp14_eq hc rd readAbortStatus
  case writes =>
    change transferToCp14 cond rd (cp14Write crn) s = _
    rw [cp14Write_unlisted hcrn, transferToCp14_eq hc, writeNothing]
  case reads =>
    refine ⟨s.drawn, ?_⟩
    change transferFromCp14 cond rd (cp14Read crn) s = _
    rw [cp14Read_unlisted hcrn, transferFromCp14_eq hc, readAny]

end Sys2Proof.Claims
end

section
/-! PROOFS. Invalidation of the cache and the TLB (46 R572 to R574), and cache lockdown (46 R588). -/

namespace Sys2Proof.Machine

theorem invalidateCache_lines (s : State) (k : Fin 256) :
    s.invalidateCache.cache.lines[k] = { s.cache.lines[k] with valid := false } := Vector.getElem_map _ _

theorem invalidateTlbWhere_entries (s : State) (gone : TlbEntry → Bool) (k : Fin 64) :
    (s.invalidateTlbWhere gone).tlb.entries[k] =
      if gone s.tlb.entries[k] then { s.tlb.entries[k] with valid := false } else s.tlb.entries[k] := Vector.getElem_map _ _

/-! The segment a value names. -/

theorem val_segmentOf (v : Word) : (segmentOf v).val = (v.extractLsb' 5 2).toNat := Nat.mod_eq_of_lt (BitVec.isLt _)

theorem segmentOf_eq {v : Word} {g : Fin 4} (h : g.val = (v.extractLsb' 5 2).toNat) : segmentOf v = g :=
  Fin.ext ((val_segmentOf v).trans h.symm)

/-- What the segments hold after that of a value is written. -/
theorem getElem_setSegment {α : Type} (xs : Vector α 4) (v : Word) (x : α) (g : Fin 4) :
    (xs.set (segmentOf v) x)[g] = if g.val = (v.extractLsb' 5 2).toNat then x else xs[g] := by
  rw [← val_segmentOf]
  exact (Vector.getElem_set _ _).trans (if_congr eq_comm rfl rfl)

end Sys2Proof.Machine

namespace Sys2Proof.Claims

open Sys2Proof.Machine

/-- An MCR that invalidates the entries a predicate names leaves the rest of the machine. -/
theorem tlbInvalidated_of {cond : Cond} {rd : RegNum} {i : Instr} {op : CoproWrite} {gone : State → TlbEntry → Bool}
    (hexec : ∀ s, exec i s = transferToCp15 cond rd op s)
    (hop : ∀ s, op (if rd = 15#4 then s.pc + 12#32 else s.reg rd) s = s.invalidateTlbWhere (gone s)) :
    TlbInvalidated cond i gone := fun s hc hp =>
  ⟨(s.invalidateTlbWhere (gone s)).advance, by rw [hexec, transferToCp15_privileged hc rd op hp, hop],
    invalidateTlbWhere_entries s (gone s), rfl⟩

/-- Settles O36: the lines and the entries are mapped one by one (`invalidateCache_lines`, `invalidateTlbWhere_entries`), and the three
CRm values of each TLB operation name the same one. -/
theorem invalidations : Obligations.Invalidations := by
  intro cond rd
  refine ⟨fun s hc hp => ?cache, fun i hi => ?all, fun i hi => ?matching⟩
  case cache =>
    exact ⟨s.invalidateCache.advance, transferToCp15_privileged hc rd writeInvalidateCache hp, invalidateCache_lines s, rfl⟩
  case all =>
    refine tlbInvalidated_of (rd := rd) (op := writeInvalidateTlb) (fun s => ?_) fun _ => rfl
    simp only [List.mem_cons, List.not_mem_nil, or_false] at hi
    rcases hi with rfl | rfl | rfl <;> rfl
  case matching =>
    refine tlbInvalidated_of (rd := rd) (op := writeInvalidateTlbEntry) (fun s => ?_) fun _ => rfl
    simp only [List.mem_cons, List.not_mem_nil, or_false] at hi
    rcases hi with rfl | rfl | rfl <;> rfl

/-- Settles O37: the base form fills the pointers and modes of every segment, the victim form sets those of one
(`getElem_setSegment`). -/
theorem cacheLockdown : Obligations.CacheLockdown := by
  rintro cond rd s v i hc hp rfl
  refine ⟨fun hi => ?base, fun hi => ?victim⟩
  case base =>
    have hexec : exec i s = transferToCp15 cond rd writeCacheBase s := by rcases hi with rfl | rfl <;> rfl
    rw [hexec, transferToCp15_privileged hc rd _ hp]
    exact ⟨_, rfl, rfl, fun g => ⟨Vector.getElem_replicate _, Vector.getElem_replicate _, Vector.getElem_replicate _⟩, rfl, rfl⟩
  case victim =>
    have hexec : exec i s = transferToCp15 cond rd writeCacheVictim s := by rcases hi with rfl | rfl <;> rfl
    rw [hexec, transferToCp15_privileged hc rd _ hp]
    refine ⟨_, rfl, rfl, fun g => ⟨getElem_setSegment _ _ _ g, ?camOnly, ?forced⟩, rfl, rfl⟩
    case camOnly => exact (getElem_setSegment _ _ _ g).trans (Bool.if_true_left _ _)
    case forced => exact (getElem_setSegment _ _ _ g).trans (Bool.if_true_left _ _)

end Sys2Proof.Claims
end

section
/-! PROOFS. The cache test operations in the test state (46 R582 to R587): each acts on the line of its segment's victim pointer. -/

namespace Sys2Proof.Machine

/-- A CAM operation moves the pointer of its segment on (46 R584). -/
theorem bumpCacheVictim_eq (s : State) (g : Fin 4) : s.bumpCacheVictim g =
    { s with cache := { s.cache with
        victim := s.cache.victim.set g (Claims.nextVictim s.cache.base s.cache.victim[g]) } } := rfl

/-- A RAM operation moves it unless CAM operations alone do (46 R584 (b)). -/
theorem bumpAfterRam_eq (s : State) (g : Fin 4) : s.bumpAfterRam g =
    { s with cache := { s.cache with
        victim := if s.cache.camOnly[g] then s.cache.victim
          else s.cache.victim.set g (Claims.nextVictim s.cache.base s.cache.victim[g]) } } := by
  unfold State.bumpAfterRam
  split <;> rfl

/-- Choosing a candidate changes no more than the free values. -/
theorem pick_draws (s : State) (ks : List Nat) : ∃ n : Nat, (s.pick ks).2 = { s with draws := n } := by
  match ks with
  | [] => exact ⟨s.draws, rfl⟩
  | [_] => exact ⟨s.draws, rfl⟩
  | _ :: _ :: _ => exact ⟨s.draws + 1, rfl⟩

/-- A CAM match writes C15.C and draws free values; a hit in one line shows it with bit 31, a miss sets bit 30 (46 R587). -/
theorem cacheCamMatch_writes {s : State} (v : Word) (h : s.cp15.testState = true) : ∃ (w : Word) (n : Nat),
    cacheCamMatch v s = { s with cp15 := { s.cp15 with c15c := w }, draws := n } ∧
    (s.cacheHits v = [] → w.extractLsb' 30 2 = 0b01#2) ∧
    ∀ k, s.cacheHits v = [k] →
      w = 0b10#2 ++ ((s.cacheLine (cacheSegment v) k).data[wordInLine v]).extractLsb' 0 30 := by
  rw [cacheCamMatch, whenTesting_on v h]
  rcases s.cacheHits v with _ | ⟨i, _ | ⟨j, rest⟩⟩
  case nil =>
    refine ⟨0b01#2 ++ s.drawn.extractLsb' 0 30, s.draws + 1, rfl, fun _ => ?_, fun k hk => nomatch hk⟩
    rw [append_field_high _ _ _ _ (by omega), field_all]
  case cons.nil => exact ⟨_, s.draws, rfl, (nomatch ·), fun _ hk => by obtain rfl := List.singleton_inj.mp hk; rfl⟩
  case cons.cons => exact ⟨_, s.draws + 1, rfl, (nomatch ·), fun k hk => nomatch hk⟩

end Sys2Proof.Machine

namespace Sys2Proof.Claims

open Sys2Proof.Machine

/-- What a test operation may change, then the next instruction. -/
theorem testFrame_of (s : State) (c15c c15m : Word) (cache : Cache) (tlb : Tlb) (draws : Nat) :
    TestFrame s (State.advance { s with
      cp15 := { s.cp15 with c15c := c15c, c15m := c15m }, cache := cache, tlb := tlb, draws := draws }) := rfl

/-- Settles O38. Each operation acts on the line that the pointer of its segment names (`segmentOf_eq`); a written line is read back
(`cacheLine_setCacheLine`), and the others stay (`setCacheLine_otherLines`). -/
theorem cacheTestOperations : Obligations.CacheTestOperations := by
  rintro cond rd s v g _ hc hp htest hv hg rfl
  have hexec := fun op => transferToCp15_testing hc rd op hp htest hv
  have hseg : segmentOf v = g := segmentOf_eq hg
  have hline : 64 * g.val + s.cache.victim[g].toNat < 256 := by
    have := s.cache.victim[g].isLt
    omega
  refine ⟨?camRead, ?camWrite, ?ramRead, ?ramWrite, ?camMatch⟩
  case camRead =>
    refine ⟨s.drawn.getLsbD 0, _, hexec _, ?_⟩
    rw [hseg, bumpCacheVictim_eq]
    exact ⟨testFrame_of s _ _ _ _ _, rfl, rfl, rfl⟩
  case camWrite =>
    refine ⟨_, hexec _, ?_⟩
    rw [hseg, bumpCacheVictim_eq]
    exact ⟨testFrame_of s _ _ _ _ _, rfl, rfl, rfl, cacheLine_setCacheLine s g.val _ _, setCacheLine_otherLines s _ hline⟩
  case ramRead =>
    refine ⟨_, hexec _, ?_⟩
    rw [hseg, bumpAfterRam_eq]
    exact ⟨testFrame_of s _ _ _ _ _, rfl, rfl, rfl⟩
  case ramWrite =>
    refine ⟨_, hexec _, ?_⟩
    rw [hseg, bumpAfterRam_eq]
    exact ⟨testFrame_of s _ _ _ _ _, rfl, rfl, rfl, cacheLine_setCacheLine s g.val _ _, setCacheLine_otherLines s _ hline⟩
  case camMatch =>
    obtain ⟨w, n, hmatch, hmiss, hhit⟩ := cacheCamMatch_writes v htest
    refine ⟨(cacheCamMatch v s).advance, ?_, ?_⟩
    · rw [hv]
      exact transferToCp15_privileged hc rd cacheCamMatch hp
    rw [hmatch]
    refine ⟨testFrame_of s _ _ _ _ _, rfl, rfl, rfl, hmiss, fun k hk => ?_⟩
    have hw := hhit k hk
    exact ⟨(congrArg _ hw).trans (by rw [append_field_high _ _ _ _ (by omega), field_all]),
      (congrArg _ hw).trans (by rw [append_field_low _ _ _ _ (by omega), field_all]; rfl)⟩

end Sys2Proof.Claims
end

section
/-! PROOFS. The TLB test operations in the test state (46 R591 to R598): CAM and RAM1 operations act on the victim's entry, RAM2 operations
on that of index2, and the CAM match looks an address up. -/

namespace Sys2Proof.Machine

theorem tlbEntry_setTlbEntry (s : State) (k : Nat) (e : TlbEntry) : (s.setTlbEntry k e).tlbEntry k = e :=
  Vector.getElem_set_self _

/-! The fields of a RAM1 word (46 R593, R597). -/

section
variable (protFault domainFault miss : Bool) (ram1 : BitVec 22)

theorem ram1Format_ram1 : (ram1Format protFault domainFault miss ram1).extractLsb' 0 22 = ram1 := by
  rw [ram1Format, append_field_low _ _ _ _ (by omega), field_all]

theorem ram1Format_miss : (ram1Format protFault domainFault miss ram1).getLsbD 22 = miss := by
  rw [ram1Format, append_bit_high _ _ 22 (by omega), append_bit_low _ _ _ (by omega), ofBool_bit]

theorem ram1Format_domainFault : (ram1Format protFault domainFault miss ram1).getLsbD 23 = domainFault := by
  rw [ram1Format, append_bit_high _ _ 23 (by omega), append_bit_high _ _ 1 (by omega), append_bit_low _ _ _ (by omega),
    ofBool_bit]

theorem ram1Format_protFault : (ram1Format protFault domainFault miss ram1).getLsbD 24 = protFault := by
  rw [ram1Format, append_bit_high _ _ 24 (by omega), append_bit_high _ _ 2 (by omega), append_bit_high _ _ 1 (by omega),
    append_bit_low _ _ _ (by omega), ofBool_bit]

theorem ram1Format_high : (ram1Format protFault domainFault miss ram1).extractLsb' 25 7 = 0#7 := by
  rw [ram1Format, append_field_high _ _ 25 _ (by omega), append_field_high _ _ 3 _ (by omega),
    append_field_high _ _ 2 _ (by omega), append_field_high _ _ 1 _ (by omega), field_all]

end

/-! The CAM match. -/

/-- A CAM match writes a RAM1 word to C15.M and draws free values, whatever it finds (46 R597). -/
theorem tlbCamMatch_writes {s : State} (v : Word) (h : s.cp15.testState = true) :
    ∃ (p d m : Bool) (r : BitVec 22) (n : Nat),
      tlbCamMatch v s = { s with cp15 := { s.cp15 with c15m := ram1Format p d m r }, draws := n } := by
  obtain ⟨n, hn⟩ : ∃ n : Nat, (s.tlbLookup v).2 = { s with draws := n } := pick_draws s _
  rw [tlbCamMatch, whenTesting_on v h]
  dsimp only
  rw [hn]
  split
  · exact ⟨_, _, _, _, _, rfl⟩
  · exact ⟨_, _, _, _, _, rfl⟩

/-- An address that no entry matches sets the miss flag. -/
theorem tlbCamMatch_none {s : State} {v : Word} (h : s.cp15.testState = true)
    (hnone : ∀ k : Nat, k < 64 → tlbMatches (s.tlbEntry k) v = false) :
    ∃ (p d : Bool) (r : BitVec 22), (tlbCamMatch v s).cp15.c15m = ram1Format p d true r := by
  rw [tlbCamMatch, whenTesting_on v h, tlbLookup_none hnone]
  exact ⟨_, _, _, rfl⟩

/-- The one entry that matches is shown with its fault flags. -/
theorem tlbCamMatch_unique {s : State} {v : Word} {j : Nat} (h : s.cp15.testState = true)
    (hj : (List.range 64).filter (fun k => tlbMatches (s.tlbEntry k) v) = [j]) :
    (tlbCamMatch v s).cp15.c15m = ram1Format (s.matchProtFault (s.tlbEntry j)) (s.matchDomainFault (s.tlbEntry j)) false
      (s.tlbEntry j).ram1 := by
  rw [tlbCamMatch, whenTesting_on v h, Claims.tlbLookup_unique hj]
  rfl

end Sys2Proof.Machine

namespace Sys2Proof.Claims

open Sys2Proof.Machine

theorem setTlbEntry_otherEntries (s : State) {k : Nat} (e : TlbEntry) (h : k < 64) :
    OtherEntriesSame k s (s.setTlbEntry k e) := fun j hj =>
  Vector.getElem_set_ne (Fin.isLt _) j.isLt fun eq => hj (by rw [← eq]; exact Nat.mod_eq_of_lt h)

/-! The fault flags of an entry whose RAM1 holds a domain and a permission (21 R191, R197). -/

section
variable {e : TlbEntry} {domain : BitVec 4} {ap : BitVec 2} {c b : Bool} (h : e.ram1 = ram1Of domain ap c b) (s : State)
include h

theorem matchDomainFault_ram1 : s.matchDomainFault e = !(s.cp15.dacr.getLsbD (2 * domain.toNat)) := by
  rw [State.matchDomainFault, entryDomain_ram1 h, domainAccess_eq, append_bit_low _ _ _ (by omega), ofBool_bit]

theorem matchProtFault_ram1 (hp : s.privileged = true) : s.matchProtFault e =
    (!(s.cp15.dacr.getLsbD (2 * domain.toNat + 1) && s.cp15.dacr.getLsbD (2 * domain.toNat)) &&
      !(allowed ap s.cp15.s s.cp15.r true false)) := by
  have manager : ∀ x y : Bool, (BitVec.ofBool x ++ BitVec.ofBool y != 0b11#2) = !(x && y) := by decide
  rw [State.matchProtFault, entryDomain_ram1 h, entryAp_ram1 h, domainAccess_eq, permitted_eq_allowed, manager, hp]

end

/-- Settles O39. CAM, RAM1 and RAM2 operations read or write one entry (`tlbEntry_setTlbEntry`, `setTlbEntry_otherEntries`); a CAM match
shows the entry it finds, with the fault flags of its domain and permission (`matchDomainFault_ram1`, `matchProtFault_ram1`). -/
theorem tlbTestOperations : Obligations.TlbTestOperations := by
  rintro cond rd s v _ _ hc hp htest hv rfl rfl
  have hexec := fun op => transferToCp15_testing hc rd op hp htest hv
  have hvictim := s.tlb.victim.isLt
  have hindex2 := s.tlb.index2.isLt
  refine ⟨?camRead, ?camWrite, ?ram1Read, ?ram1Write, ?ram2Read, ?ram2Write, ?camMatch⟩
  case camRead => exact ⟨_, hexec _, testFrame_of s _ _ _ _ _, rfl, rfl, rfl⟩
  case camWrite =>
    exact ⟨_, hexec _, testFrame_of s _ _ _ _ _, rfl, rfl, rfl, tlbEntry_setTlbEntry s _ _, setTlbEntry_otherEntries s _ hvictim⟩
  case ram1Read => exact ⟨_, hexec _, testFrame_of s _ _ _ _ _, rfl, rfl, ram1Format_ram1 _ _ _ _, ram1Format_high _ _ _ _, rfl⟩
  case ram1Write =>
    exact ⟨_, hexec _, testFrame_of s _ _ _ _ _, rfl, rfl, rfl, tlbEntry_setTlbEntry s _ _, setTlbEntry_otherEntries s _ hvictim⟩
  case ram2Read => exact ⟨_, hexec _, testFrame_of s _ _ _ _ _, rfl, rfl, rfl⟩
  case ram2Write =>
    exact ⟨_, hexec _, testFrame_of s _ _ _ _ _, rfl, rfl, rfl, tlbEntry_setTlbEntry s _ _, setTlbEntry_otherEntries s _ hindex2⟩
  case camMatch =>
    obtain ⟨p, d, m, r, n, hmatch⟩ := tlbCamMatch_writes v htest
    have hc15m : (tlbCamMatch v s).cp15.c15m = ram1Format p d m r := by rw [hmatch]
    refine ⟨(tlbCamMatch v s).advance, ?exec, ?frame, ?tlb, ?cache, ?cp15, fun hnone => ?miss, ?high, fun j hj => ?hit⟩
    case exec =>
      rw [hv]
      exact transferToCp15_privileged hc rd tlbCamMatch hp
    case frame =>
      rw [hmatch]
      exact testFrame_of s _ _ _ _ _
    case tlb => rw [hmatch, State.advance_tlb]
    case cache => rw [hmatch, State.advance_cache]
    case cp15 => rw [hmatch, State.advance_cp15]
    case miss =>
      obtain ⟨p, d, r, hmiss⟩ := tlbCamMatch_none htest hnone
      rw [State.advance_cp15, hmiss, ram1Format_miss]
    case high => rw [State.advance_cp15, hc15m, ram1Format_high]
    case hit =>
      rw [State.advance_cp15, tlbCamMatch_unique htest hj]
      refine ⟨ram1Format_miss _ _ _ _, ram1Format_ram1 _ _ _ _, fun domain ap c b hram => ⟨?_, ?_⟩⟩
      · rw [ram1Format_domainFault, matchDomainFault_ram1 hram]
      · rw [ram1Format_protFault, matchProtFault_ram1 hram s hp]

end Sys2Proof.Claims
end

section
/-! PROOFS. The step of a core that runs (60 R643): the state in which the first slot of the queue reaches execution, the exceptions
entered there (60 R620, R621), and the order of interrupts and aborts (60 R641). -/

namespace Sys2Proof.Machine

/-! Taking an exception. -/

theorem onNext_onNext (r : Result) (f g : State → State) : onNext (onNext r f) g = onNext r fun t => g (f t) := by
  cases r <;> rfl

/-- The state an exception is taken to is the state it is taken from but for the link register, the SPSR of its mode, the CPSR, the PC
and the queue. -/
theorem takeException_changes (s : State) (e : Exception) : ∃ fiq svc abt irq und, s.takeException e = { s with
    gpr := s.gpr.set (physIndex (exceptionMode e) 14#4) (exceptionLink e s.cpsr.t s.pc)
    cpsr := { s.cpsr with m := exceptionMode e, t := false, i := true, f := s.cpsr.f || (e == .fiq) }
    spsrFiq := fiq, spsrSvc := svc, spsrAbt := abt, spsrIrq := irq, spsrUnd := und
    pc := s.vectorBase + exceptionOffset e, queue := [] } := by
  cases e <;> exact ⟨_, _, _, _, _, rfl⟩

theorem takeException_saved (s : State) (e : Exception) :
    (s.takeException e).spsrOf (exceptionMode e) = some s.cpsr := by
  cases e <;> rfl

/-- Writing the SPSR of a mode leaves those of the others. -/
theorem setSpsrOf_spsrOf_other (s : State) {m n : BitVec 5} (p : Psr) (h : m ≠ n) :
    (s.setSpsrOf n p).spsrOf m = s.spsrOf m := by
  unfold State.setSpsrOf
  split_ifs with hfiq hsvc habt hirq hund
  · subst hfiq; rw [State.spsrOf, State.spsrOf, if_neg h, if_neg h]
  · subst hsvc; simp only [State.spsrOf, if_neg h]
  · subst habt; simp only [State.spsrOf, if_neg h]
  · subst hirq; simp only [State.spsrOf, if_neg h]
  · subst hund; simp only [State.spsrOf, if_neg h]
  · rfl

theorem takeException_spsrOf (s : State) (e : Exception) {m : BitVec 5} (h : m ≠ exceptionMode e) :
    (s.takeException e).spsrOf m = s.spsrOf m := by
  exact setSpsrOf_spsrOf_other _ s.cpsr h

theorem takeException_link (s : State) (e : Exception) :
    (s.takeException e).gpr[physIndex (exceptionMode e) 14#4] = exceptionLink e s.cpsr.t s.pc := by
  obtain ⟨_, _, _, _, _, h⟩ := takeException_changes s e
  rw [h]
  exact Vector.getElem_set_self _

theorem takeException_gpr (s : State) (e : Exception) {k : Fin 30} (h : k ≠ physIndex (exceptionMode e) 14#4) :
    (s.takeException e).gpr[k] = s.gpr[k] := by
  obtain ⟨_, _, _, _, _, hs⟩ := takeException_changes s e
  rw [hs]
  exact Vector.getElem_set_ne (Fin.isLt _) k.isLt fun hk => h (Fin.ext hk.symm)

/-- An interrupt saves the address of the instruction not executed + 4 (60 R620). -/
theorem pendingInterrupt_link {s : State} {e : Exception} (h : s.pendingInterrupt = some e) (t : Bool) (a : Word) :
    exceptionLink e t a = a + 4#32 := by
  unfold State.pendingInterrupt at h
  split_ifs at h <;> cases h <;> rfl

/-! The step of the core. -/

/-- The queue is not empty once it has been filled. -/
theorem fillQueue_ne_nil (s : State) (n : Nat) : (s.fillQueue (n + 1)).queue ≠ [] := by
  cases hq : s.queue with
  | nil =>
    obtain ⟨rest, h⟩ := fillQueue_first hq n
    rw [h]
    exact List.cons_ne_nil _ _
  | cons q rest =>
    obtain ⟨more, h⟩ := fillQueue_queue s (n + 1)
    rw [h, hq]
    exact List.cons_ne_nil _ _

end Sys2Proof.Machine

namespace Sys2Proof.Claims

open Sys2Proof.Machine

theorem entered (s : State) (e : Exception) :
    Entered e (exceptionLink e s.cpsr.t s.pc) s (s.takeException e) := by
  refine ⟨?_, ?_, ?_, takeException_link s e, takeException_saved s e, fun _ h => takeException_gpr s e h,
    fun _ h => takeException_spsrOf s e h, ?_, ?_⟩
  all_goals obtain ⟨_, _, _, _, _, h⟩ := takeException_changes s e; rw [h]
  · exact ⟨rfl, rfl, rfl, rfl⟩
  · rfl
  · exact ⟨rfl, rfl, rfl, rfl⟩
  · exact ⟨rfl, rfl, rfl, rfl, rfl, rfl, rfl, rfl, rfl, rfl⟩

/-- The vector of an exception, as one word (60 R640). -/
theorem vector_eq (s : State) (e : Exception) : (s.takeException e).pc =
    if s.cp15.v then 0xFFFF0000#32 + exceptionOffset e else 0#32 + exceptionOffset e := by
  obtain ⟨_, _, _, _, _, h⟩ := takeException_changes s e
  rw [h]
  show s.vectorBase + _ = _
  unfold State.vectorBase
  split <;> rfl

/-- Settles O17: what `takeException` writes (`takeException_changes`), with the link value and the vector of each exception. -/
theorem exceptionEntry : Obligations.ExceptionEntry := fun s =>
  ⟨entered s .undefined, entered s .swi, entered s .prefetchAbort, entered s .dataAbort, entered s .irq, entered s .fiq,
    rfl, rfl, rfl, rfl, rfl, rfl,
    vector_eq s .undefined, vector_eq s .swi, vector_eq s .prefetchAbort, vector_eq s .dataAbort, vector_eq s .irq,
    vector_eq s .fiq⟩

/-- r14 of the exception's mode reads as the link value, outside the slot of log 37. -/
theorem takeException_lr {s : State} (e : Exception) (h : s.bankHazard = false) :
    (s.takeException e).reg 14#4 = exceptionLink e s.cpsr.t s.pc := by
  have hmode : (s.takeException e).cpsr.m = exceptionMode e ∧ (s.takeException e).bankHazard = false := by
    obtain ⟨_, _, _, _, _, hs⟩ := takeException_changes s e
    rw [hs]
    exact ⟨rfl, h⟩
  rw [reg_gpr (by decide) hmode.2, ← takeException_link s e]
  simp only [hmode.1]

/-- The value a return instruction writes to r15 (60 R623). -/
def returnValue (e : Exception) (lr : Word) : Word :=
  match e with
  | .undefined => lr
  | .swi => lr
  | .prefetchAbort => lr - 4#32
  | .dataAbort => lr - 8#32
  | .irq => lr - 4#32
  | .fiq => lr - 4#32

theorem sub_value (a b : Word) (c : Bool) : ArithOp.sub.value a b c = a - b := by
  show BitVec.ofInt 32 (a.toInt - b.toInt) = _
  refine BitVec.eq_of_toInt_eq ?_
  rw [BitVec.toInt_ofInt, BitVec.toInt_sub]

/-- A return instruction writes r15 and restores the CPSR from the SPSR (40 R306, 60 R623). -/
theorem exec_returnInstr (e : Exception) {s : State} {p : Psr} (h : s.spsrOf s.cpsr.m = some p) :
    exec (returnInstr e) s =
      .next { s with cpsr := p, pc := alignPc p.t (returnValue e (s.reg 14#4)), queue := [] } := by
  have moves (v : Word) (hv : v = LogicOp.mov.value (s.reg 0#4) (DpForm.operand s (.shift 0#5 .lsl 14#4)).value) :
      exec (.movShift .al true 15#4 0#5 .lsl 14#4) s =
        .next { s with cpsr := p, pc := alignPc p.t v, queue := [] } :=
    (dataProcessingOfR15 (.shift 0#5 .lsl 14#4) .al 0#4 s _ v rfl trivial (.inl ⟨.mov, rfl, hv⟩)).2.1 p h
  have subtracts (imm8 : BitVec 8) (v : Word) (hv : v = s.reg 14#4 - (rotatedImm 0#4 imm8 s.cpsr.c).value) :
      exec (.subImm .al true 14#4 15#4 0#4 imm8) s = .next { s with cpsr := p, pc := alignPc p.t v, queue := [] } :=
    (dataProcessingOfR15 (.imm 0#4 imm8) .al 14#4 s _ v rfl trivial
      (.inr ⟨.sub, rfl, hv.trans (sub_value _ _ s.cpsr.c).symm⟩)).2.1 p h
  cases e with
  | undefined | swi => exact moves _ rfl
  | prefetchAbort | irq | fiq => exact subtracts 4#8 _ (congrArg (s.reg 14#4 - ·) (by decide : 4#32 = ror32 4#32 0))
  | dataAbort => exact subtracts 8#8 _ (congrArg (s.reg 14#4 - ·) (by decide : 8#32 = ror32 8#32 0))

/-- The link value, less what the return instruction takes from it, is the return address of Table 2-3 (60 R620, R623). -/
theorem returnValue_link (s : State) (e : Exception) :
    returnValue e (exceptionLink e s.cpsr.t s.pc) = returnPoint s e := by
  cases e with
  | undefined | swi => rfl
  | prefetchAbort | dataAbort | irq | fiq => exact BitVec.add_sub_cancel _ _

/-- Settles O19. -/
theorem exceptionReturn : Obligations.ExceptionReturn := by
  intro e s h
  have hsaved : (s.takeException e).spsrOf (s.takeException e).cpsr.m = some s.cpsr := by
    rw [(entered s e).atVector.mode]
    exact takeException_saved s e
  rw [exec_returnInstr e hsaved, takeException_lr e h, returnValue_link]

/-- A core that runs takes the step of the first slot of its queue. -/
theorem step_core {s : State} (h : CoreRuns s) {q : FetchSlot} {rest : List FetchSlot}
    (hq : (prefetched s).queue = q :: rest) : step s = onNext (boundary (prefetched s) q) ended := by
  have hfilled : (s.clearOutputs.beginInstr.fillQueue 3).queue = q :: rest := (prefetched_queue s).symm.trans hq
  have hrun : runFilled (s.clearOutputs.beginInstr.fillQueue 3) = boundary (prefetched s) q := by
    unfold runFilled prefetched
    dsimp only
    rw [hfilled]
  have hlegal : legalMode s.clearOutputs.cpsr.m = true := h.legal
  have hrunning : s.clearOutputs.dbg.halted = false := h.running
  have hclocked : s.clearOutputs.pins.hclken = true := h.clocked
  unfold step machineStep
  rw [h.noEvent]
  dsimp only
  rw [coreStep, if_pos hlegal, hrunning, if_neg Bool.false_ne_true, hrun]
  cases boundary (prefetched s) q with
  | next t =>
    simp only [onNext, State.awaitBus, hclocked, Bool.true_or, if_true]
    rfl
  | fault e => rfl
  | refused e => rfl

/-- What stands in the state in which the first slot executes is what stood before the step. -/
structure Begun (s p : State) : Prop where
  registers : p.gpr = s.gpr ∧ p.pc = s.pc ∧ p.cpsr = s.cpsr
  cp15 : p.cp15 = s.cp15
  pins : p.pins = s.pins
  tap : p.tap = s.tap
  control : p.ice.ctrl = s.ice.ctrl
  env : p.env = s.env

theorem prefetched_begun (s : State) : Begun s (prefetched s) :=
  have h := prefetched_fetched s
  ⟨⟨h.step.gpr, h.step.pc, h.step.cpsr⟩, h.unrecorded.cp15, h.step.pins, h.step.tap, h.step.iceCtrl, h.step.env⟩

/-- With nothing due at the boundary the slot executes (60 R643). -/
theorem boundary_executes {s : State} {q : FetchSlot} (hb : s.breakDue q = false) (hr : s.requestDue = false)
    (hi : s.pendingInterrupt = none) : boundary s q = executeSlot s q := by
  rw [boundary, hb, hr, hi]
  rfl

theorem boundary_interrupt {s : State} {q : FetchSlot} {e : Exception} (hb : s.breakDue q = false) (hr : s.requestDue = false)
    (hi : s.pendingInterrupt = some e) : boundary s q = .next (s.takeException e) := by
  rw [boundary, hb, hr, hi]
  rfl

/-- No breakpoint is due at a slot without a mark of its own (60 R643). -/
theorem breakDue_unmarked {s : State} {q : FetchSlot} (h : q.breakpoint = false) : s.breakDue q = false := by
  rw [State.breakDue, h]
  rfl

theorem monitorBreak_unmarked {s : State} {q : FetchSlot} (h : q.breakpoint = false) : s.monitorBreak q = false := by
  rw [State.monitorBreak, h]
  rfl

/-- A fetch that aborted takes the prefetch abort, unless it stands for a monitor mode breakpoint (60 R634, R650). -/
theorem executeSlot_aborted {s : State} {q : FetchSlot} (hm : q.mark = .aborted ∨ q.mark = .external)
    (hb : s.monitorBreak q = false) : executeSlot s q = .next (s.takeException .prefetchAbort) := by
  rcases hm with hm | hm
  · rw [executeSlot, hm, hb]
    rfl
  · rw [executeSlot, hm]

/-- A slot without a mark runs the instruction it decodes to. -/
theorem executeSlot_runs {s : State} {q : FetchSlot} {i : Instr} (hm : q.mark = .ok) (hb : s.monitorBreak q = false)
    (hi : s.decodeBits q.bits = .ok i) : executeSlot s q = onNext (exec i s) State.afterInstr := by
  rw [executeSlot, hm, hb]
  dsimp only
  rw [if_neg Bool.false_ne_true, runBits, hi]

/-- Nothing follows an instruction that hit no watchpoint. -/
theorem afterInstr_unwatched {t : State} (h : t.dbg.watchHit = false) : t.afterInstr = t := by
  rw [State.afterInstr, h]
  rfl

/-- Settles O3. -/
theorem stepRunsTheDecodedInstruction : Obligations.StepRunsTheDecodedInstruction := by
  intro s q rest i hs hq hm hb hr hp hi
  have hstep : step s = onNext (exec i (prefetched s)) fun t => ended t.afterInstr := by
    rw [step_core hs hq, boundary_executes (breakDue_unmarked hb) hr hp, executeSlot_runs hm (monitorBreak_unmarked hb) hi,
      onNext_onNext]
  refine ⟨hstep, fun t ht hw => ?_⟩
  rw [hstep, ht]
  exact congrArg (fun u => Host.Outcome.next (ended u)) (afterInstr_unwatched hw)

/-! The order of interrupts and aborts. -/

theorem pendingInterrupt_fiq {s : State} (hi : s.ifen = true) (hp : s.pins.fiq = true) (hm : s.cpsr.f = false) :
    s.pendingInterrupt = some .fiq := by
  rw [State.pendingInterrupt, hi, hp, hm]
  rfl

theorem pendingInterrupt_irq {s : State} (hi : s.ifen = true) (hf : s.pins.fiq = false ∨ s.cpsr.f = true)
    (hp : s.pins.irq = true) (hm : s.cpsr.i = false) : s.pendingInterrupt = some .irq := by
  rw [State.pendingInterrupt, hi, hp, hm, if_neg]
  · rfl
  · rcases hf with hf | hf <;> simp [hf]

theorem pendingInterrupt_none {s : State} (hf : s.pins.fiq = false ∨ s.cpsr.f = true)
    (hi : s.pins.irq = false ∨ s.cpsr.i = true) : s.pendingInterrupt = none := by
  rw [State.pendingInterrupt, if_neg, if_neg]
  · rcases hi with hi | hi <;> simp [hi]
  · rcases hf with hf | hf <;> simp [hf]

/-- Settles O20: the pins and the masks are those before the step (`prefetched_begun`), and the boundary asks them in that order. -/
theorem interruptPriority : Obligations.InterruptPriority := by
  intro s q rest hs hq hb hr hi
  obtain ⟨⟨-, -, hcpsr⟩, -, hpins, -, -, -⟩ := prefetched_begun s
  have taken {e : Exception} (he : (prefetched s).pendingInterrupt = some e) :
      step s = .next (ended ((prefetched s).takeException e)) := by
    rw [step_core hs hq, boundary_interrupt (breakDue_unmarked hb) hr he]
    rfl
  rw [← hcpsr, ← hpins]
  refine ⟨fun hp hm => taken (pendingInterrupt_fiq hi hp hm), fun hf hp hm => taken (pendingInterrupt_irq hi hf hp hm),
    fun hf hirq hmark => ?_⟩
  rw [step_core hs hq, boundary_executes (breakDue_unmarked hb) hr (pendingInterrupt_none hf hirq),
    executeSlot_aborted hmark (monitorBreak_unmarked hb)]
  rfl

end Sys2Proof.Claims
end

section
/-! PROOFS. Debug entry (61 R683 to R686, R720): the state a core enters debug state in, and the boundary in halt mode and in monitor
mode (60 R650, R651, 61 R704). -/

namespace Sys2Proof.Machine

/-- In halt mode a marked slot without an abort of its own is a breakpoint (61 R684). -/
theorem breakDue_marked {s : State} {q : FetchSlot} (hb : q.breakpoint = true) (hm : q.mark = .ok) (hen : s.pins.dbgen = true)
    (hhalt : s.ice.ctrl.getLsbD 4 = false) : s.breakDue q = true := by
  rw [State.breakDue, State.monitorMode, hb, hm, hen, hhalt]
  rfl

/-- A prefetch abort has priority over a breakpoint (60 R651). -/
theorem breakDue_aborted {s : State} {q : FetchSlot} (hm : q.mark = .aborted ∨ q.mark = .external) : s.breakDue q = false := by
  rcases hm with hm | hm <;> simp [State.breakDue, hm]

theorem breakDue_monitor {s : State} {q : FetchSlot} (h : s.ice.ctrl.getLsbD 4 = true) : s.breakDue q = false := by
  rw [State.breakDue, State.monitorMode, h]
  exact Bool.and_false _

theorem requestDue_monitor {s : State} (h : s.ice.ctrl.getLsbD 4 = true) : s.requestDue = false := by
  rw [State.requestDue, State.monitorMode, h]
  exact Bool.and_false _

theorem requestDue_halt {s : State} (hr : s.pins.dbgrq = true ∨ s.tap.dbgrqLatch = true) (hen : s.pins.dbgen = true)
    (hhalt : s.ice.ctrl.getLsbD 4 = false) : s.requestDue = true := by
  rw [State.requestDue, State.monitorMode, State.dbgrqi, hen, hhalt]
  rcases hr with hr | hr <;> simp [hr]

theorem monitorBreak_halt {s : State} {q : FetchSlot} (h : s.ice.ctrl.getLsbD 4 = false) : s.monitorBreak q = false := by
  rw [State.monitorBreak, State.monitorMode, h]
  exact Bool.and_false _

theorem boundary_break {s : State} {q : FetchSlot} (h : s.breakDue q = true) :
    boundary s q = .next s.takePending.enterByBreakpoint := if_pos h

theorem boundary_request {s : State} {q : FetchSlot} (hb : s.breakDue q = false) (hr : s.requestDue = true) :
    boundary s q = .next s.takePending.enterByRequest := by
  rw [boundary, hb, hr]
  rfl

theorem takePending_none {s : State} (h : s.pendingInterrupt = none) : s.takePending = s := by rw [State.takePending, h]

theorem takePending_some {s : State} {e : Exception} (h : s.pendingInterrupt = some e) : s.takePending = s.takeException e := by
  rw [State.takePending, h]

end Sys2Proof.Machine

namespace Sys2Proof.Claims

open Sys2Proof.Machine

/-- A core in debug state fetches nothing at the end of its step (61 R687). -/
theorem ended_halted {t : State} (h : t.dbg.halted = true) : ∃ tr : Trace, ended t = { t with trace := tr } := by
  have hrefill : t.refill = t := if_pos (by rw [h]; rfl)
  rw [ended, hrefill]
  exact driveEtm_changes t

/-- A core in debug state takes no step of its own (61 R687). -/
theorem step_halted {t : State} (he : t.env = []) (hl : legalMode t.cpsr.m = true) (hh : t.dbg.halted = true)
    (hs : t.dbg.systemSpeed = false) : step t = .next t.clearOutputs.driveEtm := by
  have hlegal : legalMode t.clearOutputs.cpsr.m = true := hl
  have hhalted : t.clearOutputs.dbg.halted = true := hh
  have hslow : t.clearOutputs.dbg.systemSpeed = false := hs
  rw [step, machineStep, he]
  dsimp only
  rw [coreStep, if_pos hlegal, if_pos hhalted, hslow]
  rfl

/-- Debug entry ends a step. -/
theorem step_enters {s t : State} {r : Result} (hstep : step s = onNext r ended) (hr : r = .next t)
    (hhalted : t.dbg.halted = true) : ∃ tr : Trace, step s = .next { t with trace := tr } := by
  obtain ⟨tr, h⟩ := ended_halted hhalted
  exact ⟨tr, by rw [hstep, hr, ← h]; rfl⟩

/-- Debug state entered from the mode of an interrupt that was pending, `n` bytes beyond its vector (60 R638). -/
structure InterruptedEntry (e : Exception) (n : Word) (u t : State) : Prop where
  mode : t.cpsr.m = exceptionMode e ∧ t.cpsr.i = true ∧ t.cpsr.t = false
  linked : t.gpr[physIndex (exceptionMode e) 14#4] = u.pc + 4#32
  saved : t.spsrOf (exceptionMode e) = some u.cpsr
  pc : t.pc = u.vectorBase + exceptionOffset e + n

theorem interruptedEntry {u : State} {e : Exception} (h : u.pendingInterrupt = some e) (k : Nat) (moe bit33 : Bool) :
    InterruptedEntry e (4#32 * BitVec.ofNat 32 (k - 1)) u (u.takePending.enterDebug k moe bit33) := by
  obtain ⟨hmode, hmask, harm, hpc⟩ := (entered u e).atVector
  have hbytes : (u.takeException e).instrBytes = 4#32 := by rw [State.instrBytes, harm]; rfl
  have hbase : (u.takeException e).vectorBase = u.vectorBase := by rw [State.vectorBase, (entered u e).others.1]; rfl
  rw [takePending_some h]
  refine ⟨⟨hmode, hmask, harm⟩, ?_, takeException_saved u e, ?_⟩
  · rw [← pendingInterrupt_link h u.cpsr.t u.pc]
    exact takeException_link u e
  · show (u.takeException e).pc + (u.takeException e).instrBytes * _ = _
    rw [hbytes, hpc, hbase]

/-- After an instruction with a watchpointed access an interrupt is taken first, unless the access aborted (61 R685, 60 R638). -/
theorem afterInstr_watched {u : State} (hw : u.dbg.watchHit = true) (hl : legalMode u.cpsr.m = true) : u.afterInstr =
    if u.dbg.dataAborted then u.enterDebug 3 false true
    else if u.pendingInterrupt.isSome then u.takePending.enterDebug 3 false true
    else u.enterDebug 4 false true := by
  rw [State.afterInstr, hw, hl]
  rfl

/-- Settles O52: the four entries of the boundary and of `afterInstr`, each with what `enterDebug` writes. -/
theorem haltModeEntersDebugState : Obligations.HaltModeEntersDebugState := by
  refine ⟨fun s p rest he hspeed htest hscan hreq => ?refused, fun s q rest hs hq hen hhalt => ?_⟩
  case refused =>
    have hspeed' : State.debugSpeed { s.clearOutputs with env := rest } = true := hspeed
    have hhigh : (p.dbgrq || p.dbgbreak) = true := by rcases hreq with h | h <;> simp [h]
    rw [step, machineStep, he]
    dsimp only
    rw [runEvent, changePins, htest, hscan, hspeed', hhigh]
    rfl
  have hstep := step_core hs hq
  obtain ⟨⟨hgpr, hpc, hcpsr⟩, hcp15, hpins, htap, hctrl, henv⟩ := prefetched_begun s
  rw [← hpins] at hen
  rw [← hctrl] at hhalt
  have hlegal : legalMode (prefetched s).cpsr.m = true := by rw [hcpsr]; exact hs.legal
  have hbytes : (prefetched s).instrBytes = s.instrBytes := by rw [State.instrBytes, hcpsr]; rfl
  have hbase : (prefetched s).vectorBase = s.vectorBase := by rw [State.vectorBase, hcp15]; rfl
  rw [← hpins, ← htap, ← hgpr, ← hcpsr, ← hpc, ← hcp15, ← hbytes, ← hbase]
  refine ⟨fun hb hm hi => ?breakpoint, fun hb hm hr hi => ?aborted, fun hb hr hi => ?request, fun e hi hdue => ?interrupted,
    fun i u hb hm hr hi hdec hu hw hl => ⟨fun e hab hpend => ?watchInterrupted, fun hnone => ?watched⟩⟩
  case breakpoint =>
    obtain ⟨tr, h⟩ := step_enters hstep (boundary_break (breakDue_marked hb hm hen hhalt)) rfl
    rw [takePending_none hi] at h
    exact ⟨_, h, rfl, rfl, rfl, rfl, rfl, rfl, rfl, step_halted (henv.trans hs.noEvent) hlegal rfl rfl⟩
  case aborted =>
    rw [hstep, boundary_executes (breakDue_aborted hm) hr hi, executeSlot_aborted hm (monitorBreak_halt hhalt)]
    rfl
  case request =>
    obtain ⟨tr, h⟩ := step_enters hstep (boundary_request (breakDue_unmarked hb) (requestDue_halt hr hen hhalt)) rfl
    rw [takePending_none hi] at h
    exact ⟨_, h, rfl, rfl, rfl, rfl, rfl, rfl, rfl⟩
  case interrupted =>
    rcases hdue with ⟨hb, hm⟩ | ⟨hb, hr⟩
    · obtain ⟨tr, h⟩ := step_enters hstep (boundary_break (breakDue_marked hb hm hen hhalt)) rfl
      obtain ⟨⟨hmode, hmask, harm⟩, hlink, hsaved, hvector⟩ := interruptedEntry hi 4 false false
      rw [hb]
      exact ⟨_, h, rfl, hmode, hmask, harm, hlink, hsaved, hvector⟩
    · obtain ⟨tr, h⟩ := step_enters hstep (boundary_request (breakDue_unmarked hb) (requestDue_halt hr hen hhalt)) rfl
      obtain ⟨⟨hmode, hmask, harm⟩, hlink, hsaved, hvector⟩ := interruptedEntry hi 3 true
        ((prefetched s).takePending.drawn.getLsbD 0)
      rw [hb]
      exact ⟨_, h, rfl, hmode, hmask, harm, hlink, hsaved, hvector⟩
  all_goals
    have hboundary : boundary (prefetched s) q = .next u.afterInstr := by
      rw [boundary_executes (breakDue_unmarked hb) hr hi, executeSlot_runs hm (monitorBreak_unmarked hb) hdec, hu]
      rfl
    rw [afterInstr_watched hw hl] at hboundary
  case watchInterrupted =>
    rw [hab, hpend] at hboundary
    obtain ⟨tr, h⟩ := step_enters hstep hboundary rfl
    obtain ⟨⟨hmode, hmask, harm⟩, hlink, hsaved, hvector⟩ := interruptedEntry hpend 3 false true
    exact ⟨_, h, rfl, rfl, rfl, hmode, hmask, harm, hlink, hsaved, hvector⟩
  case watched =>
    cases hab : u.dbg.dataAborted with
    | true =>
      rw [hab] at hboundary
      obtain ⟨tr, h⟩ := step_enters hstep hboundary rfl
      exact ⟨_, h, rfl, rfl, rfl, rfl, rfl, rfl, rfl, rfl⟩
    | false =>
      rw [hab] at hboundary hnone
      rw [hnone.resolve_left Bool.false_ne_true] at hboundary
      obtain ⟨tr, h⟩ := step_enters hstep hboundary rfl
      exact ⟨_, h, rfl, rfl, rfl, rfl, rfl, rfl, rfl, rfl⟩

end Sys2Proof.Claims
end

section
/-! PROOFS. What User mode leaves (60 R660): the part of the state that no access to memory, no fetch and no instruction of User mode
changes but by an exception. -/

namespace Sys2Proof.Machine

/-- What User mode leaves (60 R660): the banked registers, the mode and the interrupt masks, the SPSRs, CP15 but FSR and FAR, and the
lockdown fields of the cache and the TLB; with what the debug logic asks of the core. -/
structure UserPart where
  banked : Fin 15 → Word
  mode : BitVec 5
  irqMask : Bool
  fiqMask : Bool
  spsrFiq : Psr
  spsrSvc : Psr
  spsrAbt : Psr
  spsrIrq : Psr
  spsrUnd : Psr
  cp15 : Cp15
  cacheBase : BitVec 6
  camOnly : Vector Bool 4
  tlbBase : BitVec 6
  tlbPreserve : Bool
  index2 : BitVec 6
  debugControl : BitVec 6

/-- That part of a state. -/
def State.userPart (s : State) : UserPart :=
  { banked := fun k => s.gpr[k.val + 15]
    mode := s.cpsr.m
    irqMask := s.cpsr.i
    fiqMask := s.cpsr.f
    spsrFiq := s.spsrFiq
    spsrSvc := s.spsrSvc
    spsrAbt := s.spsrAbt
    spsrIrq := s.spsrIrq
    spsrUnd := s.spsrUnd
    cp15 := { s.cp15 with fsr := 0, far := 0 }
    cacheBase := s.cache.base
    camOnly := s.cache.camOnly
    tlbBase := s.tlb.base
    tlbPreserve := s.tlb.p
    index2 := s.tlb.index2
    debugControl := s.ice.ctrl }

/-- An operation that leaves the part of User mode and the debug state. -/
structure Untouched (s t : State) : Prop where
  part : t.userPart = s.userPart
  dbg : t.dbg = s.dbg

theorem Untouched.refl (s : State) : Untouched s s := ⟨rfl, rfl⟩

theorem Untouched.trans {s t u : State} (h : Untouched s t) (k : Untouched t u) : Untouched s u :=
  ⟨k.part.trans h.part, k.dbg.trans h.dbg⟩

/-! The bus and the write buffer. -/

theorem drew_untouched (s : State) : Untouched s s.drew := ⟨rfl, rfl⟩

theorem busRead_untouched (s : State) (a : Word) (size : Size) (shape : BusShape) (prot : BitVec 4) (lock : Bool) :
    Untouched s (busRead s a size shape prot lock).state := by
  unfold busRead
  cases s.regionOf (sizeAlign size a) <;> exact ⟨rfl, rfl⟩

theorem busWrite_untouched (s : State) (e : BufferedWrite) (lock : Bool) : Untouched s (busWrite s e lock).1 := by
  obtain ⟨m, b, x, h⟩ := busWrite_changes s e lock
  rw [h]
  exact ⟨rfl, rfl⟩

theorem drainOne_untouched (s : State) : Untouched s s.drainOne := by
  obtain ⟨w, m, b, x, h⟩ := drainOne_changes s
  rw [h]
  exact ⟨rfl, rfl⟩

theorem drainAll_untouched (s : State) : Untouched s s.drainAll := by
  obtain ⟨w, m, b, x, h⟩ := drainAll_changes s
  rw [h]
  exact ⟨rfl, rfl⟩

theorem bufferWrite_untouched (s : State) (e : BufferedWrite) : Untouched s (s.bufferWrite e) := by
  unfold State.bufferWrite
  split
  · exact ⟨rfl, rfl⟩
  · exact (drainOne_untouched s).trans ⟨rfl, rfl⟩

theorem recordFault_untouched (s : State) (fs d : BitVec 4) (a : Word) : Untouched s (s.recordFault fs d a) := ⟨rfl, rfl⟩

theorem alignmentFault_untouched (s : State) (a : Word) : Untouched s (s.alignmentFault a) :=
  (drew_untouched s).trans (recordFault_untouched _ _ _ _)

theorem externalAbort_untouched (s : State) (m : Mapping) (a : Word) : Untouched s (s.externalAbort m a) :=
  (drew_untouched s).trans (recordFault_untouched _ _ _ _)

/-! The TLB and the cache: a walk and a line fetch write no lockdown field. -/

theorem pick_untouched (s : State) (ks : List Nat) : Untouched s (s.pick ks).2 := by
  obtain ⟨n, h⟩ := pick_draws s ks
  rw [h]
  exact ⟨rfl, rfl⟩

theorem fillTlb_untouched (s : State) (e : TlbEntry) : Untouched s (s.fillTlb e) := ⟨rfl, rfl⟩

theorem readDescriptor_untouched (s : State) (a : Word) : Untouched s (readDescriptor s a).2 :=
  (drainAll_untouched s).trans (busRead_untouched _ _ _ _ _ _)

theorem walk_untouched (s : State) (a : Word) : Untouched s (walk s a).2 := by
  unfold walk
  dsimp only
  split
  · exact readDescriptor_untouched s _
  · exact readDescriptor_untouched s _
  · exact (readDescriptor_untouched s _).trans (readDescriptor_untouched _ _)
  · exact (readDescriptor_untouched s _).trans (readDescriptor_untouched _ _)

theorem translate_untouched (s : State) (a : Word) (priv write : Bool) : Untouched s (translate s a priv write).2 := by
  unfold translate
  dsimp only
  split
  · split
    · exact pick_untouched s _
    · have h := (pick_untouched s _).trans (walk_untouched (s.tlbLookup a).2 a)
      split
      · exact h.trans (fillTlb_untouched _ _)
      · exact h.trans (drew_untouched _)
      · exact h
      · exact h
  · exact .refl s

theorem setCacheLine_untouched (s : State) (g i : Nat) (l : CacheLine) : Untouched s (s.setCacheLine g i l) := ⟨rfl, rfl⟩

theorem fetchLineWords_untouched (s : State) (a : Word) (prot : BitVec 4) (n : Nat) :
    Untouched s (fetchLineWords s a prot n).2 := by
  induction n with
  | zero => exact .refl s
  | succ n ih => exact ih.trans (busRead_untouched _ _ _ _ _ _)

theorem fillMovesVictim_untouched (s : State) (g : Fin 4) : Untouched s (s.fillMovesVictim g) := by
  unfold State.fillMovesVictim
  split <;> exact ⟨rfl, rfl⟩

theorem cachedRead_untouched (s : State) (mva pa : Word) (prot : BitVec 4) : Untouched s (cachedRead s mva pa prot).2 := by
  unfold cachedRead
  dsimp only
  split
  · exact pick_untouched s _
  · exact (pick_untouched s _).trans (((drainAll_untouched _).trans (fetchLineWords_untouched _ pa prot 8)).trans
      ((fillMovesVictim_untouched _ _).trans
        ((drew_untouched _).trans ((drew_untouched _).trans (setCacheLine_untouched _ _ _ _)))))

theorem externalOrCached_untouched (s : State) (mva : Word) (m : Mapping) (size : Size) (priv isData lock : Bool) :
    Untouched s (externalOrCached s mva m size priv isData lock).state := by
  unfold externalOrCached
  dsimp only
  split
  · exact cachedRead_untouched _ _ _ _
  · exact (drainAll_untouched s).trans (busRead_untouched _ _ _ _ _ _)

theorem updateCache_untouched (s : State) (mva : Word) (size : Size) (v : Word) :
    Untouched s (s.updateCache mva size v) :=
  foldl_relates Untouched.refl (fun _ _ _ => Untouched.trans) (fun t i => setCacheLine_untouched t _ i _) s _

theorem performWrite_untouched (s : State) (mva : Word) (m : Mapping) (size : Size) (v : Word) (priv lock : Bool) :
    Untouched s (performWrite s mva m size v priv lock).1 := by
  unfold performWrite
  dsimp only
  split
  · exact (updateCache_untouched s _ _ _).trans (bufferWrite_untouched _ _)
  · exact ((updateCache_untouched s _ _ _).trans (drainAll_untouched _)).trans (busWrite_untouched _ _ _)

/-! Fetches. -/

theorem observe_untouched (s : State) (o : Observed) : Untouched s (s.observe o) := by
  unfold State.observe State.compared
  split <;> exact ⟨rfl, rfl⟩

theorem makeSlot_untouched (s : State) (a w cell : Word) (mark : FetchMark) : Untouched s (makeSlot s a w cell mark).2 :=
  observe_untouched s _

theorem fetchSlot_untouched (s : State) (a : Word) : Untouched s (fetchSlot s a).2 := by
  unfold fetchSlot
  dsimp only
  have ht := translate_untouched s (s.relocate (wordAlign a)) s.privileged false
  split
  · exact ht.trans ((drew_untouched _).trans (makeSlot_untouched _ _ _ _ _))
  · exact ht.trans ((drew_untouched _).trans (makeSlot_untouched _ _ _ _ _))
  · exact ht.trans ((externalOrCached_untouched _ _ _ _ _ _ _).trans (makeSlot_untouched _ _ _ _ _))

theorem nextSlot_untouched (s : State) (a : Word) : Untouched s (nextSlot s a).2 := by
  unfold nextSlot
  split
  · split
    · exact makeSlot_untouched _ _ _ _ _
    · exact fetchSlot_untouched _ _
  · exact fetchSlot_untouched _ _

theorem queue_untouched (s : State) (q : List FetchSlot) : Untouched s { s with queue := q } := ⟨rfl, rfl⟩

theorem fillQueue_untouched (s : State) (n : Nat) : Untouched s (s.fillQueue n) := by
  induction n generalizing s with
  | zero => exact .refl s
  | succ n ih =>
    unfold State.fillQueue
    split
    · exact (nextSlot_untouched s _).trans ((queue_untouched _ _).trans (ih _))
    · exact .refl s

/-! Data accesses. -/

/-- An instruction of User mode under way: it leaves the part of User mode. A watchpoint is marked in halt mode only, and once an access
has been aborted, it is either marked as aborted or stands for a monitor mode watchpoint (60 R650, R651). -/
structure Confined (s : State) (aborted : Bool) (t : State) : Prop where
  part : t.userPart = s.userPart
  running : t.dbg.halted = s.dbg.halted
  watched : t.dbg.watchHit = true → t.monitorMode = false
  marked : aborted = true → t.dbg.dataAborted = true ∨ t.monitorMode = true

theorem monitorMode_userPart {s t : State} (h : t.userPart = s.userPart) : t.monitorMode = s.monitorMode := by
  exact congrArg (fun x : UserPart => x.debugControl.getLsbD 4) h

variable {s t u : State} {aborted : Bool}

/-- What concerns none of this. -/
theorem Confined.untouched (h : Confined s aborted t) (k : Untouched t u) : Confined s aborted u := by
  have hmonitor := monitorMode_userPart k.part
  refine ⟨k.part.trans h.part, by rw [k.dbg, h.running], ?_, ?_⟩
  · rw [k.dbg, hmonitor]; exact h.watched
  · rw [k.dbg, hmonitor]; exact h.marked

/-- How an access of User mode may end. -/
def Access.Confined (s : State) (aborted : Bool) : Access → Prop
  | .done _ t => Machine.Confined s aborted t
  | .abort t => Machine.Confined s true t
  | .refused _ => True

theorem watchOutcome_confined (h : Confined s aborted t) (hit : Bool) (v : Word) :
    Access.Confined s aborted (watchOutcome hit v t) := by
  unfold watchOutcome
  split
  · split
    · exact ⟨h.part, h.running, h.watched, fun _ => .inr ‹_›⟩
    · exact ⟨h.part, h.running, fun _ => Bool.eq_false_of_not_eq_true ‹_›, h.marked⟩
  · exact h

theorem Confined.markAborted (h : Confined s aborted t) : Confined s true t.markAborted :=
  ⟨h.part, h.running, h.watched, fun _ => .inl rfl⟩

/-- An aborted access is marked; the watchpoint it hit is marked beside it in halt mode only. -/
theorem abortSeen_confined (h : Confined s aborted t) (a : Word) (size : Size) (written : Option Word)
    (priv external : Bool) : Access.Confined s aborted (abortSeen t a size written priv external) := by
  have hwatch (hit : Bool) : Confined s aborted (t.abortedWatch hit external) := by
    unfold State.abortedWatch
    split
    · split
      · exact ⟨h.part, h.running, h.watched, h.marked⟩
      · exact ⟨h.part, h.running, fun _ => Bool.eq_false_of_not_eq_true ‹_›, h.marked⟩
    · exact h
  unfold abortSeen
  exact (((hwatch _).untouched (observe_untouched _ _)).untouched (drew_untouched _)).markAborted

theorem dataRead_confined (h : Confined s aborted t) (hrun : t.debugSpeed = false) (va : Word) (size : Size)
    (priv lock : Bool) : Access.Confined s aborted (dataRead t va size priv lock) := by
  have ht := h.untouched (translate_untouched t (t.relocate va) priv false)
  unfold dataRead
  dsimp only
  rw [hrun, if_neg Bool.false_ne_true]
  split
  · exact abortSeen_confined (h.untouched (alignmentFault_untouched _ _)) _ _ _ _ _
  · split
    · trivial
    · split
      · trivial
      · exact abortSeen_confined (ht.untouched (recordFault_untouched _ _ _ _)) _ _ _ _ _
      · have hr := ht.untouched (externalOrCached_untouched _ (t.relocate va) ‹Mapping› size priv true lock)
        split
        · exact abortSeen_confined (hr.untouched (externalAbort_untouched _ _ _)) _ _ _ _ _
        · exact watchOutcome_confined (hr.untouched (observe_untouched _ _)) _ _

theorem dataWrite_confined (h : Confined s aborted t) (hrun : t.debugSpeed = false) (va : Word) (size : Size) (v : Word)
    (priv lock : Bool) : Access.Confined s aborted (dataWrite t va size v priv lock) := by
  have ht := h.untouched (translate_untouched t (t.relocate va) priv true)
  unfold dataWrite
  dsimp only
  rw [hrun, if_neg Bool.false_ne_true]
  split
  · exact abortSeen_confined (h.untouched (alignmentFault_untouched _ _)) _ _ _ _ _
  · split
    · trivial
    · split
      · trivial
      · exact abortSeen_confined (ht.untouched (recordFault_untouched _ _ _ _)) _ _ _ _ _
      · split
        · exact watchOutcome_confined (ht.untouched (observe_untouched _ _)) _ _
        · have hw := ht.untouched (performWrite_untouched _ (t.relocate va) ‹Mapping› size
            (t.dataToSystem (replicateLanes size v)) priv lock)
          split
          · exact abortSeen_confined (hw.untouched (externalAbort_untouched _ _ _)) _ _ _ _ _
          · exact watchOutcome_confined (hw.untouched (observe_untouched _ _)) _ _

end Sys2Proof.Machine
end

section
/-! PROOFS. What an instruction does in User mode (60 R660): it leaves the part of User mode and the next instruction follows, or it takes
an exception. -/

namespace Sys2Proof.Machine

/-! A core in User mode. -/

/-- The core runs in User mode, and no watchpoint has been hit. -/
structure InUser (s : State) : Prop where
  mode : s.cpsr.m = modeUsr
  running : s.dbg.halted = false
  fresh : s.dbg.watchHit = false

theorem InUser.notPrivileged {s : State} (h : InUser s) : s.privileged = false := by
  rw [State.privileged, h.mode]
  rfl

theorem InUser.confined {s : State} (h : InUser s) : Confined s false s :=
  ⟨rfl, rfl, fun hw => absurd (h.fresh.symm.trans hw) Bool.false_ne_true, fun ha => absurd ha Bool.false_ne_true⟩

variable {s t : State} {aborted : Bool}

theorem Confined.mode (h : Confined s aborted t) (hs : InUser s) : t.cpsr.m = modeUsr :=
  (congrArg UserPart.mode h.part).trans hs.mode

theorem Confined.fullSpeed (h : Confined s aborted t) (hs : InUser s) : t.debugSpeed = false := by
  rw [State.debugSpeed, h.running, hs.running]
  rfl

/-! What leaves the part of User mode. -/

/-- A register number other than 15 names a register of User mode there. -/
theorem physIndex_user {r : RegNum} (hr : r ≠ 15#4) : (physIndex modeUsr r).val < 15 := by
  revert r
  decide

theorem setGpr_untouched {k : Fin 30} (v : Word) (hk : k.val < 15) : Untouched s { s with gpr := s.gpr.set k v } := by
  have hbanked : (fun i : Fin 15 => (s.gpr.set k v)[i.val + 15]) = fun i : Fin 15 => s.gpr[i.val + 15] :=
    funext fun i => Vector.getElem_set_ne _ _ (by omega)
  exact ⟨congrArg (fun b => ({ s.userPart with banked := b } : UserPart)) hbanked, rfl⟩

theorem setReg_untouched {r : RegNum} (v : Word) (hm : s.cpsr.m = modeUsr) (hr : r ≠ 15#4) : Untouched s (s.setReg r v) :=
  setGpr_untouched v (hm ▸ physIndex_user hr)

theorem setCpsr_untouched {p : Psr} (hm : p.m = s.cpsr.m) (hi : p.i = s.cpsr.i) (hf : p.f = s.cpsr.f) :
    Untouched s (s.setCpsr p) := by
  refine ⟨?_, rfl⟩
  show ({ s.userPart with mode := p.m, irqMask := p.i, fiqMask := p.f } : UserPart) = s.userPart
  rw [hm, hi, hf]
  rfl

theorem advance_untouched (s : State) : Untouched s s.advance := ⟨rfl, rfl⟩

theorem branchTo_untouched (s : State) (a : Word) : Untouched s (s.branchTo a) := ⟨rfl, rfl⟩

theorem copros_untouched (s : State) (cs : List Copro) : Untouched s { s with copros := cs } := ⟨rfl, rfl⟩

theorem dcc_untouched (s : State) (d : Dcc) (n : Nat) : Untouched s { s with dcc := d, draws := n } := ⟨rfl, rfl⟩

theorem keepFirstFault_untouched (b : BlockRun) (s : State) : Untouched s (keepFirstFault b s) := by
  unfold keepFirstFault
  split <;> exact ⟨rfl, rfl⟩

theorem Confined.setReg (h : Confined s aborted t) (hs : InUser s) {r : RegNum} (hr : r ≠ 15#4) (v : Word) :
    Confined s aborted (t.setReg r v) := h.untouched (setReg_untouched v (h.mode hs) hr)

theorem Confined.advance (h : Confined s aborted t) : Confined s aborted t.advance := h.untouched (advance_untouched t)

theorem Confined.branchTo (h : Confined s aborted t) (a : Word) : Confined s aborted (t.branchTo a) :=
  h.untouched (branchTo_untouched t a)

/-- A base is written back only where it is not r15. -/
theorem Confined.writeBack (h : Confined s aborted t) (hs : InUser s) {m : Addressing} {rn : RegNum}
    (hr : m.writeback = true → rn ≠ 15#4) : Confined s aborted (t.writeBack m rn) := by
  unfold State.writeBack
  split
  · exact h.setReg hs (hr ‹_›) _
  · exact h

/-! How an instruction of User mode ends. -/

/-- The state goes on in User mode, or an exception is taken, with a watchpoint hit before it only where an access aborted. -/
inductive UserStep (s : State) : State → Prop where
  | kept {t : State} (h : Confined s false t) : UserStep s t
  | exception {u : State} {aborted : Bool} (e : Exception) (h : Confined s aborted u)
      (hw : u.dbg.watchHit = true → u.dbg.dataAborted = true) : UserStep s (u.takeException e)

theorem UserStep.trap (hs : InUser s) (h : Untouched s t) (e : Exception) : UserStep s (t.takeException e) :=
  .exception e (hs.confined.untouched h) fun hw => absurd (hs.fresh.symm.trans (h.dbg ▸ hw)) Bool.false_ne_true

/-- An aborted access takes the data abort. -/
theorem UserStep.dataAbort (h : Confined s true t) : UserStep s (t.takeException .dataAbort) :=
  .exception .dataAbort h fun hw => (h.marked rfl).resolve_right fun hm =>
    absurd (hm.symm.trans (h.watched hw)) Bool.false_ne_true.symm

/-! Guards that say what they let pass. -/

theorem ends_guardPc_passed {P : State → Prop} {b : Bool} {r : Result} (h : b = false → Ends P r) : Ends P (guardPc b r) :=
  ends_ite (fun _ => ends_refused) (fun hb => h (Bool.eq_false_of_not_eq_true hb))

theorem ne_fifteen_of_beq {r : RegNum} (h : (r == 15#4) = false) : r ≠ 15#4 := beq_eq_false_iff_ne.mp h

theorem ends_guardBase_passed {P : State → Prop} {m : Addressing} {rn rd : RegNum} {r : Result}
    (h : (m.writeback = true → rn ≠ 15#4) → Ends P r) : Ends P (guardBase m rn rd r) :=
  ends_guardPc_passed fun hb => ends_guardClash (h fun hw => ne_fifteen_of_beq (by rw [hw, Bool.true_and] at hb; exact hb))

theorem ends_guardBlock_passed {P : State → Prop} {rn : RegNum} {regs : List RegNum} {r : Result}
    (h : rn ≠ 15#4 → Ends P r) : Ends P (guardBlock rn regs r) :=
  ends_guardPc_passed fun hb => ends_guardClash (h (ne_fifteen_of_beq hb))

/-! Data processing, status registers and branches. -/

section
variable (hs : InUser s)
include hs

/-- There is no exception return from User mode (U4). -/
theorem userStep_dpWrite {sets : Bool} {rd : RegNum} {r : Word} {flags : Psr} (hf : flags.sameControl s.cpsr) :
    Ends (UserStep s) (dpWrite sets rd r flags s) := by
  obtain ⟨hm, -, hi, hf⟩ := hf
  unfold dpWrite
  split
  · split
    · exact ends_exceptionReturn fun p hp => absurd ((spsrOf_user (.inl hs.mode)).symm.trans hp) (by simp)
    · exact ends_next (.kept (hs.confined.branchTo r))
  · have hw := hs.confined.setReg hs (r := rd) ‹_› r
    refine ends_next (.kept (Confined.advance (hw.untouched ?_)))
    split
    · exact setCpsr_untouched hm hi hf
    · exact setCpsr_untouched rfl rfl rfl

theorem userStep_dpLogical (sets : Bool) (rd : RegNum) (r : Word) (o : Shifted) :
    Ends (UserStep s) (dpLogical sets rd r o s) := userStep_dpWrite hs (psrLogical_control _ _ _)

theorem userStep_dpArith (sets : Bool) (rd : RegNum) (x : Sum) : Ends (UserStep s) (dpArith sets rd x s) :=
  userStep_dpWrite hs (psrArith_control _ _)

/-- Flags written, then the next instruction. -/
theorem userStep_flags {p : Psr} (hp : p.sameControl s.cpsr) : UserStep s (s.setCpsr p).advance := by
  obtain ⟨hm, -, hi, hf⟩ := hp
  exact .kept (hs.confined.untouched (setCpsr_untouched hm hi hf)).advance

theorem userStep_testLogical (r : Word) (c : Bool) : Ends (UserStep s) (dpTest (psrLogical s.cpsr r c) s) :=
  ends_next (userStep_flags hs (psrLogical_control _ _ _))

theorem userStep_testArith (x : Sum) : Ends (UserStep s) (dpTest (psrArith s.cpsr x) s) :=
  ends_next (userStep_flags hs (psrArith_control _ _))

theorem userStep_write {rd : RegNum} (hr : rd ≠ 15#4) (v : Word) : UserStep s (s.setReg rd v).advance :=
  .kept (hs.confined.setReg hs hr v).advance

theorem userStep_mulWrite (sets : Bool) {rd : RegNum} (hr : rd ≠ 15#4) (r : Word) :
    Ends (UserStep s) (mulWrite sets rd r s) := by
  have hw := (hs.confined.setReg hs hr r).advance
  unfold mulWrite
  dsimp only
  split
  · have hc : Untouched (s.setReg rd r).advance ((s.setReg rd r).advance.setCpsr (psrMul s.cpsr r s.drawn)) :=
      setCpsr_untouched rfl rfl rfl
    exact ends_next (.kept ((hw.untouched hc).untouched (drew_untouched _)))
  · exact ends_next (.kept hw)

theorem userStep_mulLongWrite (sets : Bool) {rdHi rdLo : RegNum} (hhi : rdHi ≠ 15#4) (hlo : rdLo ≠ 15#4) (r : BitVec 64) :
    Ends (UserStep s) (mulLongWrite sets rdHi rdLo r s) := by
  have hw := ((hs.confined.setReg hs hlo (r.extractLsb' 0 32)).setReg hs hhi (r.extractLsb' 32 32)).advance
  unfold mulLongWrite
  dsimp only
  split
  · have hc (t : State) (ht : t.cpsr = s.cpsr) : Untouched t (t.setCpsr (psrMulLong s.cpsr r s.drawn)) := by
      rw [← ht]
      exact setCpsr_untouched rfl rfl rfl
    exact ends_next (.kept ((hw.untouched (hc _ rfl)).untouched (drew_untouched _)))
  · exact ends_next (.kept hw)

theorem userStep_mrs (cond : Cond) (r : Bool) (rd : RegNum) : Ends (UserStep s) (execMrs cond r rd s) := by
  refine ends_conditionally (.kept hs.confined.advance) (ends_guardPc_passed fun hr => ?_)
  split
  · exact ends_refused
  · exact ends_next (userStep_write hs (ne_fifteen_of_beq hr) _)

/-- MSR writes the flags of the CPSR alone (41 R361); there is no SPSR. -/
theorem userStep_writeStatus (r : Bool) (mask : BitVec 4) (v : Word) : Ends (UserStep s) (writeStatus r mask v s) := by
  cases r with
  | true =>
    rw [writeStatus_noSpsr (spsrOf_user (.inl hs.mode))]
    exact ends_refused
  | false =>
    rw [writeStatus_cpsr (control := false) (by rw [hs.notPrivileged, hs.running]; rfl),
      if_pos fun h => absurd h Bool.false_ne_true]
    exact ends_next (userStep_flags hs ⟨rfl, rfl, rfl, rfl⟩)

theorem userStep_branchExchange (v : Word) : Ends (UserStep s) (branchExchange v s) := by
  have hstate : Untouched s (s.setCpsr { s.cpsr with t := v.getLsbD 0 }) := setCpsr_untouched rfl rfl rfl
  exact ends_next (.kept ((hs.confined.untouched hstate).branchTo v))

/-! Single transfers. -/

theorem userStep_writeResult {t : State} (h : Confined s false t) (rd : RegNum) (v : Word) : UserStep s (t.writeResult rd v) := by
  unfold State.writeResult
  split
  · exact .kept (h.branchTo v)
  · exact .kept (h.setReg hs ‹_› v).advance

theorem userStep_loadSingle (size : Size) (signed priv : Bool) {m : Addressing} {rn : RegNum} (rd : RegNum)
    (hr : m.writeback = true → rn ≠ 15#4) : Ends (UserStep s) (loadSingle size signed priv m rn rd s) := by
  have h := dataRead_confined hs.confined (hs.confined.fullSpeed hs) m.addr size priv false
  unfold loadSingle
  cases hd : dataRead s m.addr size priv false with rw [hd] at h
  | refused x => exact ends_refused
  | abort u => exact ends_next (.dataAbort (Confined.writeBack h hs hr))
  | done v u => exact ends_next (userStep_writeResult hs (Confined.writeBack h hs hr) rd _)

theorem userStep_storeSingle (size : Size) (priv : Bool) {m : Addressing} {rn : RegNum} (v : Word)
    (hr : m.writeback = true → rn ≠ 15#4) : Ends (UserStep s) (storeSingle size priv m rn v s) := by
  have h := dataWrite_confined hs.confined (hs.confined.fullSpeed hs) m.addr size v priv false
  unfold storeSingle
  cases hd : dataWrite s m.addr size v priv false with rw [hd] at h
  | refused x => exact ends_refused
  | abort u => exact ends_next (.dataAbort (Confined.writeBack h hs hr))
  | done _ u => exact ends_next (.kept (Confined.writeBack h hs hr).advance)

theorem userStep_checkedLoad (size : Size) (signed priv : Bool) (m : Addressing) (rn rd : RegNum) :
    Ends (UserStep s) (checkedLoad size signed priv m rn rd s) :=
  ends_guardBase_passed fun hr => userStep_loadSingle hs size signed priv rd hr

theorem userStep_checkedStore (size : Size) (priv : Bool) (m : Addressing) (rn rd : RegNum) :
    Ends (UserStep s) (checkedStore size priv m rn rd s) :=
  ends_guardBase_passed fun hr => userStep_storeSingle hs size priv _ hr

theorem userStep_swapWith (size : Size) (rn : RegNum) {rd : RegNum} (rm : RegNum) (hr : rd ≠ 15#4) :
    Ends (UserStep s) (swapWith size rn rd rm s) := by
  have h := dataRead_confined hs.confined (hs.confined.fullSpeed hs) (s.reg rn) size s.privileged true
  unfold swapWith
  dsimp only
  cases hd : dataRead s (s.reg rn) size s.privileged true with rw [hd] at h
  | refused x => exact ends_refused
  | abort u => exact ends_next (.dataAbort h)
  | done v u =>
    have h : Confined s false u := h
    have k := dataWrite_confined h (h.fullSpeed hs) (s.reg rn) size (s.reg rm) s.privileged true
    dsimp only
    cases hw : dataWrite u (s.reg rn) size (s.reg rm) s.privileged true with rw [hw] at k
    | refused x => exact ends_refused
    | abort w => exact ends_next (.dataAbort k)
    | done _ w => exact ends_next (.kept (Confined.setReg k hs hr _).advance)

/-! Block transfers. -/

/-- A block transfer of User mode under way. -/
abbrev BlockRun.Confined (s : State) (b : BlockRun) : Prop := Machine.Confined s b.aborted b.state

theorem loadWords_confined (priv : Bool) (regs : List RegNum) : ∀ (a : Word) (b c : BlockRun), b.Confined s →
    loadWords false priv regs a b = .ok c → c.Confined s := by
  induction regs with
  | nil => intro a b c hb h; cases h; exact hb
  | cons r rest ih =>
    intro a b c hb h
    have hd := dataRead_confined hb (hb.fullSpeed hs) a .word priv false
    unfold loadWords at h
    split at h
    · cases h
    next u hu =>
      rw [hu] at hd
      exact ih _ _ _ (hd.untouched (keepFirstFault_untouched b u)) h
    next v u hu =>
      rw [hu] at hd
      have hd : Confined s b.aborted u := hd
      split at h
      · exact ih _ _ _ hd h
      · split at h
        · exact ih _ _ _ hd h
        · exact ih _ _ _ (hd.setReg hs ‹_› v) h

theorem storeWords_confined (priv : Bool) {rn : RegNum} (hr : rn ≠ 15#4) (regs : List RegNum) :
    ∀ (wb : Option Word) (a : Word) (b c : BlockRun), b.Confined s →
      storeWords false priv rn wb regs a b = .ok c → c.Confined s := by
  have based {t : State} {aborted : Bool} (ht : Confined s aborted t) (wb : Option Word) :
      Confined s aborted (match wb with | some e => t.setReg rn e | none => t) := by
    cases wb with
    | none => exact ht
    | some e => exact ht.setReg hs hr e
  induction regs with
  | nil => intro wb a b c hb h; cases h; exact hb
  | cons r rest ih =>
    intro wb a b c hb h
    have hd := dataWrite_confined hb (hb.fullSpeed hs) a .word (blockStoreValue false b.state r) priv false
    unfold storeWords at h
    dsimp only at h
    split at h
    · cases h
    next u hu =>
      rw [hu] at hd
      exact ih _ _ _ _ (based (hd.untouched (keepFirstFault_untouched b u)) wb) h
    next u hu =>
      rw [hu] at hd
      exact ih _ _ _ _ (based hd wb) h

/-- LDM without the S bit: its other forms are refused in User mode (42 R414, R416). -/
theorem userStep_loadBlock (p u w : Bool) {rn : RegNum} (regs : List RegNum) (hr : rn ≠ 15#4) :
    Ends (UserStep s) (loadBlock false false p u w rn regs s) := by
  unfold loadBlock
  dsimp only
  split
  · exact ends_refused
  next b hb =>
    have hstart : Confined s false (if w then s.setReg rn (blockEnd u (s.reg rn) regs.length) else s) := by
      split
      · exact hs.confined.setReg hs hr _
      · exact hs.confined
    have hrun := loadWords_confined hs _ regs _ _ b hstart hb
    unfold finishLoad
    split
    next ha => exact ends_next (.dataAbort (Confined.setReg (ha ▸ hrun) hs hr _))
    next ha =>
      have hrun : Confined s false b.state := Bool.eq_false_of_not_eq_true ha ▸ hrun
      split
      · exact ends_next (.kept hrun.advance)
      · exact ends_next (.kept (hrun.branchTo _))

theorem userStep_storeBlock (p u w : Bool) {rn : RegNum} (regs : List RegNum) (hr : rn ≠ 15#4) :
    Ends (UserStep s) (storeBlock false p u w rn regs s) := by
  unfold storeBlock
  dsimp only
  split
  · exact ends_refused
  next b hb =>
    have hrun := storeWords_confined hs _ hr regs _ _ _ b hs.confined hb
    split
    next ha => exact ends_next (.dataAbort (ha ▸ hrun))
    next ha => exact ends_next (.kept (Confined.advance (Bool.eq_false_of_not_eq_true ha ▸ hrun)))

/-! Coprocessors. -/

/-- A transfer to or from CP15 takes the undefined instruction trap (10 R46). -/
theorem userStep_toCp15 (c : Cond) (rd : RegNum) (op : CoproWrite) : Ends (UserStep s) (transferToCp15 c rd op s) :=
  ends_transferToCp15 (.kept hs.confined.advance)
    (fun _ hp => absurd (hs.notPrivileged.symm.trans hp) Bool.false_ne_true) (.trap hs (.refl s) .undefined)

theorem userStep_fromCp15 (c : Cond) (rd : RegNum) (op : CoproRead) : Ends (UserStep s) (transferFromCp15 c rd op s) :=
  ends_transferFromCp15 (.kept hs.confined.advance)
    (fun hp => absurd (hs.notPrivileged.symm.trans hp) Bool.false_ne_true) (.trap hs (.refl s) .undefined)

theorem userStep_toCp14 (c : Cond) (rd : RegNum) {op : CoproWrite} (hop : WritesDcc op) :
    Ends (UserStep s) (transferToCp14 c rd op s) := by
  refine ends_transferToCp14 (.kept hs.confined.advance) fun v => ?_
  obtain ⟨d, hd⟩ := hop v s
  rw [hd]
  exact .kept (hs.confined.untouched (dcc_untouched s d s.draws)).advance

/-- An MRC of r15 writes the flags, of another register that register. -/
theorem userStep_mrcWrite {t : State} (ht : Untouched s t) (rd : RegNum) (v : Word) :
    Ends (UserStep s) (mrcWrite rd (v, t)) := by
  have h := hs.confined.untouched ht
  unfold mrcWrite
  split
  · have hflags : Untouched t (t.setCpsr (psrFlagsOf t.cpsr v)) := setCpsr_untouched rfl rfl rfl
    exact ends_next (.kept (h.untouched hflags).advance)
  · exact ends_next (.kept (h.setReg hs ‹_› v).advance)

theorem userStep_fromCp14 (c : Cond) (rd : RegNum) {op : CoproRead} (hop : ReadsDcc op) :
    Ends (UserStep s) (transferFromCp14 c rd op s) := by
  obtain ⟨d, n, hd⟩ := hop s
  refine ends_conditionally (.kept hs.confined.advance) (userStep_mrcWrite hs ?_ rd (op s).1)
  rw [hd]
  exact dcc_untouched s d n

theorem userStep_withCoprocessor {cp : BitVec 4} {body : Word → List Word → State → Result}
    (h : ∀ v ws cs, Ends (UserStep s) (body v ws { s with copros := cs })) : Ends (UserStep s) (withCoprocessor cp s body) :=
  ends_withCoprocessor (fun cs => .trap hs (copros_untouched s cs) .undefined)
    (fun cs => .kept (hs.confined.untouched (copros_untouched s cs))) h

/-- How LDC and STC may end in User mode. -/
def CopTransfer.Confined (s : State) : CopTransfer → Prop
  | .finished t => Machine.Confined s false t
  | .aborted t => Machine.Confined s true t
  | .refused _ => True

theorem copLoads_confined (cp : BitVec 4) (priv : Bool) (ws : List Word) : ∀ (a : Word) (t : State), Confined s false t →
    CopTransfer.Confined s (copLoads cp priv ws a t) := by
  induction ws with
  | nil => intro a t h; exact h
  | cons w rest ih =>
    intro a t h
    have hd := dataRead_confined h (h.fullSpeed hs) a .word priv false
    unfold copLoads
    split
    · trivial
    next u hu => rw [hu] at hd; exact hd
    next v u hu =>
      rw [hu] at hd
      exact ih _ _ (hd.untouched (copros_untouched u _))

theorem copStores_confined (priv : Bool) (ws : List Word) : ∀ (a : Word) (t : State), Confined s false t →
    CopTransfer.Confined s (copStores priv ws a t) := by
  induction ws with
  | nil => intro a t h; exact h
  | cons w rest ih =>
    intro a t h
    have hd := dataWrite_confined h (h.fullSpeed hs) a .word w priv false
    unfold copStores
    split
    · trivial
    next u hu => rw [hu] at hd; exact hd
    next u hu => rw [hu] at hd; exact ih _ _ hd

theorem userStep_copFinish {m : Addressing} {rn : RegNum} {r : CopTransfer} (hr : m.writeback = true → rn ≠ 15#4)
    (h : CopTransfer.Confined s r) : Ends (UserStep s) (copFinish m rn r) := by
  cases r with
  | refused x => exact ends_refused
  | aborted t => exact ends_next (.dataAbort (Confined.writeBack h hs hr))
  | finished t => exact ends_next (.kept (Confined.writeBack h hs hr).advance)

/-- The base of LDC and STC is not r15 where it is written back (43 R451). -/
theorem userStep_copTransfer {m : Addressing} {rn : RegNum} {r : CopTransfer} (h : CopTransfer.Confined s r) :
    Ends (UserStep s) (guardPc (m.writeback && rn == 15#4) (copFinish m rn r)) :=
  ends_guardPc_passed fun hb =>
    userStep_copFinish hs (fun hw => ne_fifteen_of_beq (by rw [hw, Bool.true_and] at hb; exact hb)) h

/-! Thumb instructions. -/

theorem userStep_thumbCondBranch (c : Cond) (off8 : BitVec 8) : Ends (UserStep s) (thumbCondBranch c off8 s) :=
  ends_ite (fun _ => ends_next (.kept (hs.confined.branchTo _))) (fun _ => ends_next (.kept hs.confined.advance))

theorem userStep_thumbLoad (size : Size) (signed : Bool) (a : Word) (rd : LowReg) :
    Ends (UserStep s) (thumbLoad size signed a rd s) :=
  userStep_loadSingle hs _ _ _ _ fun h => absurd h Bool.false_ne_true

theorem userStep_thumbStore (size : Size) (a : Word) (rd : LowReg) : Ends (UserStep s) (thumbStore size a rd s) :=
  userStep_storeSingle hs _ _ _ fun h => absurd h Bool.false_ne_true

/-- BL saves the address of the next instruction (41 R366, 45 R538). -/
theorem userStep_link (v a : Word) : UserStep s ((s.setReg 14#4 v).branchTo a) :=
  .kept ((hs.confined.setReg hs (by decide) v).branchTo a)

/-! Every instruction. -/

/-- Each instruction ends in User mode as the operation that it shares with others does. -/
theorem exec_userStep (i : Instr) : Ends (UserStep s) (exec i s) := by
  have pass {c : Cond} {body : Result} (h : Ends (UserStep s) body) : Ends (UserStep s) (conditionally c s body) :=
    ends_conditionally (.kept hs.confined.advance) h
  cases i with
  | andImm | andShift | eorImm | eorShift | orrImm | orrShift | movImm | movShift | bicImm | bicShift | mvnImm | mvnShift =>
    exact pass (userStep_dpLogical hs _ _ _ _)
  | andRegShift | eorRegShift | orrRegShift | movRegShift | bicRegShift | mvnRegShift =>
    exact pass (ends_guardPc (userStep_dpLogical hs _ _ _ _))
  | subImm | subShift | rsbImm | rsbShift | addImm | addShift | adcImm | adcShift | sbcImm | sbcShift | rscImm | rscShift =>
    exact pass (userStep_dpArith hs _ _ _)
  | subRegShift | rsbRegShift | addRegShift | adcRegShift | sbcRegShift | rscRegShift =>
    exact pass (ends_guardPc (userStep_dpArith hs _ _ _))
  | tstImm | tstShift | teqImm | teqShift => exact pass (userStep_testLogical hs _ _)
  | tstRegShift | teqRegShift => exact pass (ends_guardPc (userStep_testLogical hs _ _))
  | cmpImm | cmpShift | cmnImm | cmnShift => exact pass (userStep_testArith hs _)
  | cmpRegShift | cmnRegShift => exact pass (ends_guardPc (userStep_testArith hs _))
  | mul | mla =>
    refine pass (ends_guardPc_passed fun hb => ends_guardClash (userStep_mulWrite hs _ ?_ _))
    simp only [Bool.or_eq_false_iff, beq_eq_false_iff_ne, and_assoc] at hb
    obtain ⟨hrd, -⟩ := hb
    exact hrd
  | umull | umlal | smull | smlal =>
    refine pass (ends_guardPc_passed fun hb => ends_guardClash ?_)
    simp only [Bool.or_eq_false_iff, beq_eq_false_iff_ne, and_assoc] at hb
    obtain ⟨hhi, hlo, -, -⟩ := hb
    exact userStep_mulLongWrite hs _ hhi hlo _
  | mrs => exact userStep_mrs hs _ _ _
  | msrImm | msrReg => exact pass (userStep_writeStatus hs _ _ _)
  | bx => exact pass (userStep_branchExchange hs _)
  | ldrImmPre | ldrImmPost => exact pass (userStep_checkedLoad hs _ _ _ _ _ _)
  | ldrtImm | ldrRegPre | ldrRegPost | ldrtReg | ldrbImmPre | ldrbImmPost | ldrbtImm | ldrbRegPre | ldrbRegPost | ldrbtReg =>
    exact pass (ends_guardPc (userStep_checkedLoad hs _ _ _ _ _ _))
  | strImmPre | strImmPost | strtImm => exact pass (userStep_checkedStore hs _ _ _ _ _)
  | strRegPre | strRegPost | strtReg | strbImmPre | strbImmPost | strbtImm | strbRegPre | strbRegPost | strbtReg =>
    exact pass (ends_guardPc (userStep_checkedStore hs _ _ _ _ _))
  | ldrhImm | ldrhReg | ldrsbImm | ldrsbReg | ldrshImm | ldrshReg =>
    exact pass (ends_guardHalfForm (ends_guardPc (userStep_checkedLoad hs _ _ _ _ _ _)))
  | strhImm | strhReg => exact pass (ends_guardHalfForm (ends_guardPc (userStep_checkedStore hs _ _ _ _ _)))
  | ldm => exact pass (ends_guardBlock_passed fun hr => userStep_loadBlock hs _ _ _ _ hr)
  | stm => exact pass (ends_guardBlock_passed fun hr => userStep_storeBlock hs _ _ _ _ hr)
  | ldmUser | stmUser =>
    refine pass (ends_guardBlock (ends_guardClash ?_))
    rw [guardUserBank, if_pos (.inl hs.mode)]
    exact ends_refused
  | ldmRestore =>
    refine pass (ends_guardBlock ?_)
    rw [guardSpsr_refuses (.inl hs.mode)]
    exact ends_refused
  | swp | swpb =>
    refine pass (ends_guardPc_passed fun hb => ends_guardClash (userStep_swapWith hs _ _ _ ?_))
    simp only [Bool.or_eq_false_iff, beq_eq_false_iff_ne, and_assoc] at hb
    obtain ⟨-, hrd, -⟩ := hb
    exact hrd
  | b => exact pass (ends_next (.kept (hs.confined.branchTo _)))
  | bl => exact pass (ends_next (userStep_link hs _ _))
  | swi | undefined => exact pass (ends_next (.trap hs (.refl s) _))
  | cdp =>
    exact pass (userStep_withCoprocessor hs fun _ _ cs =>
      ends_next (.kept (hs.confined.untouched (copros_untouched s cs)).advance))
  | mcr cond op1 crn rd cp op2 crm =>
    refine ends_ite (fun _ => userStep_toCp15 hs _ _ _) fun _ => ?_
    refine ends_ite (fun _ => userStep_toCp14 hs _ _ (cp14Write_writesDcc _)) fun _ => ?_
    exact pass (userStep_withCoprocessor hs fun _ _ cs =>
      ends_next (.kept (hs.confined.untouched (copros_untouched s _)).advance))
  | mrc cond op1 crn rd cp op2 crm =>
    refine ends_ite (fun _ => userStep_fromCp15 hs _ _ _) fun _ => ?_
    refine ends_ite (fun _ => userStep_fromCp14 hs _ _ (cp14Read_readsDcc _)) fun _ => ?_
    exact pass (userStep_withCoprocessor hs fun v _ cs => userStep_mrcWrite hs (copros_untouched s cs) _ v)
  | ldc =>
    exact pass (userStep_withCoprocessor hs fun _ _ cs =>
      userStep_copTransfer hs (copLoads_confined hs _ _ _ _ _ (hs.confined.untouched (copros_untouched s cs))))
  | stc =>
    exact pass (userStep_withCoprocessor hs fun _ _ cs =>
      userStep_copTransfer hs (copStores_confined hs _ _ _ _ (hs.confined.untouched (copros_untouched s cs))))
  | mrcId | mrcTtb | mrcDacr | mrcFar | mrcTlbLockdown | mrcProcId | mrcC15C | mrcC15M | mrcC15MAlt
  | mrcControl | mrcFsr | mrcPid | mrcTestState => exact userStep_fromCp15 hs _ _ _
  | mcrControl | mcrTtb | mcrDacr | mcrFsr | mcrFar | mcrPid | mcrTestState | mcrC15C
  | mcrInvCache | mcrCacheBase0 | mcrCacheVictim0 | mcrCacheBase1 | mcrCacheVictim1
  | mcrInvTlbC5 | mcrInvTlbEntryC5 | mcrInvTlbC6 | mcrInvTlbEntryC6 | mcrInvTlbC7 | mcrInvTlbEntryC7 | mcrTlbLockdown
  | mcrProcId | mcrCacheCamRead | mcrCacheCamWrite | mcrCacheRamRead | mcrCacheRamWrite | mcrCacheCamMatch
  | mcrTlbCamRead | mcrTlbCamWrite | mcrTlbRam1Read | mcrTlbRam1Write | mcrTlbRam2Read | mcrTlbRam2Write | mcrTlbCamMatch =>
    exact userStep_toCp15 hs _ _ _
  | mrcDccControl | mrcDccData | mrcAbortStatus => exact userStep_fromCp14 hs _ _ (by exact fun _ => ⟨_, _, rfl⟩)
  | mcrDccData | mcrAbortStatus => exact userStep_toCp14 hs _ _ (by exact fun _ _ => ⟨_, rfl⟩)
  | tLslImm | tLsrImm | tAsrImm | tMovImm | tAnd | tEor | tLslReg | tLsrReg | tAsrReg | tRorReg | tOrr | tBic | tMvn =>
    exact userStep_dpLogical hs _ _ _ _
  | tAddReg | tSubReg | tAddImm3 | tSubImm3 | tAddImm8 | tSubImm8 | tAdc | tSbc | tNeg => exact userStep_dpArith hs _ _ _
  | tTst => exact userStep_testLogical hs _ _
  | tCmpImm | tCmp | tCmn => exact userStep_testArith hs _
  | tMul rs rd =>
    show Ends (UserStep s) (execTMul rs rd s)
    exact userStep_mulWrite hs _ (low_ne_fifteen rd) _
  | tAddHi => exact ends_guardHi (userStep_dpArith hs _ _ _)
  | tCmpHi => exact ends_guardHi (userStep_testArith hs _)
  | tMovHi => exact ends_guardHi (userStep_dpLogical hs _ _ _ _)
  | tBx => exact userStep_branchExchange hs _
  | tLdrPc | tLdrReg | tLdrbReg | tLdrhReg | tLdrsbReg | tLdrshReg | tLdrImm | tLdrbImm | tLdrhImm | tLdrSp =>
    exact userStep_thumbLoad hs _ _ _ _
  | tStrReg | tStrbReg | tStrhReg | tStrImm | tStrbImm | tStrhImm | tStrSp => exact userStep_thumbStore hs _ _ _
  | tAddPc rd | tAddSp rd => exact ends_next (userStep_write hs (low_ne_fifteen rd) _)
  | tAddSpImm | tSubSpImm => exact ends_next (userStep_write hs sp_ne_fifteen _)
  | tPush r regs =>
    show Ends (UserStep s) (execTPush r regs s)
    exact ends_guardBlock (userStep_storeBlock hs _ _ _ _ sp_ne_fifteen)
  | tStmia rb regs => exact ends_guardBlock (userStep_storeBlock hs _ _ _ _ (low_ne_fifteen rb))
  | tPop r regs =>
    show Ends (UserStep s) (execTPop r regs s)
    exact ends_guardBlock (userStep_loadBlock hs _ _ _ _ sp_ne_fifteen)
  | tLdmia rb regs => exact ends_guardBlock (userStep_loadBlock hs _ _ _ _ (low_ne_fifteen rb))
  | tBeq | tBne | tBcs | tBcc | tBmi | tBpl | tBvs | tBvc | tBhi | tBls | tBge | tBlt | tBgt | tBle =>
    exact userStep_thumbCondBranch hs _ _
  | tB => exact ends_next (.kept (hs.confined.branchTo _))
  | tBlHigh => exact ends_next (userStep_write hs (by decide) _)
  | tBlLow => exact ends_next (userStep_link hs _ _)
  | tUndefCond | tSwi | tUndef11101 | tUndefB1 | tUndefB2 | tUndefB6 | tUndefB8 | tUndefBC =>
    exact ends_next (.trap hs (.refl s) _)
  | tBxH1 => exact ends_refused

end

end Sys2Proof.Machine
end

section
/-! PROOFS. The step of a core in User mode (60 R660): what stands before it in the banked registers, the SPSRs, CP15 and the lockdown
fields stands after it, unless an exception is taken. -/

namespace Sys2Proof.Machine

variable {s t u : State}

/-- What a step of User mode ends in: the part of User mode is as it was, or an exception has been taken from it, after which the core is
at the vector or has entered debug state. -/
inductive UserEnd (s : State) : State → Prop where
  | kept {t : State} (h : t.userPart = s.userPart) : UserEnd s t
  | exception {t : State} (e : Exception) (u : State) (hu : u.userPart = s.userPart)
      (ht : t.userPart = (u.takeException e).userPart) (harm : t.cpsr.t = false)
      (hat : t.pc = t.vectorBase + exceptionOffset e ∨ t.dbg.halted = true) : UserEnd s t

theorem UserEnd.taken (h : u.userPart = s.userPart) (e : Exception) : UserEnd s (u.takeException e) :=
  .exception e u h rfl (Claims.entered u e).atVector.arm (.inl (Claims.entered u e).atVector.vector)

/-! Debug entry. -/

theorem enterDebug_userPart (t : State) (k : Nat) (moe bit33 : Bool) : (t.enterDebug k moe bit33).userPart = t.userPart := rfl

theorem enterDebug_cpsr (t : State) (k : Nat) (moe bit33 : Bool) : (t.enterDebug k moe bit33).cpsr = t.cpsr := rfl

/-- Debug entry after an exception, as in `State.afterInstr`. -/
theorem UserEnd.takenThenDebug (h : u.userPart = s.userPart) (e : Exception) (k : Nat) (moe bit33 : Bool) :
    UserEnd s ((u.takeException e).enterDebug k moe bit33) :=
  .exception e u h (enterDebug_userPart _ _ _ _) ((congrArg Psr.t (enterDebug_cpsr _ _ _ _)).trans (Claims.entered u e).atVector.arm)
    (.inr rfl)

/-- A pending interrupt is taken before debug entry (60 R638). -/
theorem UserEnd.pendingThenDebug (h : t.userPart = s.userPart) (k : Nat) (moe bit33 : Bool) :
    UserEnd s (t.takePending.enterDebug k moe bit33) := by
  unfold State.takePending
  split
  · exact .takenThenDebug h _ _ _ _
  · exact .kept h

theorem UserEnd.drew (h : UserEnd s t) : UserEnd s t.drew := by
  cases h with
  | kept h => exact .kept h
  | exception e u hu ht harm hat => exact .exception e u hu ht harm hat

/-- What follows an instruction of User mode: a hit watchpoint lets the core enter debug state (61 R685, 60 R651). -/
theorem UserStep.afterInstr (h : UserStep s t) : UserEnd s t.afterInstr := by
  unfold State.afterInstr
  cases h with
  | kept h =>
    split
    · split
      · exact .kept h.part
      · split
        · exact .pendingThenDebug h.part _ _ _
        · exact .kept h.part
    · exact .kept h.part
  | exception e h hw =>
    rename_i u aborted
    have hdbg : (u.takeException e).dbg = u.dbg := by
      obtain ⟨_, _, _, _, _, hc⟩ := takeException_changes u e
      rw [hc]
    rw [hdbg]
    split
    next hwatch =>
      rw [if_pos (hw (Bool.and_eq_true_iff.mp hwatch).1)]
      exact .takenThenDebug h.part _ _ _ _
    · exact .taken h.part e

/-! The boundary. -/

theorem runBits_userStep (hs : InUser s) (bits : Word) : Ends (UserStep s) (runBits s bits) := by
  unfold runBits
  split
  · exact exec_userStep hs _
  · exact ends_ite (fun _ => ends_next (.kept hs.confined.advance)) fun _ => ends_refused

theorem debugPrefetchAbort_userEnd (s : State) : UserEnd s s.debugPrefetchAbort := by
  have hpart : State.userPart { s with dcc := { s.dcc with dbgAbt := true } } = s.userPart := rfl
  exact .taken hpart .prefetchAbort

theorem executeSlot_userEnd (hs : InUser s) (q : FetchSlot) : Ends (UserEnd s) (executeSlot s q) := by
  unfold executeSlot
  split
  · exact ends_next (.taken rfl _)
  · refine ends_next ?_
    split
    · exact debugPrefetchAbort_userEnd s
    · exact .taken rfl _
  · exact ends_refused
  · refine ends_ite (fun _ => ends_next (debugPrefetchAbort_userEnd s)) fun _ => ?_
    exact ends_onNext (runBits_userStep hs q.bits) fun _ ht => ht.afterInstr

theorem boundary_userEnd (hs : InUser s) (q : FetchSlot) : Ends (UserEnd s) (boundary s q) := by
  unfold boundary
  refine ends_ite (fun _ => ends_next (.pendingThenDebug rfl _ _ _)) fun _ => ?_
  refine ends_ite (fun _ => ends_next (UserEnd.drew (.pendingThenDebug rfl _ _ _))) fun _ => ?_
  split
  · exact ends_next (.taken rfl _)
  · exact executeSlot_userEnd hs q

/-! The step. -/

theorem driveEtm_untouched (s : State) : Untouched s s.driveEtm := by
  obtain ⟨tr, h⟩ := driveEtm_changes s
  rw [h]
  exact ⟨rfl, rfl⟩

theorem refill_untouched (s : State) : Untouched s s.refill := by
  unfold State.refill
  split
  · exact .refl s
  · exact fillQueue_untouched s 3

theorem showSlot_untouched (s : State) (q : FetchSlot) : Untouched s (s.showSlot q) := by
  unfold State.showSlot State.showWord
  split <;> exact ⟨rfl, rfl⟩

theorem prefetched_untouched (s : State) : Untouched s.clearOutputs.beginInstr (Claims.prefetched s) := by
  unfold Claims.prefetched
  dsimp only
  split
  · exact (fillQueue_untouched _ 3).trans (showSlot_untouched _ _)
  · exact fillQueue_untouched _ 3

theorem beginInstr_userPart (s : State) : s.clearOutputs.beginInstr.userPart = s.userPart := rfl

end Sys2Proof.Machine

namespace Sys2Proof.Claims

open Sys2Proof.Machine

variable {s t : State}

theorem prefetched_inUser (h : CoreRuns s) (hm : s.cpsr.m = modeUsr) : InUser (prefetched s) := by
  have hdbg := (prefetched_untouched s).dbg
  refine ⟨?_, ?_, ?_⟩
  · rw [(prefetched_begun s).registers.2.2, hm]
  · rw [hdbg]; exact h.running
  · rw [hdbg]; rfl

/-- The queue is filled at the end with the registers and the mode as they are. -/
theorem ended_userEnd (h : UserEnd s t) : UserEnd s (ended t) := by
  have hpart : (ended t).userPart = t.userPart := ((refill_untouched t).trans (driveEtm_untouched _)).part
  have hfetched := ended_fetched t
  cases h with
  | kept h => exact .kept (hpart.trans h)
  | exception e u hu ht harm hat =>
    refine .exception e u hu (hpart.trans ht) ?_ ?_
    · rw [show (ended t).cpsr = t.cpsr from hfetched.step.cpsr]; exact harm
    · rw [show (ended t).pc = t.pc from hfetched.step.pc, show (ended t).dbg.halted = t.dbg.halted from hfetched.step.halted,
        State.vectorBase, hfetched.unrecorded.cp15]
      exact hat

/-- A step of a core in User mode. -/
theorem step_userEnd (h : CoreRuns s) (hm : s.cpsr.m = modeUsr) : Ends (UserEnd (prefetched s)) (step s) := by
  obtain ⟨q, rest, hq⟩ : ∃ q rest, (prefetched s).queue = q :: rest := by
    rw [prefetched_queue]
    exact List.exists_cons_of_ne_nil (fillQueue_ne_nil _ 2)
  rw [step_core h hq]
  exact ends_onNext (boundary_userEnd (prefetched_inUser h hm) q) fun _ => ended_userEnd

/-! What the part of User mode holds. -/

theorem spsrOf_userPart (h : t.userPart = s.userPart) (m : BitVec 5) : t.spsrOf m = s.spsrOf m := by
  simp only [State.userPart, UserPart.mk.injEq] at h
  obtain ⟨-, -, -, -, hfiq, hsvc, habt, hirq, hund, -⟩ := h
  rw [State.spsrOf, State.spsrOf, hfiq, hsvc, habt, hirq, hund]

theorem banked_userPart (h : t.userPart = s.userPart) {i : Fin 30} (hi : 15 ≤ i.val) : t.gpr[i] = s.gpr[i] := by
  have hk := congrFun (congrArg UserPart.banked h) ⟨i.val - 15, by omega⟩
  have hindex : i.val - 15 + 15 = i.val := Nat.sub_add_cancel hi
  simp only [State.userPart, hindex] at hk
  exact hk

/-- Taking an exception writes neither CP15 nor the cache nor the TLB. -/
theorem takeException_locks (u : State) (e : Exception) : (u.takeException e).cp15 = u.cp15 ∧
    (u.takeException e).cache = u.cache ∧ (u.takeException e).tlb = u.tlb := by
  obtain ⟨_, _, _, _, _, h⟩ := takeException_changes u e
  rw [h]
  exact ⟨rfl, rfl, rfl⟩

/-- CP15 but the fault registers and the lockdown fields are those before the step. -/
def LocksKept (s t : State) : Prop :=
  ({ t.cp15 with fsr := 0, far := 0 } : Cp15) = { s.cp15 with fsr := 0, far := 0 } ∧
    t.cache.base = s.cache.base ∧ t.cache.camOnly = s.cache.camOnly ∧ t.tlb.base = s.tlb.base ∧ t.tlb.p = s.tlb.p ∧
    t.tlb.index2 = s.tlb.index2

theorem locksKept_userPart (h : t.userPart = s.userPart) : LocksKept s t :=
  ⟨congrArg UserPart.cp15 h, congrArg UserPart.cacheBase h, congrArg UserPart.camOnly h, congrArg UserPart.tlbBase h,
    congrArg UserPart.tlbPreserve h, congrArg UserPart.index2 h⟩

theorem LocksKept.trans {u : State} (h : LocksKept s t) (k : LocksKept t u) : LocksKept s u := by
  obtain ⟨h1, h2, h3, h4, h5, h6⟩ := h
  obtain ⟨k1, k2, k3, k4, k5, k6⟩ := k
  exact ⟨k1.trans h1, k2.trans h2, k3.trans h3, k4.trans h4, k5.trans h5, k6.trans h6⟩

theorem takeException_locksKept (u : State) (e : Exception) : LocksKept u (u.takeException e) := by
  obtain ⟨hcp15, hcache, htlb⟩ := takeException_locks u e
  rw [LocksKept, hcp15, hcache, htlb]
  exact ⟨rfl, rfl, rfl, rfl, rfl, rfl⟩

/-- An exception writes the SPSR and the link register of its own mode. -/
theorem takeException_banksKept (u : State) (e : Exception) :
    BanksKept (some (exceptionMode e)) u (u.takeException e) :=
  ⟨fun _ hm => takeException_spsrOf u e fun h => hm (h ▸ rfl), fun _ _ hi => takeException_gpr u e (hi _ rfl)⟩

/-- Settles O60: a step of User mode ends in `UserEnd`, and what that leaves or writes is what the statement names. -/
theorem userModeIsConfined : Obligations.UserModeIsConfined := by
  intro s t hruns hm ht
  have hbegun := (prefetched_untouched s).part.trans (beginInstr_userPart s)
  suffices h : LocksKept s t ∧ ((SameControl s t ∧ BanksKept none s t) ∨
      ∃ e : Exception, t.cpsr.m = exceptionMode e ∧ t.cpsr.i = true ∧ t.cpsr.t = false ∧
        BanksKept (some (exceptionMode e)) s t ∧ (AtVector e t ∨ t.dbg.halted = true)) by
    obtain ⟨⟨h1, h2, h3, h4, h5, h6⟩, hend⟩ := h
    exact ⟨h1, h2, h3, h4, h5, h6, hend⟩
  cases step_userEnd hruns hm t ht with
  | kept h =>
    have hpart := h.trans hbegun
    exact ⟨locksKept_userPart hpart, .inl
      ⟨⟨congrArg UserPart.mode hpart, congrArg UserPart.irqMask hpart, congrArg UserPart.fiqMask hpart⟩,
        ⟨fun m _ => spsrOf_userPart hpart m, fun i hi _ => banked_userPart hpart hi⟩⟩⟩
  | exception e u hu hpart harm hat =>
    have hpu := hu.trans hbegun
    have hvector := (entered u e).atVector
    have hbanks := takeException_banksKept u e
    have hmode : t.cpsr.m = exceptionMode e := (congrArg UserPart.mode hpart).trans hvector.mode
    have hmasked : t.cpsr.i = true := (congrArg UserPart.irqMask hpart).trans hvector.masked
    refine ⟨((locksKept_userPart hpu).trans (takeException_locksKept u e)).trans (locksKept_userPart hpart),
      .inr ⟨e, hmode, hmasked, harm, ⟨fun m he => ?_, fun i hi he => ?_⟩, hat.imp_left fun hpc => ⟨hmode, hmasked, harm, hpc⟩⟩⟩
    · rw [spsrOf_userPart hpart, hbanks.statuses m he, spsrOf_userPart hpu]
    · rw [banked_userPart hpart hi, hbanks.registers i hi he, banked_userPart hpu hi]

end Sys2Proof.Claims
end

section
/-! PROOFS. Watchpoints (61 R685, R692 to R696, 60 R650): what a data access does where one triggers, in halt mode and in monitor mode,
and when the units match. -/

namespace Sys2Proof.Claims

open Sys2Proof.Machine

/-! A ready access of a core that runs, with the MMU off. -/

theorem Direct.debugSpeed {s : State} (h : Direct s) : s.debugSpeed = false := by
  rw [State.debugSpeed, h.running]
  rfl

/-- The comparators answer alike in states with the same pins, EmbeddedICE-RT registers, TAP and debug state. -/
theorem triggers_frame {s t : State} (hpins : t.pins = s.pins) (hice : t.ice = s.ice) (htap : t.tap = s.tap) (hdbg : t.dbg = s.dbg)
    (o : Observed) : t.triggers o = s.triggers o := by
  obtain ⟨⟩ := s
  obtain ⟨⟩ := t
  subst hpins hice htap hdbg
  rfl

/-- A ready read is performed, and then counts as what the watchpoint makes of it. -/
theorem dataRead_direct {s : State} {a : Word} {size : Size} (priv lock : Bool) (h : Direct s) (r : Ready s a size) :
    dataRead s a size priv lock = watchOutcome (s.triggers (dataObserved a (readWord s a) size false priv))
      (readValue s a size) (afterRead s a size priv lock) := by
  have hreg : s.drainAll.regionOf (firstByte size (s.relocate a)) = .ram := by
    rw [(drainAll_step s).regionOf]; exact r.ram
  have halone : s.drainAll.masters = [] := (drainAll_step s).alone h.alone
  have hword (t : BusTransfer) (b : Word) : (s.drainAll.onBus t).memoryWord b = s.drainAll.memoryWord b := by
    rw [onBus_alone t halone]
    rfl
  have hinto (t : BusTransfer) (w : Word) : (s.drainAll.onBus t).dataIntoCore w = w := by
    rw [State.dataIntoCore, ((drainAll_step s).trans (onBus_step _ t)).testMode, h.normal]
    rfl
  have htrig (t : BusTransfer) (o : Observed) : (s.drainAll.onBus t).triggers o = s.triggers o := by
    obtain ⟨w, m, b, x, hs⟩ := drainAll_changes s
    rw [onBus_alone t halone, hs]
    exact triggers_frame rfl rfl rfl rfl o
  have hb : s.drainAll.cp15.b = s.cp15.b := (drainAll_step s).bigEndian
  unfold dataRead
  dsimp only
  rw [h.debugSpeed, r.aligned, if_neg r.notOdd]
  simp only [Bool.false_eq_true, if_false, Machine.translate, h.mmuOff, externalOrCached, State.cacheOn, Bool.and_false,
    Bool.false_and, State.flatMapping, busRead, sizeAlign_eq, hreg, hword, hinto, hb, htrig]
  rfl

/-- A ready write is performed unless a monitor mode watchpoint inhibits it. -/
theorem dataWrite_direct {s : State} {a : Word} {size : Size} (v : Word) (priv lock : Bool) (h : Direct s) (r : Ready s a size)
    {hit : Bool} (ht : s.triggers (dataObserved a (replicateLanes size v) size true priv) = hit) :
    dataWrite s a size v priv lock =
      if hit && s.monitorMode then watchOutcome hit 0 (s.observe (dataObserved a (replicateLanes size v) size true priv))
      else watchOutcome hit 0 (afterWrite s a size v priv lock) := by
  have hreg : (s.updateCache (s.relocate a) size (replicateLanes size v)).drainAll.regionOf (firstByte size (s.relocate a)) = .ram := by
    rw [((updateCache_step s _ _ _).trans (drainAll_step _)).regionOf]; exact r.ram
  unfold dataWrite
  dsimp only
  rw [h.debugSpeed, r.aligned, if_neg r.notOdd, State.dataToSystem, h.normal]
  simp only [Bool.false_eq_true, if_false, Machine.translate, h.mmuOff, State.flatMapping, ht, performWrite, Bool.false_and,
    State.buffered, busWrite, sizeAlign_eq, hreg, r.ram, afterWrite]
  simp

/-! Monitor mode. -/

theorem watchOutcome_monitor {s : State} (v : Word) (h : s.monitorMode = true) :
    watchOutcome true v s = .abort { s with dcc := { s.dcc with dbgAbt := true } } := by
  rw [watchOutcome, if_pos rfl, if_pos h]

theorem markWatched_settled (s : State) : Settled s { s with dcc := { s.dcc with dbgAbt := true } } :=
  .of_eq rfl rfl rfl rfl

theorem afterRead_cp15 (s : State) (a : Word) (size : Size) (priv lock : Bool) :
    (afterRead s a size priv lock).cp15 = s.cp15 :=
  (((drainAll_unrecorded s).trans (onBus_unrecorded _ _)).trans (observe_unrecorded _ _)).cp15

/-- A fetch that the bus aborted takes its own abort, also at a breakpoint (60 R650). -/
theorem executeSlot_external {s : State} {q : FetchSlot} (h : q.mark = .external) :
    executeSlot s q = .next (s.takeException .prefetchAbort) := by
  rw [executeSlot, h]

theorem executeSlot_monitorBreak {s : State} {q : FetchSlot} (hm : q.mark = .ok ∨ q.mark = .aborted)
    (hb : s.monitorBreak q = true) : executeSlot s q = .next s.debugPrefetchAbort := by
  rcases hm with hm | hm <;>
  · rw [executeSlot, hm, hb]
    rfl

/-- Settles O54: in monitor mode nothing but an interrupt comes before the slot, and a hit watchpoint turns the access into an abort. -/
theorem monitorModeTakesAborts : Obligations.MonitorModeTakesAborts := by
  refine ⟨fun s q rest hs hq hgen hctrl hbreak hi => ?_, fun s a v size priv lock hd hr hctrl => ⟨fun ht => ?_, fun ht => ?_⟩⟩
  · have hbegun := prefetched_begun s
    have hmonitor : (prefetched s).monitorMode = true := by rw [State.monitorMode, hbegun.control, hctrl]
    have hmark : (prefetched s).monitorBreak q = true := by rw [State.monitorBreak, hbreak, hbegun.pins, hgen, hmonitor]; rfl
    have hstep : step s = onNext (executeSlot (prefetched s) q) ended := by
      rw [step_core hs hq, boundary_executes (breakDue_monitor hmonitor) (requestDue_monitor hmonitor) hi]
    refine ⟨fun hm => ?_, fun hm => ?_⟩
    · rw [hstep, executeSlot_monitorBreak hm hmark]
      rfl
    · rw [hstep, executeSlot_external hm]
      rfl
  · have hm := afterRead_step s a size priv lock
    have hmonitor : (afterRead s a size priv lock).monitorMode = true := by rw [State.monitorMode, hm.iceCtrl, hctrl]
    have haccess := dataRead_direct priv lock hd hr
    rw [ht, watchOutcome_monitor _ hmonitor] at haccess
    exact ⟨_, haccess, rfl, afterRead_cp15 _ _ _ _ _, hm.fixed,
      fun b => ((afterRead_settled s a size priv lock).trans (markWatched_settled _)).byte hd.alone b⟩
  · have hm := observe_step s (dataObserved a (replicateLanes size v) size true priv)
    have hmonitor : (s.observe (dataObserved a (replicateLanes size v) size true priv)).monitorMode = true := by
      rw [State.monitorMode, hm.iceCtrl, hctrl]
    have haccess := dataWrite_direct v priv lock hd hr ht
    rw [State.monitorMode, hctrl, if_pos (by rfl), watchOutcome_monitor _ hmonitor] at haccess
    refine ⟨_, haccess, rfl, (observe_unrecorded _ _).cp15, hm.fixed, ?_,
      fun b => ((observe_settled _ _).trans (markWatched_settled _)).byte hd.alone b⟩
    obtain ⟨i, tr, ho⟩ := observe_changes s (dataObserved a (replicateLanes size v) size true priv)
    rw [ho]

/-! When the units match. -/

/-- The XNOR comparison of 61 R692, bit by bit. -/
theorem maskedEqual_iff {w : Nat} (value mask input : BitVec w) :
    maskedEqual value mask input = true ↔
      ∀ i : Nat, i < w → mask.getLsbD i = true ∨ value.getLsbD i = input.getLsbD i := by
  unfold maskedEqual
  rw [beq_iff_eq]
  refine ⟨fun h i hi => ?_, fun h => BitVec.eq_of_getLsbD_eq fun i hi => ?_⟩
  · have hbit := congrArg (BitVec.getLsbD · i) h
    simp only [BitVec.getLsbD_and, BitVec.getLsbD_xor, BitVec.getLsbD_not, hi, decide_true, Bool.true_and, BitVec.getLsbD_zero] at hbit
    revert hbit
    cases mask.getLsbD i <;> simp
  · simp only [BitVec.getLsbD_and, BitVec.getLsbD_xor, BitVec.getLsbD_not, hi, decide_true, Bool.true_and, BitVec.getLsbD_zero]
    rcases h i hi with hm | hv
    · simp [hm, -BitVec.getLsbD_eq_getElem]
    · simp [hv, -BitVec.getLsbD_eq_getElem]

/-- The bits C[4:0] of the control bus (61 R693). -/
theorem control_bits (o : Observed) :
    o.control.getLsbD 0 = o.write ∧ o.control.getLsbD 1 = (sizeBits o.size).getLsbD 0 ∧
      o.control.getLsbD 2 = (sizeBits o.size).getLsbD 1 ∧ o.control.getLsbD 3 = o.isData ∧ o.control.getLsbD 4 = o.priv := by
  unfold Observed.control
  cases o.write <;> cases o.isData <;> cases o.priv <;> cases o.size <;> decide

theorem addrMatch_iff (u : WatchUnit) (o : Observed) :
    addrMatch u o = true ↔
      (∀ i : Nat, i < 32 → u.addrMask.getLsbD i = true ∨ u.addrValue.getLsbD i = o.addr.getLsbD i) ∧
      (u.ctrlMask.getLsbD 0 = true ∨ u.ctrlValue.getLsbD 0 = o.write) ∧
      (∀ i : Nat, i < 2 → u.ctrlMask.getLsbD (i + 1) = true ∨ u.ctrlValue.getLsbD (i + 1) = (sizeBits o.size).getLsbD i) ∧
      (u.ctrlMask.getLsbD 3 = true ∨ u.ctrlValue.getLsbD 3 = o.isData) ∧
      (u.ctrlMask.getLsbD 4 = true ∨ u.ctrlValue.getLsbD 4 = o.priv) := by
  obtain ⟨h0, h1, h2, h3, h4⟩ := control_bits o
  rw [addrMatch, Bool.and_eq_true, maskedEqual_iff, maskedEqual_iff]
  refine and_congr_right fun _ => ?_
  simp only [Nat.forall_lt_succ_right, Nat.not_lt_zero, false_imp_iff, implies_true, true_and, BitVec.getLsbD_extractLsb', h0, h1,
    h2, h3, h4, Nat.zero_add, Nat.reduceLT, decide_true, Bool.true_and, Nat.reduceAdd, and_assoc]

theorem dataMatch_iff (u : WatchUnit) (o : Observed) (range chain ext : Bool) :
    dataMatch u o range chain ext = true ↔
      (∀ i : Nat, i < 32 → u.dataMask.getLsbD i = true ∨ o.dataValid.getLsbD i = false ∨
        u.dataValue.getLsbD i = o.data.getLsbD i) ∧
      (u.ctrlMask.getLsbD 5 = true ∨ u.ctrlValue.getLsbD 5 = ext) ∧
      (u.ctrlMask.getLsbD 6 = true ∨ u.ctrlValue.getLsbD 6 = chain) ∧
      (u.ctrlMask.getLsbD 7 = true ∨ u.ctrlValue.getLsbD 7 = range) := by
  have hbits : (BitVec.ofBool range ++ BitVec.ofBool chain ++ BitVec.ofBool ext).getLsbD 0 = ext ∧
      (BitVec.ofBool range ++ BitVec.ofBool chain ++ BitVec.ofBool ext).getLsbD 1 = chain ∧
      (BitVec.ofBool range ++ BitVec.ofBool chain ++ BitVec.ofBool ext).getLsbD 2 = range := by
    cases range <;> cases chain <;> cases ext <;> decide
  obtain ⟨h0, h1, h2⟩ := hbits
  rw [dataMatch, Bool.and_eq_true, maskedEqual_iff, maskedEqual_iff]
  refine and_congr (forall₂_congr fun i hi => ?_) ?_
  · simp only [BitVec.getLsbD_or, BitVec.getLsbD_not, hi, decide_true, Bool.true_and, Bool.or_eq_true, Bool.not_eq_true', or_assoc]
  · simp only [Nat.forall_lt_succ_right, Nat.not_lt_zero, false_imp_iff, implies_true, true_and, BitVec.getLsbD_extractLsb', h0, h1,
      h2, Nat.reduceLT, decide_true, Bool.true_and, Nat.reduceAdd, and_assoc]

/-- In halt mode the access that hit a watchpoint completes. -/
theorem watchOutcome_halt {s : State} (v : Word) (h : s.monitorMode = false) :
    watchOutcome true v s = .done v { s with dbg := { s.dbg with watchHit := true } } := by
  rw [watchOutcome, if_pos rfl, h, if_neg Bool.false_ne_true]

/-- Settles O53. -/
theorem watchpointsMatch : Obligations.WatchpointsMatch := by
  refine ⟨addrMatch_iff, dataMatch_iff, fun s o m0 m1 h1 h0 hrun htest => ⟨?_, fun hgen hctrl => ?_⟩,
    fun s a v size priv lock hd hr hctrl => ⟨fun ht => ?_, fun ht => ?_⟩⟩
  · have hm1 : s.range1Match o = m1 := h1.symm
    have hm0 : s.range0Match o = m0 := by rw [State.range0Match, hm1, h0]
    have hslow : s.debugSpeed = false := by rw [State.debugSpeed, hrun]; rfl
    have hbreak : s.breakInput = s.pins.dbgbreak := by rw [State.breakInput, htest, if_neg Bool.false_ne_true]
    simp only [State.triggers, State.comparatorsOn, hm1, hm0, hslow, hbreak, State.monitorMode, Bool.and_eq_true, Bool.or_eq_true,
      Bool.not_eq_true', Bool.not_false]
    tauto
  · have hon : s.comparatorsOn = true := by
      rw [State.comparatorsOn, State.debugSpeed, hgen, hctrl, hrun]
      rfl
    have hice : (s.observe o).ice = (s.compared o).ice := rfl
    rw [hice, State.compared, if_pos hon]
    subst h1 h0
    exact ⟨rfl, rfl, rfl⟩
  · have hm := afterRead_step s a size priv lock
    have hhalt : (afterRead s a size priv lock).monitorMode = false := by rw [State.monitorMode, hm.iceCtrl, hctrl]
    have haccess := dataRead_direct priv lock hd hr
    rw [ht, watchOutcome_halt _ hhalt] at haccess
    exact ⟨_, haccess, rfl⟩
  · have hm := afterWrite_step s a size v priv lock
    have hhalt : (afterWrite s a size v priv lock).monitorMode = false := by rw [State.monitorMode, hm.iceCtrl, hctrl]
    have haccess := dataWrite_direct v priv lock hd hr ht
    rw [State.monitorMode, hctrl, if_neg (by decide), watchOutcome_halt _ hhalt] at haccess
    exact ⟨_, haccess, rfl, rfl⟩

end Sys2Proof.Claims
end

section
/-! PROOFS. What the debugger reads and writes (61 R690, R691, R698, R699, R712, R715): the EmbeddedICE-RT registers, those of CP15, and the
scan chains 2 and 15 that move them. -/

namespace Sys2Proof.Machine

/-! Words of a register narrower than 32 bits. -/

/-- A field kept at its width reads back as the bits under its mask. -/
theorem setWidth_extractLsb'_zero (v : Word) (n : Nat) : (v.extractLsb' 0 n).setWidth 32 = v &&& BitVec.ofNat 32 (2 ^ n - 1) := by
  refine BitVec.eq_of_getLsbD_eq fun i hi => ?_
  simp [BitVec.getLsbD_setWidth, BitVec.getLsbD_extractLsb', BitVec.getLsbD_ofNat, Nat.testBit_two_pow_sub_one, hi,
    Bool.and_comm, -BitVec.getLsbD_eq_getElem]

/-- Bit 3 of the debug control register reads as zero (61 R696). -/
theorem debugControl_kept (v : Word) : (v.extractLsb' 4 2 ++ 0#1 ++ v.extractLsb' 0 3).setWidth 32 = v &&& 0x37#32 := by
  refine BitVec.eq_of_getLsbD_eq fun i hi => ?_
  simp only [BitVec.getLsbD_setWidth, BitVec.getLsbD_append, BitVec.getLsbD_extractLsb', BitVec.getLsbD_and]
  interval_cases i <;> simp [-BitVec.getLsbD_eq_getElem]

/-- The control register as it is written (46 R566). -/
theorem controlBits_written (c : Cp15) (v : Word) :
    controlBits { c with
      m := v.getLsbD 0, a := v.getLsbD 1, c := v.getLsbD 2, w := v.getLsbD 3, b := v.getLsbD 7, s := v.getLsbD 8
      r := v.getLsbD 9, v := v.getLsbD 13 } = (v &&& 0x238F#32) ||| 0x70#32 := by
  unfold controlBits
  refine BitVec.eq_of_getLsbD_eq fun i hi => ?_
  simp only [BitVec.getLsbD_append, BitVec.getLsbD_ofBool, BitVec.getLsbD_or, BitVec.getLsbD_and]
  interval_cases i <;> simp [-BitVec.getLsbD_eq_getElem]

/-- The bits of the control register that are not free. -/
theorem controlBits_masked (c : Cp15) : controlBits c &&& 0x23FF#32 = controlBits c := by
  unfold controlBits
  generalize c.m = m, c.a = a, c.c = d, c.w = w, c.b = b, c.s = s, c.r = r, c.v = v
  revert m a d w b s r v
  decide

theorem fsrBits_masked (fsr : BitVec 8) : fsr.setWidth 32 &&& 0x1FF#32 = fsr.setWidth 32 := by
  refine BitVec.eq_of_getLsbD_eq fun i hi => ?_
  interval_cases i <;> simp [-BitVec.getLsbD_eq_getElem]

theorem pidBits_masked (pid : BitVec 7) : (pid ++ 0#25) &&& 0xFE000000#32 = pid ++ 0#25 := by
  refine BitVec.eq_of_getLsbD_eq fun i hi => ?_
  simp only [BitVec.getLsbD_and, BitVec.getLsbD_append]
  interval_cases i <;> simp [-BitVec.getLsbD_eq_getElem]

/-- What is read where no bit is free. -/
theorem freeBits_masked (mask v keep : Word) (s : State) (h : mask &&& keep = 0#32) :
    (freeBits mask v s).1 &&& keep = v &&& keep := by
  refine BitVec.eq_of_getLsbD_eq fun i hi => ?_
  have hbit := congrArg (BitVec.getLsbD · i) h
  simp only [BitVec.getLsbD_and, BitVec.getLsbD_zero] at hbit
  simp only [freeBits, BitVec.getLsbD_and, BitVec.getLsbD_or, BitVec.getLsbD_not, hi, decide_true, Bool.true_and]
  revert hbit
  cases mask.getLsbD i <;> cases keep.getLsbD i <;> simp [-BitVec.getLsbD_eq_getElem]

/-! The fields of a scan chain. -/

theorem scan_flag {n m : Nat} (b : BitVec 1) (x : BitVec n) (v : BitVec m) : (b ++ x ++ v).getLsbD (m + n) = b.getLsbD 0 := by
  simp [BitVec.getLsbD_append, -BitVec.getLsbD_eq_getElem]

theorem scan_address {n m : Nat} (b : BitVec 1) (x : BitVec n) (v : BitVec m) : (b ++ x ++ v).extractLsb' m n = x := by
  refine BitVec.eq_of_getLsbD_eq fun i hi => ?_
  simp only [BitVec.getLsbD_extractLsb', BitVec.getLsbD_append]
  simp [hi, -BitVec.getLsbD_eq_getElem]

/-! The EmbeddedICE-RT registers. -/

/-- The labelled bits of the debug status register (61 R699). -/
theorem statusWord_bits (s : State) :
    (statusWord s).getLsbD 0 = s.dbgack ∧ (statusWord s).getLsbD 1 = s.dbgrqi ∧ (statusWord s).getLsbD 2 = s.ifen ∧
      (statusWord s).getLsbD 3 = s.trans1 ∧ (statusWord s).getLsbD 4 = s.cpsr.t ∧ (statusWord s).getLsbD 12 = s.dbg.moe := by
  unfold statusWord
  simp only [BitVec.getLsbD_append, BitVec.getLsbD_ofBool]
  simp

/-- A write of an EmbeddedICE-RT register leaves all but those registers and the communications channel. -/
theorem iceWriteReg_changes (s : State) (a : BitVec 5) (v : Word) :
    ∃ i d, iceWriteReg s a v = { s with ice := i, dcc := d } := by
  unfold iceWriteReg
  split
  · exact ⟨_, _, rfl⟩
  · exact ⟨_, _, rfl⟩
  · split <;> exact ⟨_, _, rfl⟩
  · exact ⟨_, _, rfl⟩

theorem dccControl_debugger (w r : Bool) : 0b0100#4 ++ 0#26 ++ BitVec.ofBool w ++ BitVec.ofBool r =
    0x40000000#32 ||| (if w then 2#32 else 0) ||| (if r then 1#32 else 0) := by
  cases w <;> cases r <;> rfl

/-! CP15 through scan chain 15. -/

/-- A read that changes nothing but the count of free values. -/
def DrawsOnly (op : CoproRead) : Prop := ∀ s : State, { (op s).2 with draws := s.draws } = s

theorem scan15Read_draws (op : BitVec 4) : DrawsOnly (scan15Read op) := by
  unfold scan15Read
  split <;> exact fun _ => rfl

theorem scan15Write_undescribed {op : BitVec 4} (h : 11 ≤ op.toNat) : scan15Write op = writeNothing := by
  unfold scan15Write
  split
  case h_11 => rfl
  all_goals omega

/-! A step that is an event of the environment. -/

/-- A step with an event next is that event, after which the ETM outputs follow (D18, 61 R725). -/
theorem step_event {s t : State} {e : EnvEvent} {rest : List EnvEvent} (h : s.env = e :: rest)
    (hr : runEvent e (Claims.atEvent s rest) = .next t) : ∃ tr : Trace, step s = .next { t with trace := tr } := by
  obtain ⟨tr, ht⟩ := driveEtm_changes t
  refine ⟨tr, ?_⟩
  unfold step machineStep
  rw [h, ← ht]
  exact congrArg (onNext · State.driveEtm) hr

/-- With DBGTCKEN High the TAP is clocked (61 R681, R705). -/
theorem whenTapClocked_high {s : State} (h : s.pins.dbgtcken = true) (r : Result) : s.whenTapClocked r = r := if_pos h

end Sys2Proof.Machine

namespace Sys2Proof.Claims

open Sys2Proof.Machine

/-- What is written to an EmbeddedICE-RT register is read back at its width, and nothing else of the machine changes (61 R690). -/
theorem iceWriteReg_readBack (s : State) (a : BitVec 5) (v : Word) (mask : Word)
    (h : (a, mask) ∈ ([(0b01000#5, 0xFFFFFFFF#32), (0b01001#5, 0xFFFFFFFF#32), (0b01010#5, 0xFFFFFFFF#32),
      (0b01011#5, 0xFFFFFFFF#32), (0b01100#5, 0x1FF#32), (0b01101#5, 0xFF#32), (0b10000#5, 0xFFFFFFFF#32),
      (0b10001#5, 0xFFFFFFFF#32), (0b10010#5, 0xFFFFFFFF#32), (0b10011#5, 0xFFFFFFFF#32), (0b10100#5, 0x1FF#32),
      (0b10101#5, 0xFF#32), (0b00000#5, 0x37#32)] : List (BitVec 5 × Word))) :
    (iceReadReg (iceWriteReg s a v) a).1 = v &&& mask ∧ { iceWriteReg s a v with ice := s.ice } = s := by
  have hall : v = v &&& 0xFFFFFFFF#32 := BitVec.and_allOnes.symm
  simp only [List.mem_cons, Prod.mk.injEq, List.not_mem_nil, or_false] at h
  rcases h with ⟨rfl, rfl⟩ | ⟨rfl, rfl⟩ | ⟨rfl, rfl⟩ | ⟨rfl, rfl⟩ | ⟨rfl, rfl⟩ | ⟨rfl, rfl⟩ | ⟨rfl, rfl⟩ | ⟨rfl, rfl⟩ |
    ⟨rfl, rfl⟩ | ⟨rfl, rfl⟩ | ⟨rfl, rfl⟩ | ⟨rfl, rfl⟩ | ⟨rfl, rfl⟩
  -- the values and masks of unit 0, then its control value and control mask
  · exact ⟨hall, rfl⟩
  · exact ⟨hall, rfl⟩
  · exact ⟨hall, rfl⟩
  · exact ⟨hall, rfl⟩
  · exact ⟨setWidth_extractLsb'_zero v 9, rfl⟩
  · exact ⟨setWidth_extractLsb'_zero v 8, rfl⟩
  -- those of unit 1
  · exact ⟨hall, rfl⟩
  · exact ⟨hall, rfl⟩
  · exact ⟨hall, rfl⟩
  · exact ⟨hall, rfl⟩
  · exact ⟨setWidth_extractLsb'_zero v 9, rfl⟩
  · exact ⟨setWidth_extractLsb'_zero v 8, rfl⟩
  -- debug control
  · exact ⟨debugControl_kept v, rfl⟩

/-- IFEN with DBGEN High (61 R697). -/
theorem ifen_enabled {s : State} (h : s.pins.dbgen = true) : s.ifen = (!s.dbgack && !(s.ice.ctrl.getLsbD 2)) := by
  rw [State.ifen, h]
  rfl

theorem trans1_halted {s : State} (h : s.dbg.halted = true) : s.trans1 = s.dbg.trans1 := if_pos h

/-- Settles O55. -/
theorem debuggerRegisters : Obligations.DebuggerRegisters := by
  refine ⟨iceWriteReg_readBack, fun s v => ?status, fun s v => ?channel, fun s a v rest => ?events, fun s op v => ?chain15,
    fun s v => ?cp15⟩
  case status =>
    obtain ⟨hack, hrq, hifen, htrans, ht, hmoe⟩ := statusWord_bits s
    exact ⟨rfl, hack, hrq, hifen, ifen_enabled, fun h => htrans.trans (trans1_halted h), ht, hmoe, Bool.and_false _⟩
  case channel => exact ⟨congrArg (·, s) (dccControl_debugger s.dcc.w s.dcc.r), rfl, rfl⟩
  case events =>
    refine ⟨fun he hclocked => ?_, fun he hclocked => ?_, fun h => ?_, fun h => ?_⟩
    · have hrun : runEvent (.iceRead a) (atEvent s rest) = .next (State.keepRead (iceReadReg (atEvent s rest) a)) :=
        whenTapClocked_high (s := atEvent s rest) hclocked _
      obtain ⟨tr, hstep⟩ := step_event he hrun
      exact ⟨_, hstep, rfl⟩
    · have hrun : runEvent (.iceWrite a v) (atEvent s rest) = .next (iceWriteEvent (atEvent s rest) a v) :=
        whenTapClocked_high (s := atEvent s rest) hclocked _
      obtain ⟨tr, hstep⟩ := step_event he hrun
      refine ⟨_, hstep, rfl, rfl, ?_⟩
      show (iceWriteReg (atEvent s rest) a v).gpr = _ ∧ (iceWriteReg (atEvent s rest) a v).cpsr = _ ∧
        (iceWriteReg (atEvent s rest) a v).pc = _
      obtain ⟨i, d, hw⟩ := iceWriteReg_changes (atEvent s rest) a v
      rw [hw]
      exact ⟨rfl, rfl, rfl⟩
    · have hwrite : s.tap.chain2.getLsbD 37 = true := by rw [h]; exact scan_flag 1#1 a v
      have haddr : s.tap.chain2.extractLsb' 32 5 = a := by rw [h]; exact scan_address 1#1 a v
      have hdata : s.tap.chain2.extractLsb' 0 32 = v := by rw [h]; exact BitVec.extractLsb'_append_eq_right
      rw [updateChain2, if_pos hwrite, haddr, hdata]
    · have hread : s.tap.chain2.getLsbD 37 = false := by rw [h]; exact scan_flag 0#1 a v
      have haddr : s.tap.chain2.extractLsb' 32 5 = a := by rw [h]; exact scan_address 0#1 a v
      rw [updateChain2, hread, if_neg Bool.false_ne_true, haddr]
      exact BitVec.extractLsb'_append_eq_right
  case chain15 =>
    refine ⟨fun h => ?_, fun h => ?_, fun h => by rw [scan15Write_undescribed h]; rfl⟩
    · have hwrite : s.tap.chain15.getLsbD 36 = true := by rw [h]; exact scan_flag 1#1 op v
      have hop : s.tap.chain15.extractLsb' 32 4 = op := by rw [h]; exact scan_address 1#1 op v
      have hdata : s.tap.chain15.extractLsb' 0 32 = v := by rw [h]; exact BitVec.extractLsb'_append_eq_right
      rw [updateChain15, if_pos hwrite, hop, hdata]
    · have hread : s.tap.chain15.getLsbD 36 = false := by rw [h]; exact scan_flag 0#1 op v
      have hop : s.tap.chain15.extractLsb' 32 4 = op := by rw [h]; exact scan_address 0#1 op v
      rw [updateChain15, hread, if_neg Bool.false_ne_true, hop]
      rfl
  case cp15 =>
    refine ⟨?control, ?fsr, ?pid, fun op => scan15Read_draws op s, ?written, rfl, fun k => ?tlb,
      fun k => invalidateTlbWhere_entries s (fun e => tlbMatches e v) k, ?tlbFrame, rfl, rfl, rfl, rfl, rfl, rfl, rfl, rfl, rfl, rfl,
      rfl, invalidateCache_lines s, rfl⟩
    case control =>
      rw [← controlBits_eq, ← controlBits_masked]
      exact freeBits_masked 0xFFFFDC00#32 (controlBits s.cp15) _ s (by decide)
    case fsr => exact (freeBits_masked 0xFFFFFE00#32 (s.cp15.fsr.setWidth 32) _ s (by decide)).trans (fsrBits_masked _)
    case pid => exact (freeBits_masked 0x01FFFFFF#32 (s.cp15.pid ++ 0#25) _ s (by decide)).trans (pidBits_masked _)
    case written =>
      rw [← controlBits_eq]
      exact controlBits_written s.cp15 v
    case tlb =>
      refine (invalidateTlbWhere_entries s (fun e => !(s.params.tlbInvalidateKeepsPreserved && e.preserve)) k).trans ?_
      cases s.params.tlbInvalidateKeepsPreserved && s.tlb.entries[k].preserve <;> rfl
    case tlbFrame =>
      rintro op (rfl | rfl) <;> rfl

end Sys2Proof.Claims
end

section
/-! PROOFS. The TAP controller (61 R705, R706, R708 to R710, R713, R714; 70 R746): its clocks with DBGTCKEN High, in the states of an
instruction scan and at scan chain 1. -/

namespace Sys2Proof.Machine

/-! The clocks of an instruction scan. -/

/-- A shift moves each bit one place down. -/
theorem irShift_bit (b : Bool) (x : BitVec 4) {k : Nat} (hk : k < 3) :
    (BitVec.ofBool b ++ x.extractLsb' 1 3).getLsbD k = x.getLsbD (k + 1) := by
  revert b x
  interval_cases k <;> decide

/-- After four shifts the register holds what was shifted in. -/
theorem irShift_filled (x : BitVec 4) (b0 b1 b2 b3 : Bool) :
    BitVec.ofBool b3 ++ (BitVec.ofBool b2 ++ (BitVec.ofBool b1 ++ (BitVec.ofBool b0 ++ x.extractLsb' 1 3).extractLsb' 1 3).extractLsb'
      1 3).extractLsb' 1 3 = BitVec.ofBool b3 ++ BitVec.ofBool b2 ++ BitVec.ofBool b1 ++ BitVec.ofBool b0 := by
  revert x b0 b1 b2 b3
  decide

section
variable {s : State} (hc : s.pins.dbgtcken = true)
include hc

/-- CAPTURE-IR loads 0001 into the shift register (61 R709). -/
theorem tapClock_captureIr (h : s.tap.state = .captureIr) (tdi : Bool) :
    ∃ t : State, tapClock s false tdi = .next t ∧ t.pins.dbgtcken = true ∧ t.tap.state = .shiftIr ∧
      t.tap.irShift = 0b0001#4 := by
  rw [tapClock, if_pos hc, tapAction]
  simp only [State.setTap, h]
  exact ⟨_, rfl, hc, rfl, rfl⟩

/-- One bit goes in at the most significant end, and the least significant one comes out. -/
theorem tapClock_shiftIr (h : s.tap.state = .shiftIr) (tms tdi : Bool) :
    ∃ t : State, tapClock s tms tdi = .next t ∧ t.pins.dbgtcken = true ∧
      t.tap.state = (if tms then .exit1Ir else .shiftIr) ∧ t.tap.tdo = s.tap.irShift.getLsbD 0 ∧
      t.tap.irShift = BitVec.ofBool tdi ++ s.tap.irShift.extractLsb' 1 3 := by
  rw [tapClock, if_pos hc, tapAction]
  simp only [State.setTap, h]
  cases tms <;> exact ⟨_, rfl, hc, rfl, rfl, rfl⟩

/-- UPDATE-IR makes what was shifted in the current instruction. -/
theorem tapClock_exit1Ir (h : s.tap.state = .exit1Ir) (tdi : Bool) :
    ∃ t : State, tapClock s true tdi = .next t ∧ t.tap.state = .updateIr ∧ t.tap.ir = s.tap.irShift := by
  rw [tapClock, if_pos hc, tapAction]
  simp only [State.setTap, h]
  exact ⟨_, rfl, rfl, rfl⟩

end

/-- The registers that IDCODE and, in INTEST, scan chain 1 connect (61 R707). -/
theorem tapRegister_idCode {t : Tap} (h : t.ir = 0b1110#4) : tapRegister t = .idCode := by
  rw [tapRegister, h]
  rfl

theorem tapRegister_chain1 {t : Tap} (hi : t.ir = 0b1100#4) (hsel : t.scanSel = 1#4) : tapRegister t = .chain1 := by
  rw [tapRegister, hi, hsel]
  rfl

end Sys2Proof.Machine

namespace Sys2Proof.Claims

open Sys2Proof.Machine

/-- Settles O56: an instruction scan is the clocks of CAPTURE-IR, SHIFT-IR four times, and EXIT1-IR. -/
theorem tapController : Obligations.TapController := by
  refine ⟨fun t => ?reset, fun s rest he => ?ntrst, fun s b0 b1 b2 b3 last hc hs => ?scan, fun s hi => ?idCode,
    fun s tms tdi hc => ?unclocked, fun s w hrun hi hsel => ?intest⟩
  case reset => cases t <;> rfl
  case ntrst =>
    obtain ⟨tr, hstep⟩ := step_event (s := s) (t := (atEvent s rest).debugReset) he rfl
    exact ⟨_, hstep, rfl, rfl, rfl, rfl, rfl, rfl, rfl, rfl, rfl, rfl⟩
  case scan =>
    obtain ⟨t0, h0, hc0, hs0, hr0⟩ := tapClock_captureIr hc hs b0
    obtain ⟨t1, h1, hc1, hs1, ho1, hr1⟩ := tapClock_shiftIr hc0 hs0 false b0
    obtain ⟨t2, h2, hc2, hs2, ho2, hr2⟩ := tapClock_shiftIr hc1 hs1 false b1
    obtain ⟨t3, h3, hc3, hs3, ho3, hr3⟩ := tapClock_shiftIr hc2 hs2 false b2
    obtain ⟨t4, h4, hc4, hs4, ho4, hr4⟩ := tapClock_shiftIr hc3 hs3 true b3
    obtain ⟨t5, h5, hs5, hi5⟩ := tapClock_exit1Ir hc4 hs4 last
    refine ⟨t0, t1, t2, t3, t4, t5, h0, h1, h2, h3, h4, h5, ?_, ?_, ?_, ?_, hs5, ?_⟩
    · rw [ho1, hr0]; rfl
    · rw [ho2, hr1, irShift_bit _ _ (by decide), hr0]; rfl
    · rw [ho3, hr2, irShift_bit _ _ (by decide), hr1, irShift_bit _ _ (by decide), hr0]; rfl
    · rw [ho4, hr3, irShift_bit _ _ (by decide), hr2, irShift_bit _ _ (by decide), hr1, irShift_bit _ _ (by decide), hr0]; rfl
    · rw [hi5, hr4, hr3, hr2, hr1, hr0, irShift_filled]
  case idCode =>
    rw [captureDr, tapRegister_idCode hi]
    rfl
  case unclocked => rw [tapClock, hc, if_neg Bool.false_ne_true]
  case intest =>
    have htest : s.testMode = true := by
      rw [State.testMode, hrun, hi, hsel]
      rfl
    have hreg := tapRegister_chain1 hi hsel
    constructor
    · rw [captureDr, hreg]
      dsimp only
      rw [captureChain1, hrun, if_neg Bool.false_ne_true]
      rfl
    · refine ⟨s.setTap { s.tap with parallel1 := s.tap.chain1 }, ?_, if_pos htest, if_pos htest⟩
      rw [updateDr, hreg]
      dsimp only
      rw [updateChain1, hrun, if_neg Bool.false_ne_true]

end Sys2Proof.Claims
end

section
/-! PROOFS. Reset (70 R741 to R743, R747): HRESETn leaves the MMU off and the write buffer empty, and what is then fetched changes nothing
that the reset has set. -/

namespace Sys2Proof.Machine

/-! Fetches with the MMU off, an empty write buffer and no other master. -/

/-- Nothing changes but the queue, the bus and the outputs, the comparators and the count of free values. -/
def FetchedOnly (s t : State) : Prop :=
  ∃ q i b tr n, t = { s with queue := q, ice := i, bus := b, trace := tr, draws := n }

theorem FetchedOnly.refl (s : State) : FetchedOnly s s := ⟨_, _, _, _, _, rfl⟩

theorem FetchedOnly.trans {s t u : State} (h : FetchedOnly s t) (k : FetchedOnly t u) : FetchedOnly s u := by
  obtain ⟨_, _, _, _, _, rfl⟩ := h
  obtain ⟨_, _, _, _, _, rfl⟩ := k
  exact ⟨_, _, _, _, _, rfl⟩

/-- The MMU is off, the write buffer is empty and no other master writes. -/
structure Unbuffered (s : State) : Prop where
  mmuOff : s.cp15.m = false
  drained : s.writeBuffer = []
  alone : s.masters = []

theorem Unbuffered.fetched {s t : State} (h : Unbuffered s) (k : FetchedOnly s t) : Unbuffered t := by
  obtain ⟨_, _, _, _, _, rfl⟩ := k
  exact ⟨h.mmuOff, h.drained, h.alone⟩

theorem drainAll_drained {s : State} (h : s.writeBuffer = []) : s.drainAll = s := by
  rw [State.drainAll, h]
  rfl

theorem observe_fetchedOnly (s : State) (o : Observed) : FetchedOnly s (s.observe o) := by
  obtain ⟨i, tr, h⟩ := observe_changes s o
  exact ⟨s.queue, i, s.bus, tr, s.draws, h⟩

theorem busRead_fetchedOnly {s : State} (h : Unbuffered s) (a : Word) (size : Size) (shape : BusShape) (prot : BitVec 4)
    (lock : Bool) : FetchedOnly s (busRead s a size shape prot lock).state := by
  unfold busRead
  dsimp only
  rw [onBus_alone _ h.alone]
  cases s.regionOf (sizeAlign size a) <;> exact ⟨_, _, _, _, _, rfl⟩

theorem fetchSlot_fetchedOnly {s : State} (h : Unbuffered s) (a : Word) : FetchedOnly s (fetchSlot s a).2 := by
  unfold fetchSlot
  simp only [translate, h.mmuOff, Bool.false_eq_true, if_false, State.flatMapping, externalOrCached, State.cacheOn, Bool.and_false,
    Bool.false_and, drainAll_drained h.drained]
  exact (busRead_fetchedOnly h _ _ _ _ _).trans (observe_fetchedOnly _ _)

theorem queue_fetchedOnly (s : State) (q : List FetchSlot) : FetchedOnly s { s with queue := q } := ⟨_, _, _, _, _, rfl⟩

theorem nextSlot_fetchedOnly {s : State} (h : Unbuffered s) (a : Word) : FetchedOnly s (nextSlot s a).2 := by
  unfold nextSlot
  split
  · split
    · exact observe_fetchedOnly _ _
    · exact fetchSlot_fetchedOnly h a
  · exact fetchSlot_fetchedOnly h a

theorem fillQueue_fetchedOnly {s : State} (h : Unbuffered s) (n : Nat) : FetchedOnly s (s.fillQueue n) := by
  induction n generalizing s with
  | zero => exact .refl s
  | succ n ih =>
    unfold State.fillQueue
    split
    · have hslot := nextSlot_fetchedOnly h (s.pc + s.instrBytes * BitVec.ofNat 32 s.queue.length)
      exact (hslot.trans (queue_fetchedOnly _ _)).trans (ih ((h.fetched hslot).fetched (queue_fetchedOnly _ _)))
    · exact .refl s

theorem refill_fetchedOnly {s : State} (h : Unbuffered s) : FetchedOnly s s.refill := by
  unfold State.refill
  split
  · exact .refl s
  · exact fillQueue_fetchedOnly h 3

/-- The registers of a watchpoint unit and the debug control register are not what a fetch changes of EmbeddedICE-RT. -/
theorem refill_units (s : State) :
    s.refill.ice.unit0 = s.ice.unit0 ∧ s.refill.ice.unit1 = s.ice.unit1 ∧ s.refill.ice.ctrl = s.ice.ctrl := by
  unfold State.refill
  split
  · exact ⟨rfl, rfl, rfl⟩
  · have h := (fillQueue_fetched s 3).step
    exact ⟨h.unit0, h.unit1, h.iceCtrl⟩

/-! HRESETn. -/

/-- What HRESETn acts on: a core at system speed has left debug state (log 6). -/
def State.running (s : State) : State := if s.dbg.halted then s.leaveDebug else s

theorem running_halted (s : State) : s.running.dbg.halted = false := by
  unfold State.running
  split
  · rfl
  · exact Bool.eq_false_of_not_eq_true ‹_›

theorem running_changes (s : State) : ∃ d, s.running = { s with dbg := d } := by
  unfold State.running
  split <;> exact ⟨_, rfl⟩

theorem hardReset_unbuffered {s : State} (h : s.masters = []) : Unbuffered s.hardReset := ⟨rfl, rfl, h⟩

/-- After HRESETn the queue is filled once the bus is clocked. -/
theorem resetNow_fetchedOnly {s : State} (h : s.masters = []) : FetchedOnly s.running.hardReset s.resetNow := by
  have halone : s.running.masters = [] := by
    obtain ⟨d, hd⟩ := running_changes s
    rw [hd, h]
  unfold State.resetNow
  dsimp only
  split
  · exact refill_fetchedOnly (hardReset_unbuffered halone)
  · exact .refl _

theorem resetNow_units (s : State) : s.resetNow.ice.unit0 = s.ice.unit0 ∧ s.resetNow.ice.unit1 = s.ice.unit1 ∧
    s.resetNow.ice.ctrl = s.ice.ctrl := by
  have hice : s.running.hardReset.ice = s.ice := by
    obtain ⟨d, hd⟩ := running_changes s
    rw [hd]
    rfl
  rw [← hice]
  unfold State.resetNow
  dsimp only
  split
  · exact refill_units s.running.hardReset
  · exact ⟨rfl, rfl, rfl⟩

/-- An event that is refused refuses the step. -/
theorem step_refused {s : State} {e : EnvEvent} {rest : List EnvEvent} {r : Refusal} (h : s.env = e :: rest)
    (hr : runEvent e (Claims.atEvent s rest) = .refused r) : step s = .refused r := by
  unfold step machineStep
  rw [h]
  exact congrArg (onNext · State.driveEtm) hr

end Sys2Proof.Machine

namespace Sys2Proof.Claims

open Sys2Proof.Machine

/-- Settles O46. -/
theorem resetState : Obligations.ResetState := by
  refine ⟨rfl, rfl, rfl, rfl, rfl, rfl, rfl, rfl, fun k => ?_, fun k => ?_, rfl, rfl, ?_, rfl, rfl, rfl, rfl, rfl, rfl, rfl, rfl⟩
  · exact congrArg CacheLine.valid (Vector.getElem_replicate (a := CacheLine.zero) k.isLt)
  · exact congrArg TlbEntry.valid (Vector.getElem_replicate (a := TlbEntry.zero) k.isLt)
  · rintro u (rfl | rfl) <;> exact ⟨rfl, rfl, rfl, rfl, rfl, rfl⟩

theorem controlWord_reset (vinithi : Bool) :
    controlWord (resetCp15 vinithi) = if vinithi then 0x2070#32 else 0x70#32 := by
  cases vinithi <;> rfl

/-- Settles O47: what HRESETn sets stands after the fetches that fill the queue (`resetNow_fetchedOnly`). -/
theorem hardReset : Obligations.HardReset := by
  refine ⟨fun s rest he hslow => ?_, fun s rest hslow => ⟨fun he => ?_, fun done seen he => ?_, fun p he ht hs hrq hb hend => ?_⟩⟩
  · have hrun : runEvent .hreset (atEvent s rest) = .next (atEvent s rest).resetNow :=
      if_neg (by rw [show (atEvent s rest).debugSpeed = false from hslow]; exact Bool.false_ne_true)
    obtain ⟨tr, hstep⟩ := step_event he hrun
    have hunits := resetNow_units (atEvent s rest)
    have hhalted := running_halted (atEvent s rest)
    obtain ⟨d, hd⟩ := running_changes (atEvent s rest)
    obtain ⟨q, i, b, tr', n, ht⟩ := resetNow_fetchedOnly (s := atEvent s rest) rfl
    rw [hd] at ht hhalted
    rw [ht] at hstep hunits
    obtain ⟨h0, h1, hctrl⟩ := hunits
    exact ⟨_, hstep, rfl, rfl, rfl, rfl, rfl, controlWord_reset _, rfl, fun k => congrArg CacheLine.valid (Vector.getElem_map _ _),
      fun k => congrArg TlbEntry.valid (Vector.getElem_map _ _), rfl, rfl, rfl, h0, h1, hctrl, rfl, hhalted, rfl⟩
  · exact step_refused he (if_pos hslow)
  · exact step_refused he (if_pos hslow)
  · refine step_refused he ?_
    show changePins _ p = _
    rw [changePins, ht, hs, hrq, hb, show (atEvent s rest).debugSpeed = true from hslow]
    exact if_pos (bne_iff_ne.mpr hend)

end Sys2Proof.Claims
end

section
/-! PROOFS. RESTART of a branch (61 R719): the core that leaves debug state fetches without what other masters would have written between
the transfers of the step before (log 36, log 48), so that memory need not settle as the statement says. -/

namespace Sys2Proof.Claims

open Sys2Proof.Machine

/-! What RESTART and the begin of an inserted instruction leave. -/

theorem atEvent_cpsr (s : State) (rest : List EnvEvent) : (atEvent s rest).cpsr = s.cpsr := rfl
theorem restartTap_cpsr (s : State) : s.restartTap.cpsr = s.cpsr := rfl
theorem beginInserted_cpsr (s : State) (w : Word) : (s.beginInserted w).cpsr = s.cpsr := rfl
theorem leaveDebug_cpsr (s : State) : s.leaveDebug.cpsr = s.cpsr := rfl

theorem restartTap_settled (s : State) : Settled s s.restartTap := .of_eq rfl rfl rfl rfl
theorem beginInserted_settled (s : State) (w : Word) : Settled s (s.beginInserted w) := .of_eq rfl rfl rfl rfl
theorem leaveDebug_settled (s : State) : Settled s s.leaveDebug := .of_eq rfl rfl rfl rfl
theorem branchTo_settled (s : State) (a : Word) : Settled s (s.branchTo a) := .of_eq rfl rfl rfl rfl

/-- An inserted word is decoded by the state bit, the byte order and the PC (61 R717). -/
theorem insertedInstr_frame {s t : State} (hcpsr : t.cpsr = s.cpsr) (hpc : t.pc = s.pc) (hcp15 : t.cp15 = s.cp15) (w : Word) :
    t.insertedInstr w = s.insertedInstr w := by
  simp only [State.insertedInstr, State.insertedBits, State.decodeBits, hcpsr, hpc, hcp15]

/-- The state in which a waiting branch executes: debug state is left, and other masters write no longer. -/
def branchState (s : State) (rest : List EnvEvent) (w : Word) : State :=
  ((atEvent s rest).restartTap.beginInserted w).leaveDebug

theorem branchState_cpsr (s : State) (rest : List EnvEvent) (w : Word) : (branchState s rest w).cpsr = s.cpsr := by
  rw [branchState, leaveDebug_cpsr, beginInserted_cpsr, restartTap_cpsr, atEvent_cpsr]

/-- That state after the branch. -/
def branchedState (s : State) (rest : List EnvEvent) (w : Word) (off24 : BitVec 24) : State :=
  (branchState s rest w).branchTo (branchTarget (branchState s rest w) off24)

theorem branchedState_settled (s : State) (rest : List EnvEvent) (w : Word) (off24 : BitVec 24) :
    Settled (atEvent s rest) (branchedState s rest w off24) :=
  (((restartTap_settled _).trans (beginInserted_settled _ w)).trans (leaveDebug_settled _)).trans (branchTo_settled _ _)

/-- The queue is empty after a branch, so that RESTART fills it at the target (61 R719). -/
theorem restartWith_branch {s : State} {w : Word} {cond : Cond} {off24 : BitVec 24} {u : State}
    (hu : u = (s.beginInserted w).leaveDebug) (hc : condPassed cond u.cpsr = true) :
    restartWith s w (.b cond off24) = .next (u.branchTo (branchTarget u off24)).refill := by
  have hexec : exec (.b cond off24) u = .next (u.branchTo (branchTarget u off24)) := conditionally_pass hc
  unfold restartWith
  dsimp only [debugClass]
  rw [← hu, hexec]
  rfl

/-- RESTART runs a branch that waits and fills the queue at its target. -/
theorem restart_branch {s : State} {rest : List EnvEvent} {w : Word} {cond : Cond} {off24 : BitVec 24}
    (h : Debugging s .restart rest) (hclocked : s.pins.hclken = true) (hw : s.dbg.pending = some w)
    (hi : s.insertedInstr w = some (.b cond off24)) (hc : condPassed cond s.cpsr = true) :
    step s = .next (ended (branchedState s rest w off24)) := by
  have hlegal : legalMode (atEvent s rest).restartTap.cpsr.m = true := h.legal
  have hpending : (atEvent s rest).restartTap.dbg.pending = some w := hw
  have hinstr : (atEvent s rest).restartTap.insertedInstr w = some (.b cond off24) := (insertedInstr_frame rfl rfl rfl w).trans hi
  have hhalted : (atEvent s rest).restartTap.dbg.halted = true := h.halted
  have hhclken : (atEvent s rest).restartTap.pins.hclken = true := hclocked
  have hnow : restartNow (atEvent s rest).restartTap = .next (branchedState s rest w off24).refill := by
    unfold restartNow
    rw [if_pos hlegal, hpending]
    dsimp only
    rw [hinstr]
    exact restartWith_branch rfl ((congrArg (condPassed cond) (branchState_cpsr s rest w)).trans hc)
  have hrestart : restart (atEvent s rest).restartTap = .next (branchedState s rest w off24).refill := by
    rw [restart, if_pos hhalted, resume, hnow]
    dsimp only
    rw [hhclken, Bool.true_or, if_pos rfl]
  have hrun : runEvent .restart (atEvent s rest) = .next (branchedState s rest w off24).refill :=
    (whenTapClocked_high (s := atEvent s rest) h.clocked _).trans hrestart
  unfold step machineStep
  rw [h.event]
  exact congrArg (onNext · State.driveEtm) hrun

/-- A branch waits for RESTART, one write stands in the write buffer, and another master would write address 0 before the next
transfer. -/
def branchWaits : State :=
  { State.reset with
    dbg := { State.reset.dbg with halted := true, pending := some 0xEAFFFFFE#32 }
    env := [.restart]
    masters := [[{ addr := 0#32, data := 5#8 }]]
    writeBuffer := [{ addr := 0x100#32, size := .word, data := 0#32, bigEndian := false, prot := 0#4 }] }

/-- Refutes O57: the clause of the branch does not ask that no other master writes. With `branchWaits` memory was to settle with the
other master's 5 at address 0, but the step begins without that write, and its fetches drain the write buffer alone. -/
theorem not_insertionAndRestart : ¬ Obligations.InsertionAndRestart := by
  rintro ⟨-, -, -, hbranch, -⟩
  have hwaits : Debugging branchWaits .restart [] := ⟨rfl, rfl, rfl, rfl, rfl⟩
  obtain ⟨v, hstep, -, -, -, -, -, -, hbytes⟩ := hbranch branchWaits 0xEAFFFFFE#32 [] .al 0xFFFFFE#24 hwaits rfl rfl rfl rfl
  rw [restart_branch hwaits rfl rfl rfl (cond := .al) (off24 := 0xFFFFFE#24) rfl] at hstep
  cases hstep
  have hsettled := ((branchedState_settled branchWaits [] 0xEAFFFFFE#32 0xFFFFFE#24).trans (ended_fetched _).settled).byte rfl 0#32
  have hbefore : branchWaits.settledByte 0#32 = 5#8 := by decide
  have hafter : (atEvent branchWaits []).settledByte 0#32 = 0#8 := by decide
  exact absurd (hbefore.symm.trans ((hbytes 0#32).symm.trans (hsettled.trans hafter))) (by decide)

end Sys2Proof.Claims
end
